-- ==== Sys2Proof/Word.lean ====
section
/-!
DEFINITION. The plain words the block exchanges with the outside (bytes), and the type of a sparse numbered
table. The operations on both stand in Machine/Operands.lean and Machine/Table.lean.
-/

namespace Sys2Proof

/-- One byte of a console-port frame or of a dimmer-link frame (R141, R142, R180, R181). -/
abbrev Byte := BitVec 8

/-- A numbered collection of the block (circuits, playbacks, channel entries, rack rows, ...), held sparsely: the
pairs of a number and what stands there, in rising order of number, with nothing listed that equals what an
unlisted number holds. The operations and the canonical form are in Machine/Table.lean. -/
abbrev Tbl (α : Type) := List (Nat × α)

end Sys2Proof
end

