-- ==== Sys2Proof/Syntax.lean ====
section
/-!
DEFINITION. The commands of the block: one constructor for each row of spec/opcode_table.json, in the table's
order. A row is one whole, indivisible event of the part.

What an operand is. The rows that come from outside (a frame, a reply, a timer, a line) carry which port or link
they happen on and what arrives: on a console port the start marks and bytes the line brings, up to the one that ends
the frame (R184). The request rows (`patchSet` to `statusAck`) are the event at which THE
REQUEST ENGINE TAKES that request from the head of a port queue and performs it (R189). Which port it is taken from is
decided by the engine's own rule, and the request's sequence number and parameters are the bytes that stand in the
queue since the frame's arrival (R185). These rows therefore carry no operand of their own: their operands are in
the queue, parameter byte for parameter byte, so that the check of the parameter length (step 1 of every request)
and every code a request may carry are part of the meaning.
-/

namespace Sys2Proof

/-- The two console ports (R183). -/
inductive Port where
  | p1 | p2
  deriving DecidableEq, Repr

/-- The four dimmer links A to D (R137); a request names them 1 to 4. -/
inductive LinkId where
  | a | b | c | d
  deriving DecidableEq, Repr

/-- What a console port's line brings: the start mark that begins a frame, or a byte (R180, R184). -/
inductive LineSymbol where
  | start
  | byte (b : Byte)
  deriving DecidableEq, Repr

/-- The commands of the block. -/
inductive Instr where
  /-- Return of the main supply (R195): whether the retain supply held the retained memory through the whole power
  loss, and whether the check kept over that memory agrees with its content. -/
  | powerOn (supplyHeld checkAgrees : Bool)
  /-- Assertion of the console reset line (R196). -/
  | consoleReset
  /-- Release of the console reset line (R196). -/
  | consoleResetRelease
  /-- A well-formed frame whose code is not DATA is complete on a port (R185); what the line brought up to it. -/
  | requestFrameArrival (port : Port) (symbols : List LineSymbol)
  /-- A frame with a malformed header ends on a port (R184), complete or cut off by a start mark; what the line brought
  up to it. -/
  | malformedFrameArrival (port : Port) (symbols : List LineSymbol)
  /-- A well-formed DATA frame is complete on a port (R187); what the line brought up to it. -/
  | dataFrameArrival (port : Port) (symbols : List LineSymbol)
  /-- One held data frame of a port is delivered (R186). -/
  | dataHoldDelivery (port : Port)
  /-- The inactivity timer of a port expires (R188). -/
  | inactivityTimeout (port : Port)
  | patchSet
  | patchSetIf
  | patchClear
  | patchClearIf
  | patchClearChannel
  | patchSwap
  | patchRange
  | patchLoad
  | patchReadChannel
  | patchReadCircuit
  | bankCopy
  | bankErase
  | bankLock
  | bankUnlock
  | circuitSet
  | circuitRead
  | rigSet
  | rigRead
  | rigLock
  | rigUnlock
  | curveLoad
  | curveRead
  | lookWrite
  | lookRead
  | lookDelete
  | go
  | release
  | hold
  | resume
  | stopLoop
  | master
  | deskClear
  /-- A DESK-CLEAR held at the head of a queue is performed after a switch event (R190). -/
  | heldDeskClearPerformed
  | playbackRead
  | fadeRead
  | channelRead
  | capture
  | uncapture
  | grand
  | blackout
  | mixerRead
  | outputRead
  | changeover
  /-- The changeover controller's switch event (R131). -/
  | switchEvent
  | rackSet
  | rackRead
  | faultClear
  | reassign
  | restore
  | transferRead
  | status
  | statusAck
  /-- Expiry of the 10 ms fade timer (R76). -/
  | fadeInterval
  /-- Expiry of a link's 25 ms frame timer (R139). -/
  | frameDue (link : LinkId)
  /-- The last byte of a link's poll frame has been sent (R146). -/
  | pollFrameEnd (link : LinkId)
  /-- A link's reply window has been open 4 ms (R146). -/
  | windowExpiry (link : LinkId)
  /-- A reply frame is complete on a link's return pair (R147); its bytes after the start mark. -/
  | replyArrival (link : LinkId) (bytes : List Byte)
  /-- The answer at the front of a port's outgoing answers has been wholly sent (R183). -/
  | answerWhollySent (port : Port)
  deriving DecidableEq, Repr

end Sys2Proof
end

