-- ==== Sys2Proof/Decode.lean ====
section
/-!
DEFINITION. The command a word spells by the table's bits. No row of spec/opcode_table.json gives bits: the part keeps no
memory-mapped window (section 1.2 of 00_scope.md), and its commands are frames and events. The frames' own forms, read and
written, are in Machine/Operands.lean.
-/

namespace Sys2Proof

/-- The command a word of the table's bits spells: none, since no row gives bits. -/
def decodeTableWord (_nbits _w : Nat) : Option Instr := none

end Sys2Proof
end

