-- ==== Sys2Proof/Config.lean ====
section
/-!
DEFINITION. The limits the manual fixes for the part, each with the rule that states it, and the free values: what
the manual leaves without a stated value (assumption log 3).
-/

namespace Sys2Proof.Config

/-- Records one bank holds at most (R5, R7). -/
abbrev bankRecords : Nat := 3072
/-- Records all banks hold together at most (R5, R7). -/
abbrev poolRecords : Nat := 8192
/-- Records of one channel in one bank at most (R5, R7). -/
abbrev channelRecords : Nat := 12
/-- Records of one circuit in one bank at most (R5, R7). -/
abbrev circuitRecords : Nat := 4
/-- Look headers of all banks together at most (R51). -/
abbrev lookHeaders : Nat := 768
/-- Look entries of all banks together at most (R51). -/
abbrev lookEntries : Nat := 32768
/-- Fade slots (R69). -/
abbrev fadeSlots : Nat := 48
/-- The full level (R98). -/
abbrev full : Nat := 4096
/-- Spare-role circuits of one rack at most (R33, R37). -/
abbrev rackSpares : Nat := 4
/-- Requests that wait in one port queue at most (R183, R185). -/
abbrev queueDepth : Nat := 4
/-- Data frames a port holds at most before their transfer opens (R183, R187). -/
abbrev holdDepth : Nat := 8
/-- The longest parameter length of a well-formed frame (R180, R184). -/
abbrev maxParams : Nat := 58
/-- Consecutive silent polls that make a rack LOST (R153). -/
abbrev silentLimit : Nat := 3
/-- Consecutive WAIT replies that count as one silent poll (R152). -/
abbrev waitLimit : Nat := 8
/-- Unacknowledged READY replies that abandon an order (R149, R169). -/
abbrev unackLimit : Nat := 3
/-- Look entries, or captures, one answer carries at most (R58, R108). -/
abbrev readRun : Nat := 14

/-- FREE VALUE (assumption log 3). The byte an answer carries for a number that R180 gives one byte and that does not
fit one: the pair index 256 of a PARTIAL answer to PATCH-RANGE (R19). Nothing states it. -/
opaque overlongByte : Nat → Byte

/-- FREE VALUE (assumption log 3). The two bytes, high one first, an answer carries for a number that R180 gives two
bytes and that does not fit two: an elapsed count or a completion count above 65535 (R68, R71, R95). Nothing states
them. -/
opaque overlongWord : Nat → Byte × Byte

end Sys2Proof.Config
end

