-- ==== Sys2Proof/Machine/State.lean ====
section
/-!
DEFINITION. The state of the part as plain data, the reasons a step can stop, and the state after reset (the first
power-on of a new part: retention LOST). Fields marked MODEL'S OWN are not the manual's: they hold what went out on a
line, or an event under way that the manual implies. INVENTORY.md lists every piece with its rule.
-/

namespace Sys2Proof.Machine

/-! ### Enumerated values -/

/-- The outcomes of an answer frame (R182). -/
inductive ReqOutcome where
  | done | inPart | locked | range | absent | mismatch | full | conflict | changing | busy | malformed
  deriving DecidableEq, Repr

/-- The request codes of R191, DATA apart (a data frame is not a request). -/
inductive ReqCode where
  | patchSet | patchSetIf | patchClear | patchClearIf | patchClearChannel | patchSwap | patchRange | patchLoad
  | patchReadChannel | patchReadCircuit | bankCopy | bankErase | bankLock | bankUnlock
  | circuitSet | circuitRead | rigSet | rigRead | rigLock | rigUnlock | curveLoad | curveRead
  | lookWrite | lookRead | lookDelete
  | go | release | hold | resume | stopLoop | master | deskClear | playbackRead | fadeRead | channelRead
  | capture | uncapture | grand | blackout | mixerRead | outputRead
  | changeover | rackSet | rackRead | faultClear | reassign | restore | transferRead | status | statusAck
  deriving DecidableEq, Repr

/-- A circuit's role (R32). -/
inductive Role where
  | ordinary | spareFree | spareHeld | spareInUse | failed | retired
  deriving DecidableEq, Repr

/-- A circuit's mode (R34). -/
inductive Mode where
  | dimmed | switched | off
  deriving DecidableEq, Repr

/-- A circuit's health (R36). -/
inductive Health where
  | ok | suspect | failed
  deriving DecidableEq, Repr

/-- A circuit's pairing together with its partner (R31, R33): with pairing NONE there is no partner, otherwise the
circuit at the other end. -/
inductive Pairing where
  | unpaired
  | ordered (partner : Nat)
  | confirmed (partner : Nat)
  | restoring (partner : Nat)
  deriving DecidableEq, Repr

/-- A playback's state (R64). -/
inductive PlayState where
  | idle | running | held
  deriving DecidableEq, Repr

/-- The part of a playback channel entry (R66). -/
inductive Part where
  | up | down
  deriving DecidableEq, Repr

/-- A look's loop, or a fade's loop passes remaining (R49, R68). -/
inductive Loop where
  | absent
  | endless
  | passes (n : Nat)
  deriving DecidableEq, Repr

/-- The changeover controller's phase (R122). -/
inductive Phase where
  | idle | darkening
  deriving DecidableEq, Repr

/-- A rack's state (R138). -/
inductive RackState where
  | unpolled | online | lost
  deriving DecidableEq, Repr

/-- A rack's thermal state (R138). -/
inductive Thermal where
  | normal | warm | hot
  deriving DecidableEq, Repr

/-- The kind of a transfer order (R138, R141). -/
inductive OrderKind where
  | transfer | undo
  deriving DecidableEq, Repr

/-- The three kinds of circuit report (R142, R150). -/
inductive ReportKind where
  | openLoad | short | dimmerFail
  deriving DecidableEq, Repr

/-- The retention result (R195). -/
inductive Retention where
  | retained | lost
  deriving DecidableEq, Repr

/-- A timer of the part, whose expiry is a command (section 2.3 of 00_scope.md). -/
inductive Timer where
  | stopped | running
  deriving DecidableEq, Repr

/-! ### Patch table and look store -/

/-- A patch record (R4). The bank is the one whose list holds the record. -/
structure PatchRec where
  channel : Nat
  circuit : Nat
  proportion : Nat
  original : Option Nat
  deriving DecidableEq, Repr

/-- A follow: a look number and the delay before it is sent (R49). -/
structure Follow where
  look : Nat
  delay : Nat
  deriving DecidableEq, Repr

/-- A look's header fields but for its bank, number and entry count (R49). -/
structure LookHeader where
  upTime : Nat
  downTime : Nat
  upDelay : Nat
  downDelay : Nat
  follow : Option Follow
  loop : Loop
  deriving DecidableEq, Repr

/-- One level entry of a look (R49). -/
structure LookEntry where
  channel : Nat
  level : Nat
  deriving DecidableEq, Repr

/-- A look: its header and its entry list (R49). Bank and number are where it stands; the entry count is the list's
length. -/
structure Look where
  header : LookHeader
  entries : List LookEntry
  deriving DecidableEq, Repr

/-- One bank: its lock (R2), its patch records in bank order (R4, R5) and its looks by number (R49, R50). -/
structure Bank where
  locked : Bool
  records : List PatchRec
  looks : Tbl (Option Look)
  deriving DecidableEq, Repr

/-- An empty, locked bank (R2, R3). -/
def Bank.initial : Bank := ⟨true, [], []⟩

/-! ### Circuit table, curves, rig settings -/

/-- A sticky fault flag with its new mark (R31, R35). -/
structure FaultFlag where
  isSet : Bool
  isNew : Bool
  deriving DecidableEq, Repr

/-- A circuit record (R31), with the re-send mark kept beside the pairing (R159). -/
structure Circuit where
  role : Role
  mode : Mode
  curve : Nat
  threshold : Nat
  park : Option Nat
  openDetect : Bool
  shortDetect : Bool
  openLoad : FaultFlag
  short : FaultFlag
  dimmerFail : FaultFlag
  health : Health
  pairing : Pairing
  resend : Bool
  deriving DecidableEq, Repr

/-- A circuit record with retention LOST (R48). -/
def Circuit.initial : Circuit :=
  ⟨.ordinary, .dimmed, 0, 2048, none, true, true, ⟨false, false⟩, ⟨false, false⟩, ⟨false, false⟩, .ok, .unpaired, false⟩

/-- The rig settings (R42) and the rig lock (R43). -/
structure Rig where
  autoTransfer : Bool
  spareReserve : Nat
  ceiling : Nat
  locked : Bool
  deriving DecidableEq, Repr

/-- The identity curve (R45): P_k = 256·k, P16 = 4096. -/
def identityCurve : List Nat :=
  [0, 256, 512, 768, 1024, 1280, 1536, 1792, 2048, 2304, 2560, 2816, 3072, 3328, 3584, 3840, 4096]

/-! ### Fade engine, channel mixer, changeover controller -/

/-- A playback channel entry (R66). -/
structure Entry where
  level : Nat
  owner : Option Nat
  start : Nat
  target : Nat
  part : Part
  deriving DecidableEq, Repr

/-- An entry standing at level 0 with no owner (R96). -/
def Entry.initial : Entry := ⟨0, none, 0, 0, .up⟩

/-- A playback's pending follow: the look number and the remaining delay (R63). -/
structure PendingFollow where
  look : Nat
  remaining : Nat
  deriving DecidableEq, Repr

/-- A playback record (R63) with the playback's channel entries by channel (R66). -/
structure Playback where
  master : Nat
  state : PlayState
  lastLook : Option Nat
  pendingFollow : Option PendingFollow
  followMissed : Bool
  forced : Bool
  entries : Tbl Entry
  deriving DecidableEq, Repr

/-- A playback after power-on (R96). -/
def Playback.initial : Playback := ⟨4096, .idle, none, none, false, false, []⟩

/-- A fade record (R68). -/
structure Fade where
  number : Nat
  playback : Nat
  look : Option Nat
  upTime : Nat
  downTime : Nat
  upDelay : Nat
  downDelay : Nat
  follow : Option Follow
  loop : Loop
  elapsed : Nat
  held : Bool
  owned : Nat
  completion : Nat
  deriving DecidableEq, Repr

/-- The changeover controller (R122). -/
structure Changeover where
  phase : Phase
  target : Option Nat
  darkTime : Nat
  elapsed : Nat
  scale : Nat
  switchDue : Bool
  deriving DecidableEq, Repr

/-- The controller in IDLE (R122). -/
def Changeover.initial : Changeover := ⟨.idle, none, 0, 0, 4096, false⟩

/-! ### Link controllers -/

/-- A transfer order as a poll frame names it: its kind, circuit index and spare index (R141, R159). -/
structure Order where
  kind : OrderKind
  circuitIndex : Nat
  spareIndex : Nat
  deriving DecidableEq, Repr

/-- A rack's pending order with its unacknowledged count (R138). -/
structure PendingOrder where
  order : Order
  unacknowledged : Nat
  deriving DecidableEq, Repr

/-- A rack row (R138). -/
structure RackRow where
  present : Bool
  state : RackState
  silent : Nat
  wait : Nat
  thermal : Thermal
  news : Bool
  pendingOrder : Option PendingOrder
  lostNotice : Bool
  returnedNotice : Bool
  abandonedNotice : Bool
  deriving DecidableEq, Repr

/-- A rack row after power-on with retention LOST (R138). -/
def RackRow.initial : RackRow := ⟨false, .unpolled, 0, 0, .normal, false, none, false, false, false⟩

/-- A link controller (R137): its frame timer, poll order, last polled rack, reply window (the rack it is open for)
and carried order, and its rack rows by rack number.
MODEL'S OWN: `polling`, the rack whose poll frame is still being sent (R139 step 4 to R146); `levelOut` and `pollOut`,
the bytes of the level frame and of the poll frame that the link's latest frame-due event put on the link, empty for
none (assumption log 6). -/
structure Link where
  frameTimer : Timer
  pollOrder : List Nat
  lastPolled : Option Nat
  window : Option Nat
  carried : Option Order
  rows : Tbl RackRow
  polling : Option Nat
  levelOut : List Byte
  pollOut : List Byte
  deriving DecidableEq, Repr

/-- A link controller after power-on with no rack present (R137, R138). The carried order, which R137 leaves without a value while no
window is open, is absent: DESIGN CHOICE, assumption log 24. The model's own fields are empty (assumption log 6). -/
def Link.initial : Link := ⟨.running, [], none, none, none, [], none, [], []⟩

/-- The four link controllers. -/
structure Links where
  a : Link
  b : Link
  c : Link
  d : Link
  deriving DecidableEq, Repr

/-! ### Console ports -/

/-- A request waiting in a port queue: its frame's sequence, code and parameter bytes (R180, R183). -/
structure Request where
  sequence : Byte
  code : ReqCode
  params : List Byte
  deriving DecidableEq, Repr

/-- A data frame: its sequence and data bytes (R180, R183). -/
structure DataFrame where
  sequence : Byte
  data : List Byte
  deriving DecidableEq, Repr

/-- The tally of an open patch load (R20, R186). -/
structure LoadTransfer where
  sequence : Byte
  bank : Nat
  announced : Nat
  received : Nat
  applied : Nat
  firstFailure : Option (Nat × ReqOutcome)
  deriving DecidableEq, Repr

/-- An open look write with its port's staging area (R52, R53, R186). -/
structure WriteTransfer where
  sequence : Byte
  bank : Nat
  number : Nat
  announced : Nat
  header : LookHeader
  staged : List LookEntry
  received : Nat
  fault : Option (Nat × ReqOutcome)
  deriving DecidableEq, Repr

/-- The bulk transfer open on a port (R186). -/
inductive Transfer where
  | load (t : LoadTransfer)
  | write (t : WriteTransfer)
  deriving DecidableEq, Repr

/-- An answer frame but for its check (R181). -/
structure Answer where
  sequence : Byte
  code : Byte
  outcome : ReqOutcome
  count : Nat
  data : List Byte
  deriving DecidableEq, Repr

/-- A console port (R183). The receive buffer is empty (`none`) or holds one partial frame, the bytes received since its start mark
(R184). `headHeld` says that the request at the head of the queue is a held one (R190). -/
structure PortState where
  receiveBuffer : Option (List Byte)
  queue : List Request
  headHeld : Bool
  transfer : Option Transfer
  dataHold : List DataFrame
  inactivityTimer : Timer
  outgoing : List Answer
  deriving DecidableEq, Repr

/-- A port with every item empty, absent or stopped (R183). -/
def PortState.initial : PortState := ⟨none, [], false, none, [], .stopped, []⟩

/-- The two console ports. -/
structure Ports where
  port1 : PortState
  port2 : PortState
  deriving DecidableEq, Repr

/-! ### The whole state -/

/-- The state of the part, and the queue of the commands that wait (`pending`, MODEL'S OWN). -/
structure State where
  banks : Tbl Bank
  liveBank : Nat
  circuits : Tbl Circuit
  rig : Rig
  curves : Tbl (List Nat)
  playbacks : Tbl Playback
  fades : List Fade
  fadeTimer : Timer
  captures : Tbl (Option Nat)
  grandmaster : Nat
  blackout : Bool
  changeover : Changeover
  links : Links
  ports : Ports
  servedLast : Option Port
  resetLine : Bool
  restartFlag : Bool
  retention : Retention
  pending : List Instr
  deriving DecidableEq, Repr

/-- Why the machine stops with a fault. No behaviour of this part stops it: the manual gives every event an effect or
an answer, so no meaning raises a fault, and the type has no constructor (safe: nothing is hidden behind a stop). -/
inductive Fault where
  deriving DecidableEq, Repr

/-- Why a command has no meaning. -/
inductive Refusal where
  /-- Raised only by an arm of `exec` whose command has no meaning yet, with the row's mnemonic; safe, since the model
  then says nothing. No arm of this model raises it. -/
  | notModelled (mnemonic : String)
  deriving DecidableEq, Repr

/-- The state after the first power-on of a new part: retention LOST, the factory state of every retained collection and
the power-on state of every block (R2, R3, R43, R48, R62, R96, R103, R122, R137, R138, R183, R189, R195). Where
those rules give no value it is the model's choice: the console reset line's level and what went out on the links (assumption log 1), a
link's carried order (log 24) and poll frame being sent (log 6), start, target and part of an entry without an owner (log 15), and the
queue of commands (log 16). -/
def State.reset : State where
  banks := []
  liveBank := 1
  circuits := []
  rig := ⟨false, 2, 204, true⟩
  curves := []
  playbacks := []
  fades := []
  fadeTimer := .running
  captures := []
  grandmaster := 4096
  blackout := false
  changeover := Changeover.initial
  links := ⟨Link.initial, Link.initial, Link.initial, Link.initial⟩
  ports := ⟨PortState.initial, PortState.initial⟩
  servedLast := none
  resetLine := false
  restartFlag := true
  retention := .lost
  pending := []

end Sys2Proof.Machine
end

