-- ==== Sys2Proof/Machine/Operands.lean ====
section
/-!
DEFINITION. The forms in which numbers, choices and frames stand on the console ports and on the dimmer links: the
layouts of R141, R142, R180 and R181, the codes of R180, R182 and R191, and the check that closes a frame.
Where the manual gives no width or no order for a value in an answer's data, assumption log 4 says what is taken.
-/

namespace Sys2Proof.Machine

/-! ### Bytes, words and the check -/

/-- A two-byte number, high byte first (R180). -/
def word (hi lo : Byte) : Nat := hi.toNat * 256 + lo.toNat

/-- The two bytes of a number below 65536, high byte first (R180). -/
def wordBytes (n : Nat) : List Byte := [BitVec.ofNat 8 (n / 256), BitVec.ofNat 8 n]

/-- The check of a frame: the sum, modulo 65536, of the bytes it closes (R141, R180). -/
def frameCheck (bytes : List Byte) : Nat := (bytes.map BitVec.toNat).sum % 65536

/-- A frame with its check, high byte first (R141, R180). -/
def closeFrame (bytes : List Byte) : List Byte := bytes ++ wordBytes (frameCheck bytes)

/-- Consecutive two-byte numbers, high byte first. -/
def words : List Byte → List Nat
  | hi :: lo :: t => word hi lo :: words t
  | _ => []

/-! ### Values in answer data (R180, R181) -/

/-- A number of one byte. -/
def enc1 (n : Nat) : List Byte := if n < 256 then [BitVec.ofNat 8 n] else [Config.overlongByte n]

/-- A number of two bytes, high byte first. -/
def enc2 (n : Nat) : List Byte :=
  if n < 65536 then wordBytes n else [(Config.overlongWord n).1, (Config.overlongWord n).2]

/-- A choice of two: 1 for on, yes, set or placed, 0 for off, no, clear or waiting. -/
def encBool (b : Bool) : List Byte := [if b then 1 else 0]

/-- A one-byte value that may be absent: a presence byte, then the value, 0 when absent. -/
def encOpt1 : Option Nat → List Byte
  | none => [0, 0]
  | some n => 1 :: enc1 n

/-- A two-byte value that may be absent: a presence byte, then the value, 0 when absent. -/
def encOpt2 : Option Nat → List Byte
  | none => [0, 0, 0]
  | some n => 1 :: enc2 n

/-! ### Codes of the enumerated values -/

/-- Outcome codes (R182). -/
def ReqOutcome.code : ReqOutcome → Nat
  | .done => 0
  | .inPart => 1
  | .locked => 2
  | .range => 3
  | .absent => 4
  | .mismatch => 5
  | .full => 6
  | .conflict => 7
  | .changing => 8
  | .busy => 9
  | .malformed => 10

/-- Role codes (R180). -/
def Role.code : Role → Nat
  | .ordinary => 1
  | .spareFree => 2
  | .spareHeld => 3
  | .spareInUse => 4
  | .failed => 5
  | .retired => 6

/-- The role a code names, if any (R180). -/
def Role.ofCode : Nat → Option Role
  | 1 => some .ordinary
  | 2 => some .spareFree
  | 3 => some .spareHeld
  | 4 => some .spareInUse
  | 5 => some .failed
  | 6 => some .retired
  | _ => none

/-- Mode codes (R180). -/
def Mode.code : Mode → Nat
  | .dimmed => 1
  | .switched => 2
  | .off => 3

/-- The mode a code names, if any (R180). -/
def Mode.ofCode : Nat → Option Mode
  | 1 => some .dimmed
  | 2 => some .switched
  | 3 => some .off
  | _ => none

/-- Health codes (R180). -/
def Health.code : Health → Nat
  | .ok => 1
  | .suspect => 2
  | .failed => 3

/-- Pairing codes (R180). -/
def Pairing.code : Pairing → Nat
  | .unpaired => 1
  | .ordered _ => 2
  | .confirmed _ => 3
  | .restoring _ => 4

/-- The partner of a pairing, absent with pairing NONE (R31). -/
def Pairing.partner : Pairing → Option Nat
  | .unpaired => none
  | .ordered n => some n
  | .confirmed n => some n
  | .restoring n => some n

/-- Playback state codes (R180). -/
def PlayState.code : PlayState → Nat
  | .idle => 1
  | .running => 2
  | .held => 3

/-- Part codes (R180). -/
def Part.code : Part → Nat
  | .up => 1
  | .down => 2

/-- Rack state codes (R180). -/
def RackState.code : RackState → Nat
  | .unpolled => 1
  | .online => 2
  | .lost => 3

/-- Thermal state codes (R142, R180). -/
def Thermal.code : Thermal → Nat
  | .normal => 0
  | .warm => 1
  | .hot => 2

/-- The thermal state a reply's byte names, if any (R142). -/
def Thermal.ofCode : Nat → Option Thermal
  | 0 => some .normal
  | 1 => some .warm
  | 2 => some .hot
  | _ => none

/-- Order kind codes (R141, R180). -/
def OrderKind.code : OrderKind → Nat
  | .transfer => 1
  | .undo => 2

/-- Report kind codes (R142). -/
def ReportKind.code : ReportKind → Nat
  | .openLoad => 1
  | .short => 2
  | .dimmerFail => 3

/-- The report kind a reply's byte names, if any (R142). -/
def ReportKind.ofCode : Nat → Option ReportKind
  | 1 => some .openLoad
  | 2 => some .short
  | 3 => some .dimmerFail
  | _ => none

/-- Changeover phase codes (R180). -/
def Phase.code : Phase → Nat
  | .idle => 1
  | .darkening => 2

/-- Retention result codes (R180). -/
def Retention.code : Retention → Nat
  | .retained => 1
  | .lost => 2

/-- A loop: a code byte (0 absent, 1 endless, 2 counted) and a passes byte (R180). In an answer the passes byte beside codes 0 and 1 is
0: DESIGN CHOICE, assumption log 23. -/
def Loop.enc : Loop → List Byte
  | .absent => [0, 0]
  | .endless => [1, 0]
  | .passes n => 2 :: enc1 n

/-- The loop a code byte and a passes byte name, if they name one (R52, R180). -/
def Loop.ofCodes (code passes : Nat) : Option Loop :=
  match code with
  | 0 => some .absent
  | 1 => some .endless
  | 2 => if passes = 0 then none else some (.passes passes)
  | _ => none

/-- A follow, absent or a look number and a delay (R180). -/
def encFollow : Option Follow → List Byte
  | none => [0, 0, 0, 0, 0]
  | some f => 1 :: (enc2 f.look ++ enc2 f.delay)

/-- Request codes (R191). -/
def ReqCode.code : ReqCode → Nat
  | .patchSet => 1
  | .patchSetIf => 2
  | .patchClear => 3
  | .patchClearIf => 4
  | .patchClearChannel => 5
  | .patchSwap => 6
  | .patchRange => 7
  | .patchLoad => 8
  | .patchReadChannel => 9
  | .patchReadCircuit => 10
  | .bankCopy => 11
  | .bankErase => 12
  | .bankLock => 13
  | .bankUnlock => 14
  | .circuitSet => 20
  | .circuitRead => 21
  | .rigSet => 22
  | .rigRead => 23
  | .rigLock => 24
  | .rigUnlock => 25
  | .curveLoad => 26
  | .curveRead => 27
  | .lookWrite => 30
  | .lookRead => 31
  | .lookDelete => 32
  | .go => 40
  | .release => 41
  | .hold => 42
  | .resume => 43
  | .stopLoop => 44
  | .master => 45
  | .deskClear => 46
  | .playbackRead => 47
  | .fadeRead => 48
  | .channelRead => 49
  | .capture => 50
  | .uncapture => 51
  | .grand => 52
  | .blackout => 53
  | .mixerRead => 54
  | .outputRead => 55
  | .changeover => 60
  | .rackSet => 70
  | .rackRead => 71
  | .faultClear => 72
  | .reassign => 80
  | .restore => 81
  | .transferRead => 82
  | .status => 90
  | .statusAck => 91

/-- The request a code byte names, if any (R191). -/
def ReqCode.ofCode : Nat → Option ReqCode
  | 1 => some .patchSet
  | 2 => some .patchSetIf
  | 3 => some .patchClear
  | 4 => some .patchClearIf
  | 5 => some .patchClearChannel
  | 6 => some .patchSwap
  | 7 => some .patchRange
  | 8 => some .patchLoad
  | 9 => some .patchReadChannel
  | 10 => some .patchReadCircuit
  | 11 => some .bankCopy
  | 12 => some .bankErase
  | 13 => some .bankLock
  | 14 => some .bankUnlock
  | 20 => some .circuitSet
  | 21 => some .circuitRead
  | 22 => some .rigSet
  | 23 => some .rigRead
  | 24 => some .rigLock
  | 25 => some .rigUnlock
  | 26 => some .curveLoad
  | 27 => some .curveRead
  | 30 => some .lookWrite
  | 31 => some .lookRead
  | 32 => some .lookDelete
  | 40 => some .go
  | 41 => some .release
  | 42 => some .hold
  | 43 => some .resume
  | 44 => some .stopLoop
  | 45 => some .master
  | 46 => some .deskClear
  | 47 => some .playbackRead
  | 48 => some .fadeRead
  | 49 => some .channelRead
  | 50 => some .capture
  | 51 => some .uncapture
  | 52 => some .grand
  | 53 => some .blackout
  | 54 => some .mixerRead
  | 55 => some .outputRead
  | 60 => some .changeover
  | 70 => some .rackSet
  | 71 => some .rackRead
  | 72 => some .faultClear
  | 80 => some .reassign
  | 81 => some .restore
  | 82 => some .transferRead
  | 90 => some .status
  | 91 => some .statusAck
  | _ => none

/-- The code byte of a data frame (R191). -/
def dataCode : Byte := 128

/-- PATCH-LOAD and LOOK-WRITE are the announcing requests (R191). -/
def ReqCode.announcing : ReqCode → Bool
  | .patchLoad => true
  | .lookWrite => true
  | _ => false

/-- A link's number in requests and in the circuit numbering (R137, section 4.2). -/
def linkNumber : LinkId → Nat
  | .a => 1
  | .b => 2
  | .c => 3
  | .d => 4

/-- The link a request's byte names, if any (R137). -/
def linkOfNumber : Nat → Option LinkId
  | 1 => some .a
  | 2 => some .b
  | 3 => some .c
  | 4 => some .d
  | _ => none

/-! ### Console-port frames (R180, R181, R184) -/

/-- What an arriving frame is: a request, a data frame, or a frame with a malformed header, of which the sequence and
code bytes are known as received (0 for a byte not received). -/
inductive FrameClass where
  | request (r : Request)
  | data (d : DataFrame)
  | malformed (sequence code : Byte)
  deriving DecidableEq, Repr

/-- Read an ended frame from its bytes after the start mark (R180, R184). Its header is malformed where it ended unfinished,
its check is wrong, its parameter length exceeds 58 or its code is not one of R191's. -/
def classifyFrame (bytes : List Byte) : FrameClass :=
  match bytes with
  | sq :: code :: len :: rest =>
    let params := rest.take len.toNat
    if len.toNat > Config.maxParams then .malformed sq code
    else if rest.drop len.toNat ≠ wordBytes (frameCheck (sq :: code :: len :: params)) then .malformed sq code
    else if code = dataCode then .data ⟨sq, params⟩
    else match ReqCode.ofCode code.toNat with
      | some c => .request ⟨sq, c, params⟩
      | none => .malformed sq code
  | [sq, code] => .malformed sq code
  | [sq] => .malformed sq 0
  | [] => .malformed 0 0

/-- A frame is complete when the two check bytes its parameter length calls for have been received (R184). -/
def frameComplete (bytes : List Byte) : Bool :=
  match bytes with
  | _ :: _ :: len :: rest => decide (len.toNat + 2 ≤ rest.length)
  | _ => false

/-- The reception of one symbol on a port's line, from what stands in the receive buffer (R184): a start mark begins a
frame, and ends the one being received unfinished; a byte that completes a frame ends it; a byte outside a frame is
discarded. Gives the buffer and the frame that ended, if one did. -/
def receiveSymbol (buffer : Option (List Byte)) (x : LineSymbol) : Option (List Byte) × Option (List Byte) :=
  match x, buffer with
  | .start, buffer => (some [], buffer)
  | .byte _, none => (none, none)
  | .byte b, some bytes => if frameComplete (bytes ++ [b]) then (none, some (bytes ++ [b])) else (some (bytes ++ [b]), none)

/-- The reception of what a line brings (R184): the buffer after it, and the frames that ended, in order. -/
def receive (buffer : Option (List Byte)) : List LineSymbol → Option (List Byte) × List (List Byte)
  | [] => (buffer, [])
  | x :: t => ((receive (receiveSymbol buffer x).1 t).1, (receiveSymbol buffer x).2.toList ++ (receive (receiveSymbol buffer x).1 t).2)

/-- A frame on a line: its start mark and its bytes (R180). -/
def onLine (bytes : List Byte) : List LineSymbol := .start :: bytes.map .byte

/-- The bytes of a request frame after its start mark (R180). -/
def requestFrame (r : Request) : List Byte :=
  closeFrame (r.sequence :: BitVec.ofNat 8 r.code.code :: BitVec.ofNat 8 r.params.length :: r.params)

/-- The bytes of a data frame after its start mark (R180). -/
def dataFrame (d : DataFrame) : List Byte :=
  closeFrame (d.sequence :: dataCode :: BitVec.ofNat 8 d.data.length :: d.data)

/-- The bytes of an answer frame after its start mark (R181). -/
def answerFrame (a : Answer) : List Byte :=
  closeFrame ([a.sequence, a.code, BitVec.ofNat 8 a.outcome.code] ++ enc2 a.count ++ enc1 a.data.length ++ a.data)

/-- The records of a patch load's data frame: 5 bytes each, channel, circuit, proportion; none where the data is not
a whole number of records, or holds no record or more than 8 (R21, R180). -/
def loadRecords (data : List Byte) : Option (List (Nat × Nat × Nat)) :=
  if data.length % 5 = 0 ∧ 1 ≤ data.length / 5 ∧ data.length / 5 ≤ 8 then
    some ((List.range (data.length / 5)).map fun i =>
      (word (data.getD (5 * i) 0) (data.getD (5 * i + 1) 0),
       word (data.getD (5 * i + 2) 0) (data.getD (5 * i + 3) 0), (data.getD (5 * i + 4) 0).toNat))
  else none

/-- The entries of a look write's data frame: 4 bytes each, channel and level; none where the data is not a whole
number of entries, or holds no entry or more than 14 (R53, R180). -/
def writeEntries (data : List Byte) : Option (List (Nat × Nat)) :=
  if data.length % 4 = 0 ∧ 1 ≤ data.length / 4 ∧ data.length / 4 ≤ 14 then
    some ((List.range (data.length / 4)).map fun i =>
      (word (data.getD (4 * i) 0) (data.getD (4 * i + 1) 0),
       word (data.getD (4 * i + 2) 0) (data.getD (4 * i + 3) 0)))
  else none

/-! ### Frames of the dimmer links (R141, R142) -/

/-- The level frame of 512 slot values (R141). -/
def levelFrame (slots : List Nat) : List Byte := closeFrame (1 :: slots.map fun n => BitVec.ofNat 8 n)

/-- The poll frame to a rack with the order it carries, or none (R141). -/
def pollFrame (rack : Nat) (order : Option Order) : List Byte :=
  match order with
  | none => closeFrame [2, BitVec.ofNat 8 rack, 0, 0, 0]
  | some o => closeFrame [2, BitVec.ofNat 8 rack, BitVec.ofNat 8 o.kind.code, BitVec.ofNat 8 o.circuitIndex,
      BitVec.ofNat 8 o.spareIndex]

/-- One circuit report of a reply: the circuit's index in the rack and the kind (R142). -/
structure Report where
  circuitIndex : Nat
  kind : ReportKind
  deriving DecidableEq, Repr

/-- A well-formed reply frame (R142). -/
structure ReplyFrame where
  address : Nat
  ready : Bool
  thermal : Thermal
  ack : Option Order
  reports : List Report
  deriving DecidableEq, Repr

/-- An index in a rack is 1 to 32 (section 4.2). -/
def indexOk (i : Nat) : Bool := decide (1 ≤ i) && decide (i ≤ 32)

/-- The status a reply's byte names: READY 1, WAIT 2 (R142). -/
def statusOfCode : Nat → Option Bool
  | 1 => some true
  | 2 => some false
  | _ => none

/-- The acknowledgement of a reply: with kind 0 the indices are not read (R142). The outer none is a malformed one. -/
def ackOfCodes (kind ci si : Nat) : Option (Option Order) :=
  match kind with
  | 0 => some none
  | 1 => if indexOk ci && indexOk si then some (some ⟨.transfer, ci, si⟩) else none
  | 2 => if indexOk ci && indexOk si then some (some ⟨.undo, ci, si⟩) else none
  | _ => none

/-- The reports of a reply, two bytes each; none where an index or a kind is out of its range (R142). -/
def reportsOf : List Byte → Option (List Report)
  | [] => some []
  | [_] => none
  | i :: k :: t =>
    match ReportKind.ofCode k.toNat, reportsOf t with
    | some kind, some rs => if indexOk i.toNat then some (⟨i.toNat, kind⟩ :: rs) else none
    | _, _ => none

/-- Read a reply frame from its bytes after the start mark; none where it is malformed (R142). -/
def parseReply (bytes : List Byte) : Option ReplyFrame :=
  match bytes with
  | ft :: addr :: st :: th :: ak :: ci :: si :: n :: rest =>
    let body := rest.take (2 * n.toNat)
    if ft ≠ 3 ∨ n.toNat > 32 then none
    else if rest.drop (2 * n.toNat) ≠ wordBytes (frameCheck (ft :: addr :: st :: th :: ak :: ci :: si :: n :: body)) then none
    else match statusOfCode st.toNat, Thermal.ofCode th.toNat, ackOfCodes ak.toNat ci.toNat si.toNat, reportsOf body with
      | some ready, some thermal, some ack, some reports => some ⟨addr.toNat, ready, thermal, ack, reports⟩
      | _, _, _, _ => none
  | _ => none

/-- The bytes of a reply frame after its start mark (R142). -/
def replyFrame (r : ReplyFrame) : List Byte :=
  closeFrame ([3, BitVec.ofNat 8 r.address, if r.ready then 1 else 2, BitVec.ofNat 8 r.thermal.code] ++
    (match r.ack with
      | none => [0, 0, 0]
      | some o => [BitVec.ofNat 8 o.kind.code, BitVec.ofNat 8 o.circuitIndex, BitVec.ofNat 8 o.spareIndex]) ++
    BitVec.ofNat 8 r.reports.length ::
      (r.reports.map fun x => [BitVec.ofNat 8 x.circuitIndex, BitVec.ofNat 8 x.kind.code]).flatten)

/-! ### Ranges of the numbers a request names -/

/-- A bank is 1 to 6 (R1). -/
def bankOk (n : Nat) : Bool := decide (1 ≤ n) && decide (n ≤ 6)
/-- A channel is 1 to 1024 (R4). -/
def channelOk (n : Nat) : Bool := decide (1 ≤ n) && decide (n ≤ 1024)
/-- A circuit is 1 to 2048 (R31). -/
def circuitOk (n : Nat) : Bool := decide (1 ≤ n) && decide (n ≤ 2048)
/-- A playback is 1 to 8 (R63). -/
def playbackOk (n : Nat) : Bool := decide (1 ≤ n) && decide (n ≤ 8)
/-- A look number is 1 to 9999 (R50). -/
def lookOk (n : Nat) : Bool := decide (1 ≤ n) && decide (n ≤ 9999)
/-- A rack is 1 to 16 on its link (R138). -/
def rackOk (n : Nat) : Bool := decide (1 ≤ n) && decide (n ≤ 16)

/-! ### Circuit numbering (section 4.2 of 00_scope.md) -/

/-- The circuit at an index of a rack of a link. -/
def circuitAt (l : LinkId) (rack index : Nat) : Nat := (linkNumber l - 1) * 512 + (rack - 1) * 32 + index

/-- The link a circuit lies on. -/
def linkOf (circuit : Nat) : LinkId :=
  if circuit ≤ 512 then .a else if circuit ≤ 1024 then .b else if circuit ≤ 1536 then .c else .d

/-- The slot a circuit occupies in its link's level frame. -/
def slotOf (circuit : Nat) : Nat := (circuit - 1) % 512 + 1

/-- The rack, on its link, that serves a circuit. -/
def rackOf (circuit : Nat) : Nat := (circuit - 1) % 512 / 32 + 1

/-- A circuit's index in its rack. -/
def indexOf (circuit : Nat) : Nat := (circuit - 1) % 32 + 1

end Sys2Proof.Machine
end

