-- ==== Sys2Proof/Machine/Table.lean ====
section
/-!
DEFINITION. Reading and writing a sparse numbered table. `d` is what an unlisted number holds. Every write gives the
canonical form (`Tbl.Canonical`) from any canonical table, so that equal collections are equal data.
-/

namespace Sys2Proof

/-- What stands at number `k`. -/
def Tbl.get {α : Type} (d : α) : Tbl α → Nat → α
  | [], _ => d
  | (n, v) :: t, k => if n = k then v else Tbl.get d t k

/-- Put a pair in its place in rising order. -/
def Tbl.insert {α : Type} : Tbl α → Nat → α → Tbl α
  | [], k, v => [(k, v)]
  | (n, w) :: t, k, v => if k < n then (k, v) :: (n, w) :: t else (n, w) :: Tbl.insert t k v

/-- Take number `k` out of the listing. -/
def Tbl.erase {α : Type} (t : Tbl α) (k : Nat) : Tbl α := t.filter fun e => e.1 ≠ k

/-- Write `v` at number `k`: nothing is listed for it where `v` is what an unlisted number holds. -/
def Tbl.set {α : Type} [DecidableEq α] (d : α) (t : Tbl α) (k : Nat) (v : α) : Tbl α :=
  if v = d then t.erase k else (t.erase k).insert k v

/-- The canonical listing of the same collection. -/
def Tbl.canon {α : Type} [DecidableEq α] (d : α) : Tbl α → Tbl α
  | [] => []
  | (k, v) :: t => Tbl.set d (Tbl.canon d t) k v

/-- Change everything that is listed by `f` (of its number and value). -/
def Tbl.mapVals {α : Type} [DecidableEq α] (d : α) (f : Nat → α → α) (t : Tbl α) : Tbl α :=
  Tbl.canon d (t.map fun e => (e.1, f e.1 e.2))

/-- The listed pairs whose number lies in `lo` to `hi` and that fulfil `p`, counted. -/
def Tbl.countIn {α : Type} (lo hi : Nat) (p : α → Bool) (t : Tbl α) : Nat :=
  t.countP fun e => decide (lo ≤ e.1) && decide (e.1 ≤ hi) && p e.2

/-- Numbers strictly rise, and nothing is listed that equals what an unlisted number holds. -/
abbrev Tbl.Canonical {α : Type} [DecidableEq α] (d : α) (t : Tbl α) : Prop :=
  t.Pairwise (fun e e' => e.1 < e'.1) ∧ ∀ e ∈ t, e.2 ≠ d

end Sys2Proof
end

