-- ==== Sys2Proof/Machine/Ops.lean ====
section
/-!
DEFINITION. The named operations over the state: one read and one write for every collection, the console port's
queue, its early close and its answers, and the request engine's taking of a request (R181 to R190).
-/

namespace Sys2Proof.Machine

/-! ### Reading and writing the collections -/

/-- A bank (R1); a bank nothing was written to is locked and empty. -/
def State.bank (s : State) (b : Nat) : Bank := s.banks.get Bank.initial b
/-- Write a bank. -/
def State.setBank (s : State) (b : Nat) (v : Bank) : State := { s with banks := s.banks.set Bank.initial b v }

/-- The patch records of a bank, in bank order (R5). -/
def State.records (s : State) (b : Nat) : List PatchRec := (s.bank b).records
/-- Write a bank's patch records. -/
def State.setRecords (s : State) (b : Nat) (rs : List PatchRec) : State := s.setBank b { s.bank b with records := rs }

/-- The look a bank holds under a number, if any (R50). -/
def State.look (s : State) (b n : Nat) : Option Look := (s.bank b).looks.get none n
/-- Write a look, or take it away. -/
def State.setLook (s : State) (b n : Nat) (v : Option Look) : State :=
  s.setBank b { s.bank b with looks := (s.bank b).looks.set none n v }

/-- A circuit record (R31); a circuit nothing was written to is as retention LOST leaves it. -/
def State.circuit (s : State) (n : Nat) : Circuit := s.circuits.get Circuit.initial n
/-- Write a circuit record. -/
def State.setCircuit (s : State) (n : Nat) (v : Circuit) : State :=
  { s with circuits := s.circuits.set Circuit.initial n v }

/-- The points of a curve (R45): curve 0 is fixed, a curve never loaded is the identity. -/
def State.curve (s : State) (n : Nat) : List Nat := if n = 0 then identityCurve else s.curves.get identityCurve n
/-- Write a curve's points. -/
def State.setCurve (s : State) (n : Nat) (v : List Nat) : State := { s with curves := s.curves.set identityCurve n v }

/-- Write the rig settings or the rig lock. -/
def State.setRig (s : State) (v : Rig) : State := { s with rig := v }

/-- A playback (R63). -/
def State.playback (s : State) (p : Nat) : Playback := s.playbacks.get Playback.initial p
/-- Write a playback. -/
def State.setPlayback (s : State) (p : Nat) (v : Playback) : State :=
  { s with playbacks := s.playbacks.set Playback.initial p v }

/-- A playback channel entry (R66). -/
def State.entry (s : State) (p ch : Nat) : Entry := (s.playback p).entries.get Entry.initial ch
/-- Write a playback channel entry. -/
def State.setEntry (s : State) (p ch : Nat) (v : Entry) : State :=
  s.setPlayback p { s.playback p with entries := (s.playback p).entries.set Entry.initial ch v }
/-- Change the entries of one playback, all in one. -/
def State.mapEntries (s : State) (p : Nat) (f : Entry → Entry) : State :=
  s.setPlayback p { s.playback p with entries := (s.playback p).entries.mapVals Entry.initial fun _ => f }

/-- Write the fade list (R69). -/
def State.setFades (s : State) (v : List Fade) : State := { s with fades := v }
/-- The fade that occupies a slot, if any (R68). -/
def State.fade (s : State) (n : Nat) : Option Fade := s.fades.find? fun f => f.number == n
/-- Put a fade's record in place of the one of its number; its place in the creation order stays (R69). -/
def State.updateFade (s : State) (f : Fade) : State :=
  s.setFades (s.fades.map fun g => if g.number = f.number then f else g)
/-- Take a fade out of the creation list, which frees its slot (R69). -/
def State.removeFade (s : State) (n : Nat) : State := s.setFades (s.fades.filter fun f => f.number ≠ n)

/-- Write the capture list (R103). -/
def State.setCaptures (s : State) (v : Tbl (Option Nat)) : State := { s with captures := v }
/-- The capture level of a channel, if it is captured (R103). -/
def State.captureOf (s : State) (ch : Nat) : Option Nat := s.captures.get none ch

/-- Write the changeover controller (R122). -/
def State.setChangeover (s : State) (v : Changeover) : State := { s with changeover := v }

/-- One of the four link controllers (R137). -/
def State.link (s : State) : LinkId → Link
  | .a => s.links.a
  | .b => s.links.b
  | .c => s.links.c
  | .d => s.links.d

/-- Write a link controller. -/
def State.setLink (s : State) (l : LinkId) (v : Link) : State :=
  match l with
  | .a => { s with links := { s.links with a := v } }
  | .b => { s with links := { s.links with b := v } }
  | .c => { s with links := { s.links with c := v } }
  | .d => { s with links := { s.links with d := v } }

/-- A row of a link controller (R138). -/
def Link.row (k : Link) (r : Nat) : RackRow := k.rows.get RackRow.initial r
/-- Write a row of a link controller. -/
def Link.setRow (k : Link) (r : Nat) (v : RackRow) : Link := { k with rows := k.rows.set RackRow.initial r v }

/-- A rack row (R138). -/
def State.row (s : State) (l : LinkId) (r : Nat) : RackRow := (s.link l).row r
/-- Write a rack row. -/
def State.setRow (s : State) (l : LinkId) (r : Nat) (v : RackRow) : State := s.setLink l ((s.link l).setRow r v)

/-- One of the two console ports (R183). -/
def State.port (s : State) : Port → PortState
  | .p1 => s.ports.port1
  | .p2 => s.ports.port2

/-- Write a console port. -/
def State.setPort (s : State) (p : Port) (v : PortState) : State :=
  match p with
  | .p1 => { s with ports := { s.ports with port1 := v } }
  | .p2 => { s with ports := { s.ports with port2 := v } }

/-- The other port. -/
def otherPort : Port → Port
  | .p1 => .p2
  | .p2 => .p1

/-! ### Conditions every chapter reads -/

/-- A changeover is in DARKENING (R122). -/
def State.darkening (s : State) : Bool := s.changeover.phase == .darkening

/-- A bank is the target bank of a changeover in DARKENING (R10 step 3, R129). -/
def State.changingBank (s : State) (b : Nat) : Bool := s.darkening && s.changeover.target == some b

/-! ### Answers (R181) -/

/-- What an event decides of an answer: outcome, count and data (R181, R182). -/
structure Reply where
  outcome : ReqOutcome
  count : Nat
  data : List Byte
  deriving DecidableEq, Repr

/-- DONE with a count and data. -/
def Reply.done (count : Nat) (data : List Byte) : Reply := ⟨.done, count, data⟩
/-- A refusal: count 0 and no data (R182). -/
def Reply.refuse (o : ReqOutcome) : Reply := ⟨o, 0, []⟩

/-- Produce an answer on a port: it joins the end of the outgoing answers (R181, R183). -/
def State.produce (s : State) (p : Port) (a : Answer) : State :=
  s.setPort p { s.port p with outgoing := (s.port p).outgoing ++ [a] }

/-- Answer a request: the answer echoes its sequence and code (R181). -/
def State.answer (s : State) (p : Port) (r : Request) (y : Reply) : State :=
  s.produce p ⟨r.sequence, BitVec.ofNat 8 r.code.code, y.outcome, y.count, y.data⟩

/-! ### Closing a bulk transfer (R188) -/

/-- The first failure of a load, or of a look write, in answer data: its position and outcome (R22, R23, R56). -/
def failureData (position : Nat) (o : ReqOutcome) : List Byte := enc2 position ++ enc1 o.code

/-- The answer of a transfer closed before its count: PARTIAL for a load (R23), MALFORMED for a look write (R56). -/
def Transfer.earlyAnswer : Transfer → Answer
  | .load t =>
    { sequence := t.sequence
      code := BitVec.ofNat 8 ReqCode.patchLoad.code
      outcome := .inPart
      count := t.announced - t.applied
      data := match t.firstFailure with
        | some (pos, o) => failureData pos o
        | none => failureData (t.received + 1) .malformed }
  | .write t =>
    { sequence := t.sequence
      code := BitVec.ofNat 8 ReqCode.lookWrite.code
      outcome := .malformed
      count := t.announced - t.received
      data := match t.fault with
        | some (pos, o) => failureData pos o
        | none => [] }

/-- The transfer of a port becomes absent and its inactivity timer stops (R188). -/
def State.dropTransfer (s : State) (p : Port) : State :=
  s.setPort p { s.port p with transfer := none, inactivityTimer := .stopped }

/-- Close an open transfer of a port early, with its answer; with none open nothing happens (R188). -/
def State.closeEarly (s : State) (p : Port) : State :=
  match (s.port p).transfer with
  | none => s
  | some t => (s.dropTransfer p).produce p t.earlyAnswer

/-! ### The request engine (R189, R190) -/

/-- A port is eligible when its queue is not empty and its head is not held (R189). -/
def PortState.eligible (p : PortState) : Bool := !p.queue.isEmpty && !p.headHeld

/-- The port the engine takes from next, if any (R189): the one eligible port; of two, the one not served last, and
port 1 when none was served last. -/
def State.choosePort (s : State) : Option Port :=
  match (s.port .p1).eligible, (s.port .p2).eligible with
  | true, true => some (if s.servedLast = some .p1 then .p2 else .p1)
  | true, false => some .p1
  | false, true => some .p2
  | false, false => none

/-- The request the engine takes next and its port (R189). -/
def State.nextRequest (s : State) : Option (Port × Request) :=
  match s.choosePort with
  | none => none
  | some p =>
    match (s.port p).queue with
    | [] => none
    | r :: _ => some (p, r)

/-- The request at the head of a port's queue leaves it. -/
def State.popQueue (s : State) (p : Port) : State :=
  s.setPort p { s.port p with queue := (s.port p).queue.tail, headHeld := false }

/-- The engine records the port it served (R189). -/
def State.serving (s : State) (p : Port) : State := { s with servedLast := some p }

/-- The taking of a request from a port: an open transfer of the port is closed first (R188), then the request leaves
the queue and the port is recorded as served last (R189). -/
def State.taken (s : State) (p : Port) : State := ((s.closeEarly p).popQueue p).serving p

/-- The event at which the engine takes a request of a given code and `perform`s it on its parameters (R189). Where the
request the engine would take next is of another code, or none waits, this event cannot occur, and nothing changes
(assumption log 2). -/
def State.serve (s : State) (code : ReqCode) (perform : List Byte → State → State × Reply) : State :=
  match s.nextRequest with
  | none => s
  | some (p, r) =>
    if r.code = code then
      let (s', y) := perform r.params (s.taken p)
      s'.answer p r y
    else s

/-- The same for an announcing request (R186): `opening` gives the transfer it opens, or the refusal. A transfer opens on
the port with its timer running and nothing is answered; a refusal is answered at once and the data hold is emptied,
without answers. -/
def State.serveOpening (s : State) (code : ReqCode) (opening : Request → State → Except ReqOutcome Transfer) : State :=
  match s.nextRequest with
  | none => s
  | some (p, r) =>
    if r.code = code then
      let s1 := s.taken p
      match opening r s1 with
      | .ok t => s1.setPort p { s1.port p with transfer := some t, inactivityTimer := .running }
      | .error o =>
        (s1.setPort p { s1.port p with dataHold := [] }).answer p r (.refuse o)
    else s

end Sys2Proof.Machine
end

