-- ==== Sys2Proof/Machine/Flags.lean ====
section
/-!
DEFINITION. The flags the operator sees: fault flags with their new marks (R35, R150, R156), rack notices (R138),
playback flags (R65), the counts STATUS gives of them (R192) and the attention line (R194).
-/

namespace Sys2Proof.Machine

/-- A report sets a flag; a flag that was clear takes its new mark with it (R35, R150). -/
def FaultFlag.report (f : FaultFlag) : FaultFlag := if f.isSet then f else ⟨true, true⟩

/-- FAULT-CLEAR clears a flag together with its mark (R156). -/
def FaultFlag.cleared : FaultFlag := ⟨false, false⟩

/-- STATUS-ACK clears the mark alone (R193). -/
def FaultFlag.ackMark (f : FaultFlag) : FaultFlag := { f with isNew := false }

/-- A flag of a circuit by the kind of report that sets it (R150). -/
def Circuit.flag (c : Circuit) : ReportKind → FaultFlag
  | .openLoad => c.openLoad
  | .short => c.short
  | .dimmerFail => c.dimmerFail

/-- Write a flag of a circuit. -/
def Circuit.setFlag (c : Circuit) (k : ReportKind) (f : FaultFlag) : Circuit :=
  match k with
  | .openLoad => { c with openLoad := f }
  | .short => { c with short := f }
  | .dimmerFail => { c with dimmerFail := f }

/-- Whether a report of a kind is taken: the detection masks; DIMMER-FAIL cannot be masked (R35, R150). -/
def Circuit.takes (c : Circuit) : ReportKind → Bool
  | .openLoad => c.openDetect
  | .short => c.shortDetect
  | .dimmerFail => true

/-- The circuit after a report of a kind (R150). -/
def Circuit.report (c : Circuit) (k : ReportKind) : Circuit :=
  if c.takes k then c.setFlag k (c.flag k).report else c

/-- The report sets a flag that was clear: the reply then carries news (R148). -/
def Circuit.reportIsNews (c : Circuit) (k : ReportKind) : Bool := c.takes k && !(c.flag k).isSet

/-- At least one flag is set (R156). -/
def Circuit.anyFlag (c : Circuit) : Bool := c.openLoad.isSet || c.short.isSet || c.dimmerFail.isSet

/-- At least one flag carries a new mark (R192). -/
def Circuit.anyMark (c : Circuit) : Bool := c.openLoad.isNew || c.short.isNew || c.dimmerFail.isNew

/-- Every flag cleared with its mark (R156). -/
def Circuit.clearFaults (c : Circuit) : Circuit :=
  { c with openLoad := .cleared, short := .cleared, dimmerFail := .cleared }

/-- Every mark cleared, the flags kept (R193). -/
def Circuit.ackMarks (c : Circuit) : Circuit :=
  { c with openLoad := c.openLoad.ackMark, short := c.short.ackMark, dimmerFail := c.dimmerFail.ackMark }

/-- An eligible spare: SPARE-FREE with DIMMER-FAIL clear (R42, R44). -/
def Circuit.eligibleSpare (c : Circuit) : Bool := c.role == .spareFree && !c.dimmerFail.isSet

/-- The rig-wide count of eligible spares (R44, R162). -/
def State.eligibleSpares (s : State) : Nat := s.circuits.countIn 1 2048 Circuit.eligibleSpare

/-- The number of circuits with a new mark (R192). -/
def State.markedCircuits (s : State) : Nat := s.circuits.countIn 1 2048 Circuit.anyMark

/-- A rack with at least one of its three notices set (R192). -/
def RackRow.anyNotice (r : RackRow) : Bool := r.lostNotice || r.returnedNotice || r.abandonedNotice

/-- The racks of the whole rig whose row fulfils `p`, counted. -/
def State.countRacks (s : State) (p : RackRow → Bool) : Nat :=
  s.links.a.rows.countIn 1 16 p + s.links.b.rows.countIn 1 16 p + s.links.c.rows.countIn 1 16 p +
    s.links.d.rows.countIn 1 16 p

/-- The number of racks with notices (R192). -/
def State.noticedRacks (s : State) : Nat := s.countRacks RackRow.anyNotice

/-- The attention line (R194): the restart flag is set, or a circuit has a new mark, or a rack has a notice. -/
def State.attention (s : State) : Bool :=
  s.restartFlag || decide (0 < s.markedCircuits) || decide (0 < s.noticedRacks)

/-- Both flags of a playback in answer data (R192). -/
def playbackFlags (p : Playback) : List Byte := encBool p.followMissed ++ encBool p.forced

/-- The playback flags of playbacks 1 to 8 in answer data (R192, R193). -/
def State.allPlaybackFlags (s : State) : List Byte :=
  ((List.range 8).map fun i => playbackFlags (s.playback (i + 1))).flatten

end Sys2Proof.Machine
end

