-- ==== Sys2Proof/Machine/Patch.lean ====
section
/-!
DEFINITION. The patch table (R1 to R30): bank order and limits, the order of checks, every patch request, and the two
rewritings at acknowledgement.
-/

namespace Sys2Proof.Machine

/-! ### Bank order and limits -/

/-- A record stands before another in bank order: by channel, then by circuit (R5). -/
def recBefore (r r' : PatchRec) : Bool :=
  decide (r.channel < r'.channel) || (r.channel == r'.channel && decide (r.circuit < r'.circuit))

/-- Put a record in its place in bank order (R5). -/
def insertRec (r : PatchRec) : List PatchRec → List PatchRec
  | [] => [r]
  | x :: t => if recBefore r x then r :: x :: t else x :: insertRec r t

/-- Records in bank order, each rewritten one at the place its new key calls for (R5, R17, R28). -/
def sortRecs : List PatchRec → List PatchRec
  | [] => []
  | r :: t => insertRec r (sortRecs t)

/-- The record has this channel and circuit (R5). -/
def PatchRec.isFor (r : PatchRec) (ch ck : Nat) : Bool := r.channel == ch && r.circuit == ck

/-- The record of a channel and circuit, if the bank holds one. -/
def findRec (rs : List PatchRec) (ch ck : Nat) : Option PatchRec := rs.find? fun r => r.isFor ch ck

/-- The proportion of a record replaced, its original-circuit field as it stays (R11). -/
def replaceRec (rs : List PatchRec) (ch ck prop : Nat) : List PatchRec :=
  rs.map fun r => if r.isFor ch ck then { r with proportion := prop } else r

/-- A record removed, its place closed up (R5, R13). -/
def removeRec (rs : List PatchRec) (ch ck : Nat) : List PatchRec := rs.filter fun r => !r.isFor ch ck

/-- The pool's count of records (R7). -/
def State.poolCount (s : State) : Nat := (s.banks.map fun e => e.2.records.length).sum

/-- A record of a channel and circuit may be added to a bank: none of the four limits of R7 stands in the way. -/
def State.hasRoom (s : State) (b ch ck : Nat) : Bool :=
  decide ((s.records b).length < Config.bankRecords) && decide (s.poolCount < Config.poolRecords) &&
  decide ((s.records b).countP (fun r => r.channel == ch) < Config.channelRecords) &&
  decide ((s.records b).countP (fun r => r.circuit == ck) < Config.circuitRecords)

/-! ### The circuit an edit names (R8) -/

/-- The circuit the record uses and the original circuit stored, for the circuit an edit names; none where its role
refuses the edit (R8). -/
def State.resolve (s : State) (ck : Nat) : Option (Nat × Option Nat) :=
  match (s.circuit ck).role with
  | .ordinary => some (ck, none)
  | .failed =>
    match (s.circuit ck).pairing with
    | .unpaired => some (ck, none)
    | .ordered _ => some (ck, none)
    | .confirmed spare => some (spare, some ck)
    | .restoring spare => some (spare, some ck)
  | _ => none

/-! ### Records in answer data -/

/-- A record as stored: channel, circuit, proportion, original circuit or absent (R11, R25). -/
def recData (r : PatchRec) : List Byte := enc2 r.channel ++ enc2 r.circuit ++ enc1 r.proportion ++ encOpt2 r.original

/-- A record of a channel read: circuit, proportion, original circuit or absent (R24). -/
def channelRecData (r : PatchRec) : List Byte := enc2 r.circuit ++ enc1 r.proportion ++ encOpt2 r.original

/-! ### The order of checks (R10) -/

/-- Steps 3 and 4 of R10: the bank edited is not the target of a changeover in DARKENING, and it is unlocked. -/
def State.bankRefusal (s : State) (b : Nat) : Option ReqOutcome :=
  if s.changingBank b then some .changing else if (s.bank b).locked then some .locked else none

/-- Steps 2 to 4 of R10: `inRange` is step 2. -/
def State.editRefusal (s : State) (inRange : Bool) (b : Nat) : Option ReqOutcome :=
  if inRange then s.bankRefusal b else some .range

/-- Steps 5 and 7 of R10 and the edit itself, for one record: its proportion is replaced, or it is added with the original
circuit R8 gives (R11). The answer gives the state, the record as stored, and 1 for an added record. -/
def State.storeRecord (s : State) (b ch ck prop : Nat) : Except ReqOutcome (State × PatchRec × Nat) :=
  match s.resolve ck with
  | none => .error .conflict
  | some (used, orig) =>
    match findRec (s.records b) ch used with
    | some r => .ok (s.setRecords b (replaceRec (s.records b) ch used prop), { r with proportion := prop }, 0)
    | none =>
      if s.hasRoom b ch used then
        .ok (s.setRecords b (insertRec ⟨ch, used, prop, orig⟩ (s.records b)), ⟨ch, used, prop, orig⟩, 1)
      else .error .full

/-- A proportion above 100 is clamped to 100 (R10). -/
def clampProportion (p : Nat) : Nat := min p 100

/-! ### Single-record edits -/

/-- PATCH-SET (R11). -/
def patchSet (ps : List Byte) (s : State) : State × Reply :=
  match ps with
  | [b, ch1, ch0, ck1, ck0, pr] =>
    match s.editRefusal (bankOk b.toNat && channelOk (word ch1 ch0) && circuitOk (word ck1 ck0)) b.toNat with
    | some o => (s, .refuse o)
    | none =>
      match s.storeRecord b.toNat (word ch1 ch0) (word ck1 ck0) (clampProportion pr.toNat) with
      | .error o => (s, .refuse o)
      | .ok (s', r, n) => (s', .done n (recData r))
  | _ => (s, .refuse .malformed)

/-- PATCH-SET at the head of its queue is taken and performed. -/
def execPatchSet (s : State) : Host.Outcome State Fault Refusal := .next (s.serve .patchSet patchSet)

/-- PATCH-SET-IF (R12): the expectation is a presence byte and a proportion. -/
def patchSetIf (ps : List Byte) (s : State) : State × Reply :=
  match ps with
  | [b, ch1, ch0, ck1, ck0, pr, present, ex] =>
    match s.editRefusal (bankOk b.toNat && channelOk (word ch1 ch0) && circuitOk (word ck1 ck0) &&
        (present == 0 || (present == 1 && decide (ex.toNat ≤ 100)))) b.toNat with
    | some o => (s, .refuse o)
    | none =>
      match s.resolve (word ck1 ck0) with
      | none => (s, .refuse .conflict)
      | some (used, _) =>
        let now := (findRec (s.records b.toNat) (word ch1 ch0) used).map PatchRec.proportion
        if now = (if present = 0 then none else some ex.toNat) then
          match s.storeRecord b.toNat (word ch1 ch0) (word ck1 ck0) (clampProportion pr.toNat) with
          | .error o => (s, .refuse o)
          | .ok (s', r, n) => (s', .done n (recData r))
        else (s, ⟨.mismatch, 0, encOpt1 now⟩)
  | _ => (s, .refuse .malformed)

/-- PATCH-SET-IF at the head of its queue is taken and performed. -/
def execPatchSetIf (s : State) : Host.Outcome State Fault Refusal := .next (s.serve .patchSetIf patchSetIf)

/-- PATCH-CLEAR (R13). -/
def patchClear (ps : List Byte) (s : State) : State × Reply :=
  match ps with
  | [b, ch1, ch0, ck1, ck0] =>
    match s.editRefusal (bankOk b.toNat && channelOk (word ch1 ch0) && circuitOk (word ck1 ck0)) b.toNat with
    | some o => (s, .refuse o)
    | none =>
      match s.resolve (word ck1 ck0) with
      | none => (s, .refuse .conflict)
      | some (used, _) =>
        match findRec (s.records b.toNat) (word ch1 ch0) used with
        | none => (s, .refuse .absent)
        | some r => (s.setRecords b.toNat (removeRec (s.records b.toNat) (word ch1 ch0) used), .done 1 (recData r))
  | _ => (s, .refuse .malformed)

/-- PATCH-CLEAR at the head of its queue is taken and performed. -/
def execPatchClear (s : State) : Host.Outcome State Fault Refusal := .next (s.serve .patchClear patchClear)

/-- PATCH-CLEAR-IF (R14): the expectation is a proportion of one byte (assumption log 21). -/
def patchClearIf (ps : List Byte) (s : State) : State × Reply :=
  match ps with
  | [b, ch1, ch0, ck1, ck0, ex] =>
    match s.editRefusal (bankOk b.toNat && channelOk (word ch1 ch0) && circuitOk (word ck1 ck0) &&
        decide (ex.toNat ≤ 100)) b.toNat with
    | some o => (s, .refuse o)
    | none =>
      match s.resolve (word ck1 ck0) with
      | none => (s, .refuse .conflict)
      | some (used, _) =>
        match findRec (s.records b.toNat) (word ch1 ch0) used with
        | none => (s, ⟨.mismatch, 0, encOpt1 none⟩)
        | some r =>
          if r.proportion = ex.toNat then
            (s.setRecords b.toNat (removeRec (s.records b.toNat) (word ch1 ch0) used), .done 1 (recData r))
          else (s, ⟨.mismatch, 0, encOpt1 (some r.proportion)⟩)
  | _ => (s, .refuse .malformed)

/-- PATCH-CLEAR-IF at the head of its queue is taken and performed. -/
def execPatchClearIf (s : State) : Host.Outcome State Fault Refusal := .next (s.serve .patchClearIf patchClearIf)

/-- PATCH-CLEAR-CHANNEL (R15). -/
def patchClearChannel (ps : List Byte) (s : State) : State × Reply :=
  match ps with
  | [b, ch1, ch0] =>
    match s.editRefusal (bankOk b.toNat && channelOk (word ch1 ch0)) b.toNat with
    | some o => (s, .refuse o)
    | none =>
      (s.setRecords b.toNat ((s.records b.toNat).filter fun r => r.channel ≠ word ch1 ch0),
        .done ((s.records b.toNat).countP fun r => r.channel == word ch1 ch0) [])
  | _ => (s, .refuse .malformed)

/-- PATCH-CLEAR-CHANNEL at the head of its queue is taken and performed. -/
def execPatchClearChannel (s : State) : Host.Outcome State Fault Refusal :=
  .next (s.serve .patchClearChannel patchClearChannel)

/-! ### Swap and range -/

/-- A circuit may be swapped: ORDINARY or FAILED, with pairing NONE (R16). -/
def Circuit.swappable (c : Circuit) : Bool :=
  (c.role == .ordinary || c.role == .failed) && c.pairing == .unpaired

/-- The record with circuits `a` and `b` exchanged (R17). -/
def PatchRec.exchange (a b : Nat) (r : PatchRec) : PatchRec :=
  if r.circuit = a then { r with circuit := b } else if r.circuit = b then { r with circuit := a } else r

/-- PATCH-SWAP (R16, R17). -/
def patchSwap (ps : List Byte) (s : State) : State × Reply :=
  match ps with
  | [b, a1, a0, b1, b0] =>
    match s.editRefusal (bankOk b.toNat && circuitOk (word a1 a0) && circuitOk (word b1 b0)) b.toNat with
    | some o => (s, .refuse o)
    | none =>
      if (s.circuit (word a1 a0)).swappable && (s.circuit (word b1 b0)).swappable then
        if word a1 a0 = word b1 b0 then (s, .done 0 [])
        else
          (s.setRecords b.toNat (sortRecs ((s.records b.toNat).map (PatchRec.exchange (word a1 a0) (word b1 b0)))),
            .done ((s.records b.toNat).countP fun r => r.circuit == word a1 a0 || r.circuit == word b1 b0) [])
      else (s, .refuse .conflict)
  | _ => (s, .refuse .malformed)

/-- PATCH-SWAP at the head of its queue is taken and performed. -/
def execPatchSwap (s : State) : Host.Outcome State Fault Refusal := .next (s.serve .patchSwap patchSwap)

/-- What a range, or the records of a load, have come to: the state, how many did not apply, the first failure. -/
structure RunTally where
  state : State
  failed : Nat
  first : Option (Nat × ReqOutcome)

/-- One pair of a range, by its pair index (R18, R19). -/
def rangePair (b ch ck prop : Nat) (t : RunTally) (i : Nat) : RunTally :=
  match t.state.storeRecord b (ch + i) (ck + i) prop with
  | .ok (s', _, _) => { t with state := s' }
  | .error o => { t with failed := t.failed + 1, first := t.first.or (some (i + 1, o)) }

/-- PATCH-RANGE (R18, R19). The pair index is carried in one byte (R180), into which 256 does not fit (assumption log 3). -/
def patchRange (ps : List Byte) (s : State) : State × Reply :=
  match ps with
  | [b, ch1, ch0, ck1, ck0, n1, n0, pr] =>
    match s.editRefusal (bankOk b.toNat && decide (1 ≤ word n1 n0) && decide (word n1 n0 ≤ 256) &&
        channelOk (word ch1 ch0) && circuitOk (word ck1 ck0) &&
        decide (word ch1 ch0 + word n1 n0 - 1 ≤ 1024) && decide (word ck1 ck0 + word n1 n0 - 1 ≤ 2048)) b.toNat with
    | some o => (s, .refuse o)
    | none =>
      let t := (List.range (word n1 n0)).foldl
        (rangePair b.toNat (word ch1 ch0) (word ck1 ck0) (clampProportion pr.toNat)) ⟨s, 0, none⟩
      match t.first with
      | none => (t.state, .done 0 [])
      | some (i, o) => (t.state, ⟨.inPart, t.failed, enc1 i ++ enc1 o.code⟩)
  | _ => (s, .refuse .malformed)

/-- PATCH-RANGE at the head of its queue is taken and performed. -/
def execPatchRange (s : State) : Host.Outcome State Fault Refusal := .next (s.serve .patchRange patchRange)

/-! ### Bulk load -/

/-- The opening checks of PATCH-LOAD and the transfer it opens (R20). -/
def patchLoadOpening (r : Request) (s : State) : Except ReqOutcome Transfer :=
  match r.params with
  | [b, n1, n0] =>
    match s.editRefusal (bankOk b.toNat && decide (1 ≤ word n1 n0) && decide (word n1 n0 ≤ 1024)) b.toNat with
    | some o => .error o
    | none => .ok (.load ⟨r.sequence, b.toNat, word n1 n0, 0, 0, none⟩)
  | _ => .error .malformed

/-- PATCH-LOAD at the head of its queue is taken and opens its transfer, or is refused. -/
def execPatchLoad (s : State) : Host.Outcome State Fault Refusal := .next (s.serveOpening .patchLoad patchLoadOpening)

/-- One record of a load's data frame, as if it were a PATCH-SET (R21). -/
def loadRecord (x : State × LoadTransfer) (r : Nat × Nat × Nat) : State × LoadTransfer :=
  let (s, t) := x
  let fail (o : ReqOutcome) : State × LoadTransfer :=
    (s, { t with received := t.received + 1, firstFailure := t.firstFailure.or (some (t.received + 1, o)) })
  match s.editRefusal (channelOk r.1 && circuitOk r.2.1) t.bank with
  | some o => fail o
  | none =>
    match s.storeRecord t.bank r.1 r.2.1 (clampProportion r.2.2) with
    | .error o => fail o
    | .ok (s', _, _) => (s', { t with received := t.received + 1, applied := t.applied + 1 })

/-- The records of a delivered data frame, up to the announced count (R21). -/
def loadFrame (s : State) (t : LoadTransfer) (data : List Byte) : State × LoadTransfer :=
  match loadRecords data with
  | none => (s, t)
  | some rs => (rs.take (t.announced - t.received)).foldl loadRecord (s, t)

/-- The answer of a load whose count is reached (R22). -/
def loadAnswer (t : LoadTransfer) : Answer where
  sequence := t.sequence
  code := BitVec.ofNat 8 ReqCode.patchLoad.code
  outcome := match t.firstFailure with
    | none => .done
    | some _ => .inPart
  count := match t.firstFailure with
    | none => 0
    | some _ => t.announced - t.applied
  data := match t.firstFailure with
    | none => []
    | some (pos, o) => failureData pos o

/-! ### Reading -/

/-- PATCH-READ-CHANNEL (R24). -/
def patchReadChannel (ps : List Byte) (s : State) : State × Reply :=
  match ps with
  | [b, ch1, ch0] =>
    if bankOk b.toNat && channelOk (word ch1 ch0) then
      let rs := (s.records b.toNat).filter fun r => r.channel == word ch1 ch0
      (s, .done rs.length (rs.map channelRecData).flatten)
    else (s, .refuse .range)
  | _ => (s, .refuse .malformed)

/-- PATCH-READ-CHANNEL at the head of its queue is taken and performed. -/
def execPatchReadChannel (s : State) : Host.Outcome State Fault Refusal :=
  .next (s.serve .patchReadChannel patchReadChannel)

/-- A record names a circuit in its circuit field or in its original-circuit field (R25, R38). -/
def PatchRec.names (r : PatchRec) (ck : Nat) : Bool := r.circuit == ck || r.original == some ck

/-- PATCH-READ-CIRCUIT (R25). -/
def patchReadCircuit (ps : List Byte) (s : State) : State × Reply :=
  match ps with
  | [b, ck1, ck0] =>
    if bankOk b.toNat && circuitOk (word ck1 ck0) then
      let rs := (s.records b.toNat).filter fun r => r.names (word ck1 ck0)
      (s, .done rs.length (rs.map recData).flatten)
    else (s, .refuse .range)
  | _ => (s, .refuse .malformed)

/-- PATCH-READ-CIRCUIT at the head of its queue is taken and performed. -/
def execPatchReadCircuit (s : State) : Host.Outcome State Fault Refusal :=
  .next (s.serve .patchReadCircuit patchReadCircuit)

/-! ### Bank copy, erase and lock -/

/-- BANK-COPY (R26). -/
def bankCopy (ps : List Byte) (s : State) : State × Reply :=
  match ps with
  | [src, dst] =>
    match s.editRefusal (bankOk src.toNat && bankOk dst.toNat) dst.toNat with
    | some o => (s, .refuse o)
    | none =>
      if src = dst then (s, .refuse .conflict)
      else if Config.poolRecords < s.poolCount - (s.records dst.toNat).length + (s.records src.toNat).length then
        (s, .refuse .full)
      else (s.setRecords dst.toNat (s.records src.toNat), .done (s.records src.toNat).length [])
  | _ => (s, .refuse .malformed)

/-- BANK-COPY at the head of its queue is taken and performed. -/
def execBankCopy (s : State) : Host.Outcome State Fault Refusal := .next (s.serve .bankCopy bankCopy)

/-- BANK-ERASE: the bank's records and looks (R27, R61). -/
def bankErase (ps : List Byte) (s : State) : State × Reply :=
  match ps with
  | [b] =>
    match s.editRefusal (bankOk b.toNat) b.toNat with
    | some o => (s, .refuse o)
    | none =>
      if b.toNat = s.liveBank then (s, .refuse .conflict)
      else (s.setBank b.toNat { s.bank b.toNat with records := [], looks := [] }, .done (s.records b.toNat).length [])
  | _ => (s, .refuse .malformed)

/-- BANK-ERASE at the head of its queue is taken and performed. -/
def execBankErase (s : State) : Host.Outcome State Fault Refusal := .next (s.serve .bankErase bankErase)

/-- Set or clear a bank's lock (R2). -/
def setBankLock (on : Bool) (ps : List Byte) (s : State) : State × Reply :=
  match ps with
  | [b] =>
    if bankOk b.toNat then (s.setBank b.toNat { s.bank b.toNat with locked := on }, .done 0 [])
    else (s, .refuse .range)
  | _ => (s, .refuse .malformed)

/-- BANK-LOCK at the head of its queue is taken and performed (R2). -/
def execBankLock (s : State) : Host.Outcome State Fault Refusal := .next (s.serve .bankLock (setBankLock true))

/-- BANK-UNLOCK at the head of its queue is taken and performed (R2). -/
def execBankUnlock (s : State) : Host.Outcome State Fault Refusal := .next (s.serve .bankUnlock (setBankLock false))

/-! ### Rewriting at acknowledgement, and the output lookup -/

/-- Change the records of every bank by `f`, each bank put back in its order (R28, R29). -/
def State.rewriteRecords (s : State) (f : PatchRec → PatchRec) : State :=
  { s with banks := s.banks.mapVals Bank.initial fun _ b => { b with records := sortRecs (b.records.map f) } }

/-- The record moved onto the spare at the acknowledgement of a TRANSFER (R28). -/
def PatchRec.ontoSpare (failed spare : Nat) (r : PatchRec) : PatchRec :=
  if r.circuit = failed then { r with circuit := spare, original := some failed } else r

/-- The record moved back at the acknowledgement of an UNDO (R29). -/
def PatchRec.backTo (failed spare : Nat) (r : PatchRec) : PatchRec :=
  if r.circuit = spare ∧ r.original = some failed then { r with circuit := failed, original := none } else r

/-- The records handed over for a circuit: those of the live bank that name it in their circuit field (R30). -/
def State.handedOver (s : State) (ck : Nat) : List PatchRec := (s.records s.liveBank).filter fun r => r.circuit == ck

end Sys2Proof.Machine
end

