-- ==== Sys2Proof/Machine/Circuits.lean ====
section
/-!
DEFINITION. The circuit table, the rig settings and the curve table (R31 to R48): CIRCUIT-SET with its order of checks,
the rig settings and the rig lock, and the curves.
-/

namespace Sys2Proof.Machine

/-! ### CIRCUIT-SET -/

/-- A circuit record in answer data, every field of R31 in its order (R39, R41). -/
def circuitData (c : Circuit) : List Byte :=
  enc1 c.role.code ++ enc1 c.mode.code ++ enc1 c.curve ++ enc2 c.threshold ++ encOpt1 c.park ++
  encBool c.openDetect ++ encBool c.shortDetect ++
  encBool c.openLoad.isSet ++ encBool c.openLoad.isNew ++ encBool c.short.isSet ++ encBool c.short.isNew ++
  encBool c.dimmerFail.isSet ++ encBool c.dimmerFail.isNew ++
  enc1 c.health.code ++ enc1 c.pairing.code ++ encOpt2 c.pairing.partner

/-- The fields a CIRCUIT-SET selects, as its bytes give them (R37, R180). -/
structure CircuitSelection where
  role : Option Byte
  mode : Option Byte
  curve : Option Byte
  threshold : Option (Byte × Byte)
  park : Option (Byte × Byte)
  masks : Option (Byte × Byte)
  deriving DecidableEq, Repr

/-- The number of parameter bytes a selection calls for (R37 step 1, R180). -/
def selectionLength (sel : Byte) : Nat :=
  (if sel.getLsbD 0 then 1 else 0) + (if sel.getLsbD 1 then 1 else 0) + (if sel.getLsbD 2 then 1 else 0) +
  (if sel.getLsbD 3 then 2 else 0) + (if sel.getLsbD 4 then 2 else 0) + (if sel.getLsbD 5 then 2 else 0)

/-- One selected byte off the front. -/
def takeOne (on : Bool) (ps : List Byte) : Option Byte × List Byte :=
  if on then (ps.head?, ps.tail) else (none, ps)

/-- Two selected bytes off the front. -/
def takeTwo (on : Bool) (ps : List Byte) : Option (Byte × Byte) × List Byte :=
  if on then (some (ps.getD 0 0, ps.getD 1 0), ps.drop 2) else (none, ps)

/-- The selected fields, in the order role, mode, curve, threshold, park and masks (R180). -/
def readSelection (sel : Byte) (ps : List Byte) : CircuitSelection :=
  let (role, ps) := takeOne (sel.getLsbD 0) ps
  let (mode, ps) := takeOne (sel.getLsbD 1) ps
  let (curve, ps) := takeOne (sel.getLsbD 2) ps
  let (threshold, ps) := takeTwo (sel.getLsbD 3) ps
  let (park, ps) := takeTwo (sel.getLsbD 4) ps
  let (masks, _) := takeTwo (sel.getLsbD 5) ps
  ⟨role, mode, curve, threshold, park, masks⟩

/-- Step 2 of R37 on the selected fields: the curve is 0 to 15, and every code is one its choice allows. -/
def CircuitSelection.inRange (x : CircuitSelection) : Bool :=
  x.role.all (fun b => (Role.ofCode b.toNat).isSome) && x.mode.all (fun b => (Mode.ofCode b.toNat).isSome) &&
  x.curve.all (fun b => decide (b.toNat ≤ 15)) && x.park.all (fun b => b.1 == 0 || b.1 == 1) &&
  x.masks.all (fun b => (b.1 == 0 || b.1 == 1) && (b.2 == 0 || b.2 == 1))

/-- A circuit is named: some record of some bank has it in its circuit or its original-circuit field (R38). -/
def State.named (s : State) (ck : Nat) : Bool := s.banks.any fun e => e.2.records.any fun r => r.names ck

/-- A change of role to another role is allowed by the table of R38. -/
def State.roleChangeAllowed (s : State) (ck : Nat) (new : Role) : Bool :=
  match (s.circuit ck).role, (s.circuit ck).pairing, new with
  | .ordinary, _, .spareFree => !s.named ck
  | .ordinary, _, .retired => !s.named ck
  | .spareFree, _, .ordinary => true
  | .spareFree, _, .retired => true
  | .retired, _, .ordinary => true
  | .retired, _, .spareFree => true
  | .failed, .unpaired, .ordinary => true
  | .failed, .unpaired, .spareFree => !s.named ck
  | .failed, .unpaired, .retired => !s.named ck
  | _, _, _ => false

/-- A spare role (R33). -/
def Role.isSpare : Role → Bool
  | .spareFree => true
  | .spareHeld => true
  | .spareInUse => true
  | _ => false

/-- The spare-role circuits of the rack of a circuit, that circuit not counted (R37 step 5). -/
def State.otherSpares (s : State) (ck : Nat) : Nat :=
  (List.range' 1 32).countP fun i =>
    circuitAt (linkOf ck) (rackOf ck) i ≠ ck && (s.circuit (circuitAt (linkOf ck) (rackOf ck) i)).role.isSpare

/-- A threshold as stored: 0 is stored as 1, a value above 4096 as 4096 (R37). -/
def clampThreshold (n : Nat) : Nat := if n = 0 then 1 else min n 4096

/-- A level as stored: a value above 4096 is stored as 4096 (R91, R105, R111). -/
def clampLevel (n : Nat) : Nat := min n 4096

/-- The circuit record with the selected settings stored (R39); the role is taken apart. -/
def Circuit.applySettings (c : Circuit) (x : CircuitSelection) : Circuit :=
  { c with
    mode := (x.mode.bind fun b => Mode.ofCode b.toNat).getD c.mode
    curve := (x.curve.map BitVec.toNat).getD c.curve
    threshold := (x.threshold.map fun b => clampThreshold (word b.1 b.2)).getD c.threshold
    park := (x.park.map fun b => if b.1 = 0 then none else some b.2.toNat).getD c.park
    openDetect := (x.masks.map fun b => b.1 == 1).getD c.openDetect
    shortDetect := (x.masks.map fun b => b.2 == 1).getD c.shortDetect }

/-- The circuit record after a selected role: a change sets the role and sets health to OK (R39); a role equal to the
present one is no change (R38). -/
def Circuit.applyRole (c : Circuit) (new : Role) : Circuit :=
  if new = c.role then c else { c with role := new, health := .ok }

/-- Steps 4 and 5 of R37 for a selected role. -/
def State.roleRefusal (s : State) (ck : Nat) (new : Role) : Option ReqOutcome :=
  if new = (s.circuit ck).role then none
  else if !s.roleChangeAllowed ck new then some .conflict
  else if new = .spareFree ∧ Config.rackSpares < s.otherSpares ck + 1 then some .full
  else none

/-- CIRCUIT-SET (R37 to R39). -/
def circuitSet (ps : List Byte) (s : State) : State × Reply :=
  match ps with
  | ck1 :: ck0 :: sel :: rest =>
    if rest.length ≠ selectionLength sel then (s, .refuse .malformed)
    else
      let x := readSelection sel rest
      let ck := word ck1 ck0
      let newRole := (x.role.bind fun b => Role.ofCode b.toNat).getD (s.circuit ck).role
      if !(circuitOk ck && decide (sel.toNat < 64) && x.inRange) then (s, .refuse .range)
      else if s.rig.locked then (s, .refuse .locked)
      else
        match s.roleRefusal ck newRole with
        | some o => (s, .refuse o)
        | none =>
          let c := ((s.circuit ck).applyRole newRole).applySettings x
          (s.setCircuit ck c, .done 0 (circuitData c))
  | _ => (s, .refuse .malformed)

/-- CIRCUIT-SET at the head of its queue is taken and performed. -/
def execCircuitSet (s : State) : Host.Outcome State Fault Refusal := .next (s.serve .circuitSet circuitSet)

/-- CIRCUIT-READ (R41). -/
def circuitRead (ps : List Byte) (s : State) : State × Reply :=
  match ps with
  | [ck1, ck0] =>
    if circuitOk (word ck1 ck0) then (s, .done 0 (circuitData (s.circuit (word ck1 ck0)))) else (s, .refuse .range)
  | _ => (s, .refuse .malformed)

/-- CIRCUIT-READ at the head of its queue is taken and performed. -/
def execCircuitRead (s : State) : Host.Outcome State Fault Refusal := .next (s.serve .circuitRead circuitRead)

/-! ### Rig settings and the rig lock -/

/-- The rig settings in answer data (R42, R44). -/
def rigData (r : Rig) : List Byte := encBool r.autoTransfer ++ enc1 r.spareReserve ++ enc1 r.ceiling

/-- RIG-SET (R42). -/
def rigSet (ps : List Byte) (s : State) : State × Reply :=
  match ps with
  | [auto, reserve, ceiling] =>
    if !(auto == 0 || auto == 1) then (s, .refuse .range)
    else if s.rig.locked then (s, .refuse .locked)
    else
      let r : Rig := ⟨auto == 1, min reserve.toNat 8, ceiling.toNat, s.rig.locked⟩
      (s.setRig r, .done 0 (rigData r))
  | _ => (s, .refuse .malformed)

/-- RIG-SET at the head of its queue is taken and performed. -/
def execRigSet (s : State) : Host.Outcome State Fault Refusal := .next (s.serve .rigSet rigSet)

/-- RIG-READ (R44). -/
def rigRead (ps : List Byte) (s : State) : State × Reply :=
  match ps with
  | [] => (s, .done 0 (rigData s.rig ++ encBool s.rig.locked ++ enc2 s.eligibleSpares))
  | _ => (s, .refuse .malformed)

/-- RIG-READ at the head of its queue is taken and performed. -/
def execRigRead (s : State) : Host.Outcome State Fault Refusal := .next (s.serve .rigRead rigRead)

/-- Set or clear the rig lock (R43). -/
def setRigLock (on : Bool) (ps : List Byte) (s : State) : State × Reply :=
  match ps with
  | [] => (s.setRig { s.rig with locked := on }, .done 0 [])
  | _ => (s, .refuse .malformed)

/-- RIG-LOCK at the head of its queue is taken and performed (R43). -/
def execRigLock (s : State) : Host.Outcome State Fault Refusal := .next (s.serve .rigLock (setRigLock true))

/-- RIG-UNLOCK at the head of its queue is taken and performed (R43). -/
def execRigUnlock (s : State) : Host.Outcome State Fault Refusal := .next (s.serve .rigUnlock (setRigLock false))

/-! ### Curves -/

/-- Each point is at least the point before it (R45, R46 step 3). -/
def nonDecreasing : List Nat → Bool
  | [] => true
  | [_] => true
  | x :: y :: t => decide (x ≤ y) && nonDecreasing (y :: t)

/-- CURVE-LOAD (R46). -/
def curveLoad (ps : List Byte) (s : State) : State × Reply :=
  match ps with
  | c :: pts =>
    if pts.length ≠ 34 then (s, .refuse .malformed)
    else if !(decide (1 ≤ c.toNat) && decide (c.toNat ≤ 15) && (words pts).all (fun p => decide (p ≤ 4096))) then
      (s, .refuse .range)
    else if !nonDecreasing (words pts) then (s, .refuse .malformed)
    else if s.rig.locked then (s, .refuse .locked)
    else (s.setCurve c.toNat (words pts), .done 0 [])
  | [] => (s, .refuse .malformed)

/-- CURVE-LOAD at the head of its queue is taken and performed. -/
def execCurveLoad (s : State) : Host.Outcome State Fault Refusal := .next (s.serve .curveLoad curveLoad)

/-- CURVE-READ (R47). -/
def curveRead (ps : List Byte) (s : State) : State × Reply :=
  match ps with
  | [c] =>
    if c.toNat ≤ 15 then (s, .done 0 ((s.curve c.toNat).map enc2).flatten) else (s, .refuse .range)
  | _ => (s, .refuse .malformed)

/-- CURVE-READ at the head of its queue is taken and performed. -/
def execCurveRead (s : State) : Host.Outcome State Fault Refusal := .next (s.serve .curveRead curveRead)

end Sys2Proof.Machine
end

