-- ==== Sys2Proof/Machine/Looks.lean ====
section
/-!
DEFINITION. The look store (R49 to R62): capacity, the opening of a look write, the staging of its entries, its decision
at the close, and the reading and deleting of looks.
-/

namespace Sys2Proof.Machine

/-! ### Capacity (R51) -/

/-- Headers in use, all banks together. -/
def State.lookHeadersUsed (s : State) : Nat := (s.banks.map fun e => e.2.looks.length).sum

/-- The entries of a look's place in the store. -/
def lookSize : Option Look → Nat
  | none => 0
  | some l => l.entries.length

/-- Entries in use, all banks together. -/
def State.lookEntriesUsed (s : State) : Nat := (s.banks.map fun e => (e.2.looks.map fun x => lookSize x.2).sum).sum

/-- Free look entries (R51). -/
def State.freeLookEntries (s : State) : Nat := Config.lookEntries - s.lookEntriesUsed

/-- The free entries a write of `n` entries needs: what the look it replaces does not give back, or none. -/
def State.entriesNeeded (s : State) (b num n : Nat) : Nat := n - lookSize (s.look b num)

/-- The header table and the entry pool could hold a look of `n` entries. -/
def State.lookFits (s : State) (b num n : Nat) : Bool :=
  ((s.look b num).isSome || decide (s.lookHeadersUsed < Config.lookHeaders)) &&
  decide (s.entriesNeeded b num n ≤ s.freeLookEntries)

/-! ### Writing a look -/

/-- A follow as a request carries it: presence byte, look number, delay; none where step 2 refuses it (R52, R180). -/
def followOfBytes (present l1 l0 d1 d0 : Byte) : Option (Option Follow) :=
  if present = 0 then some none
  else if present = 1 ∧ lookOk (word l1 l0) = true then some (some ⟨word l1 l0, word d1 d0⟩)
  else none

/-- The opening checks of LOOK-WRITE and the look write it opens (R52). -/
def lookWriteOpening (r : Request) (s : State) : Except ReqOutcome Transfer :=
  match r.params with
  | [b, n1, n0, e1, e0, ut1, ut0, dt1, dt0, ud1, ud0, dd1, dd0, fp, fl1, fl0, fd1, fd0, lc, lp] =>
    match followOfBytes fp fl1 fl0 fd1 fd0, Loop.ofCodes lc.toNat lp.toNat with
    | some follow, some loop =>
      match s.editRefusal (bankOk b.toNat && lookOk (word n1 n0) && decide (1 ≤ word e1 e0) &&
          decide (word e1 e0 ≤ 1024)) b.toNat with
      | some o => .error o
      | none =>
        if s.lookFits b.toNat (word n1 n0) (word e1 e0) then
          .ok (.write ⟨r.sequence, b.toNat, word n1 n0, word e1 e0,
            ⟨word ut1 ut0, word dt1 dt0, word ud1 ud0, word dd1 dd0, follow, loop⟩, [], 0, none⟩)
        else .error .full
    | _, _ => .error .range
  | _ => .error .malformed

/-- LOOK-WRITE at the head of its queue is taken and opens its look write, or is refused. -/
def execLookWrite (s : State) : Host.Outcome State Fault Refusal := .next (s.serveOpening .lookWrite lookWriteOpening)

/-- The fault of an entry by the entry before it in the look (R53). Where its channel is both out of range and not greater than the one
before, the fault is RANGE: DESIGN CHOICE, assumption log 22. -/
def entryFault (before : Option LookEntry) (ch : Nat) : Option ReqOutcome :=
  if !channelOk ch then some .range
  else if before.any (fun e => decide (ch ≤ e.channel)) then some .malformed
  else none

/-- One entry is placed in the staging area and counted; the first fault of the write is recorded (R53). -/
def stageEntry (t : WriteTransfer) (e : Nat × Nat) : WriteTransfer :=
  { t with
    staged := t.staged ++ [⟨e.1, clampLevel e.2⟩]
    received := t.received + 1
    fault := t.fault.or ((entryFault t.staged.getLast? e.1).map fun o => (t.received + 1, o)) }

/-- The entries of a delivered data frame, up to the announced count (R53). -/
def stageFrame (t : WriteTransfer) (data : List Byte) : WriteTransfer :=
  match writeEntries data with
  | none => t
  | some es => (es.take (t.announced - t.received)).foldl stageEntry t

/-- The decision of a look write whose count is reached: the checks of R54 in their order, then R55. -/
def decideWrite (t : WriteTransfer) (s : State) : State × Reply :=
  match t.fault with
  | some (pos, o) => (s, ⟨o, 0, enc2 pos⟩)
  | none =>
    match s.bankRefusal t.bank with
    | some o => (s, .refuse o)
    | none =>
      if s.lookFits t.bank t.number t.announced then
        (s.setLook t.bank t.number (some ⟨t.header, t.staged⟩),
          .done t.announced (encOpt2 ((s.look t.bank t.number).map fun l => l.entries.length)))
      else (s, ⟨.full, 0, enc2 (s.entriesNeeded t.bank t.number t.announced) ++ enc2 s.freeLookEntries⟩)

/-! ### Reading and deleting -/

/-- A look's header in answer data: times, delays, follow, loop (R58). -/
def headerData (h : LookHeader) : List Byte :=
  enc2 h.upTime ++ enc2 h.downTime ++ enc2 h.upDelay ++ enc2 h.downDelay ++ encFollow h.follow ++ h.loop.enc

/-- LOOK-READ (R58). -/
def lookRead (ps : List Byte) (s : State) : State × Reply :=
  match ps with
  | [b, n1, n0, i1, i0] =>
    if bankOk b.toNat && lookOk (word n1 n0) && decide (1 ≤ word i1 i0) && decide (word i1 i0 ≤ 1024) then
      match s.look b.toNat (word n1 n0) with
      | none => (s, .refuse .absent)
      | some l =>
        (s, .done l.entries.length (headerData l.header ++
          (((l.entries.drop (word i1 i0 - 1)).take Config.readRun).map fun e => enc2 e.channel ++ enc2 e.level).flatten))
    else (s, .refuse .range)
  | _ => (s, .refuse .malformed)

/-- LOOK-READ at the head of its queue is taken and performed. -/
def execLookRead (s : State) : Host.Outcome State Fault Refusal := .next (s.serve .lookRead lookRead)

/-- LOOK-DELETE (R59). -/
def lookDelete (ps : List Byte) (s : State) : State × Reply :=
  match ps with
  | [b, n1, n0] =>
    match s.editRefusal (bankOk b.toNat && lookOk (word n1 n0)) b.toNat with
    | some o => (s, .refuse o)
    | none =>
      match s.look b.toNat (word n1 n0) with
      | none => (s, .refuse .absent)
      | some l => (s.setLook b.toNat (word n1 n0) none, .done l.entries.length [])
  | _ => (s, .refuse .malformed)

/-- LOOK-DELETE at the head of its queue is taken and performed. -/
def execLookDelete (s : State) : Host.Outcome State Fault Refusal := .next (s.serve .lookDelete lookDelete)

end Sys2Proof.Machine
end

