-- ==== Sys2Proof/Machine/PortEvents.lean ====
section
/-!
DEFINITION. The events of the console ports (R180 to R188): frames received and arriving, held data frames delivered, the inactivity
timer, and answers sent.
-/

namespace Sys2Proof.Machine

/-- A frame answered MALFORMED at its arrival: count 0, no data, the sequence and code echoed (R184, R187). -/
def malformedAnswer (sequence code : Byte) : Answer := ⟨sequence, code, .malformed, 0, []⟩

/-- The port is announcing: the request that most recently joined its queue, and still waits there, is an announcing
request (R183). -/
def PortState.announces (p : PortState) : Bool := p.queue.getLast?.any fun r => r.code.announcing

/-- An announcing request of the port waits to be taken, whether or not others have joined behind it: its transfer may still
open, and the frames held for it wait (R186, R188). -/
def PortState.awaitsOpening (p : PortState) : Bool := p.queue.any fun r => r.code.announcing

/-- What a port has received of a frame that has not ended (R183, R184). -/
def State.buffering (s : State) (p : Port) (buffer : Option (List Byte)) : State :=
  s.setPort p { s.port p with receiveBuffer := buffer }

/-- The arrival of a frame (R184): the line's symbols are received, and where they end one frame, and it is of the row's kind,
the row's event is that frame's (`take`). Where they end none, the frame being received stands in the receive buffer. While the
reset line is asserted they are discarded (R196). Symbols that end a frame of another kind, or several frames, are not this
event, and nothing changes (assumption logs 2 and 14). -/
def State.onFrame (s : State) (p : Port) (symbols : List LineSymbol) (take : FrameClass → State → Option State) : State :=
  if s.resetLine then s
  else
    match receive (s.port p).receiveBuffer symbols with
    | (buffer, []) => s.buffering p buffer
    | (buffer, [frame]) => (take (classifyFrame frame) (s.buffering p buffer)).getD s
    | _ => s

/-- Held data frames still undelivered when their transfer closes full are answered MALFORMED, one by one in hold order,
and discarded (R186). -/
def State.refuseHeld (s : State) (p : Port) : State :=
  s.setPort p { s.port p with
    dataHold := []
    outgoing := (s.port p).outgoing ++ (s.port p).dataHold.map fun d => malformedAnswer d.sequence dataCode }

/-- The open transfer is kept with its new tally, and the inactivity timer runs afresh (R187). -/
def State.keepTransfer (s : State) (p : Port) (t : Transfer) : State :=
  s.setPort p { s.port p with transfer := some t, inactivityTimer := .running }

/-- The transfer closes full with its answer (R188), and what is still held is answered MALFORMED (R186). -/
def State.closeFull (s : State) (p : Port) (a : Answer) : State := ((s.dropTransfer p).produce p a).refuseHeld p

/-- A data frame is delivered to the open transfer (R187): its records are applied (R21) or its entries staged (R53), and
at the announced count the transfer closes full (R22, R54). -/
def State.deliver (s : State) (p : Port) (t : Transfer) (data : List Byte) : State :=
  match t with
  | .load t =>
    let (s1, t1) := loadFrame s t data
    if t1.announced ≤ t1.received then s1.closeFull p (loadAnswer t1) else s1.keepTransfer p (.load t1)
  | .write t =>
    let t1 := stageFrame t data
    if t1.announced ≤ t1.received then
      let (s1, y) := decideWrite t1 s
      s1.closeFull p ⟨t1.sequence, BitVec.ofNat 8 ReqCode.lookWrite.code, y.outcome, y.count, y.data⟩
    else s.keepTransfer p (.write t1)

/-- The frame at the front of a port's data hold is delivered to the open transfer as its own event (R186, R187). With none open
it waits while an announcing request does, whose opening delivers it; where none waits any more, its transfer having closed
early, it is answered MALFORMED (assumption log 10). -/
def State.deliverHeld (s : State) (p : Port) : State :=
  match (s.port p).dataHold with
  | [] => s
  | d :: rest =>
    match (s.port p).transfer with
    | some t => (s.setPort p { s.port p with dataHold := rest }).deliver p t d.data
    | none =>
      if (s.port p).awaitsOpening then s
      else (s.setPort p { s.port p with dataHold := rest }).produce p (malformedAnswer d.sequence dataCode)

/-- DATA-HOLD-DELIVERY (R186). -/
def execDataHoldDelivery (p : Port) (s : State) : Host.Outcome State Fault Refusal := .next (s.deliverHeld p)

/-- A frame held on the port does not wait: a transfer is open, or no announcing request waits whose opening would deliver it
(R186, assumption log 10). -/
def PortState.decides (p : PortState) : Bool := p.transfer.isSome || !p.awaitsOpening

/-- Deliver held frames until none is held or they wait: a data frame that arrives after them is taken after all of them
(R186, assumption log 10). -/
def State.deliverAllHeld (s : State) (p : Port) : Nat → State
  | 0 => s
  | n + 1 => if (s.port p).decides then (s.deliverHeld p).deliverAllHeld p n else s

/-- A request frame (R185): an open transfer closes early; then the request joins the queue, or with 4 waiting is answered
BUSY. -/
def takeRequest (p : Port) (f : FrameClass) (s : State) : Option State :=
  match f with
  | .request r =>
    let s1 := s.closeEarly p
    if (s1.port p).queue.length < Config.queueDepth then
      some (s1.setPort p { s1.port p with queue := (s1.port p).queue ++ [r] })
    else some (s1.answer p r ⟨.busy, 0, []⟩)
  | .data _ => none
  | .malformed _ _ => none

/-- A frame with a malformed header (R184): answered MALFORMED at once with the bytes as received; where the code byte is not
DATA an open transfer is closed early first. -/
def takeMalformed (p : Port) (f : FrameClass) (s : State) : Option State :=
  match f with
  | .malformed sq code =>
    some ((if code = dataCode then s else s.closeEarly p).produce p (malformedAnswer sq code))
  | .request _ => none
  | .data _ => none

/-- A data frame (R187), after every held one that does not wait (R186): delivered to the open transfer, held while the port is
announcing and holds fewer than 8, and else itself answered MALFORMED, those held for an opening staying held. -/
def takeData (p : Port) (f : FrameClass) (s : State) : Option State :=
  match f with
  | .data d =>
    let s1 := s.deliverAllHeld p (s.port p).dataHold.length
    match (s1.port p).transfer with
    | some t => some (s1.deliver p t d.data)
    | none =>
      if (s1.port p).announces && decide ((s1.port p).dataHold.length < Config.holdDepth) then
        some (s1.setPort p { s1.port p with dataHold := (s1.port p).dataHold ++ [d] })
      else some (s1.produce p (malformedAnswer d.sequence dataCode))
  | .request _ => none
  | .malformed _ _ => none

/-- REQUEST-FRAME-ARRIVAL (R185). -/
def execRequestFrameArrival (p : Port) (symbols : List LineSymbol) (s : State) : Host.Outcome State Fault Refusal :=
  .next (s.onFrame p symbols (takeRequest p))

/-- MALFORMED-FRAME-ARRIVAL (R184). -/
def execMalformedFrameArrival (p : Port) (symbols : List LineSymbol) (s : State) : Host.Outcome State Fault Refusal :=
  .next (s.onFrame p symbols (takeMalformed p))

/-- DATA-FRAME-ARRIVAL (R187). -/
def execDataFrameArrival (p : Port) (symbols : List LineSymbol) (s : State) : Host.Outcome State Fault Refusal :=
  .next (s.onFrame p symbols (takeData p))

/-- INACTIVITY-TIMEOUT: expiry of a port's running inactivity timer closes its transfer early (R188). -/
def execInactivityTimeout (p : Port) (s : State) : Host.Outcome State Fault Refusal :=
  if (s.port p).inactivityTimer = .running then .next (s.closeEarly p) else .next s

/-- ANSWER-WHOLLY-SENT: the answer at the front leaves the outgoing answers (R183). While the reset line is asserted the
ports send nothing (R196). -/
def execAnswerWhollySent (p : Port) (s : State) : Host.Outcome State Fault Refusal :=
  if s.resetLine then .next s
  else .next (s.setPort p { s.port p with outgoing := (s.port p).outgoing.tail })

end Sys2Proof.Machine
end

