-- ==== Sys2Proof/Machine/Fades.lean ====
section
/-!
DEFINITION. The fade engine (R63 to R97, R100, R101): interpolation, takeover, completion, bounce, fast completion,
follows, the playback requests and the fade engine's part of desk clear and of the switch event.
-/

namespace Sys2Proof.Machine

/-! ### Interpolation (R100) -/

/-- The level of an entry from start `s` to target `t` with delay `d` and time `D` at elapsed count `e` (R100). -/
def interpolate (s t d D e : Nat) : Nat :=
  if e < d then s
  else if D = 0 then t
  else
    let k := min (e - d) D
    if s ≤ t then s + ((t - s) * k + D / 2) / D else s - ((s - t) * k + D / 2) / D

/-- The delay and the time of a fade's part (R66, R100). -/
def Fade.timesOf (f : Fade) : Part → Nat × Nat
  | .up => (f.upDelay, f.upTime)
  | .down => (f.downDelay, f.downTime)

/-- An entry owned by a fade at the fade's elapsed count (R76, R101); an entry the fade does not own stays. -/
def Fade.move (f : Fade) (e : Entry) : Entry :=
  if e.owner = some f.number then
    { e with level := interpolate e.start e.target (f.timesOf e.part).1 (f.timesOf e.part).2 f.elapsed }
  else e

/-! ### Ownership, completion count, retirement -/

/-- An entry whose owner completes or is fast-completed takes its target and loses its owner (R79, R83). -/
def Entry.finish (n : Nat) (e : Entry) : Entry :=
  if e.owner = some n then { e with level := e.target, owner := none } else e

/-- An entry that loses its owner where it stands (R92). -/
def Entry.disown (e : Entry) : Entry := { e with owner := none }

/-- The part an entry takes from its start and target (R66, R73). -/
def partOf (start target : Nat) : Part := if start ≤ target then .up else .down

/-- An entry turned round at a bounce: start and target exchanged, the part recomputed (R78). -/
def Entry.turn (n : Nat) (e : Entry) : Entry :=
  if e.owner = some n then { e with start := e.target, target := e.start, part := partOf e.target e.start } else e

/-- Some entry of a table is owned by a fade and of a part. -/
def ownsPart (t : Tbl Entry) (n : Nat) (p : Part) : Bool := t.any fun e => e.2.owner == some n && e.2.part == p

/-- The completion count over the entries a fade owns (R70). -/
def Fade.countOver (f : Fade) (t : Tbl Entry) : Nat :=
  max (if ownsPart t f.number .up then f.upDelay + f.upTime else 0)
    (if ownsPart t f.number .down then f.downDelay + f.downTime else 0)

/-- A loop that makes a fade bounce: endless, or 1 to 255 passes (R78). -/
def Loop.looping : Loop → Bool
  | .absent => false
  | .endless => true
  | .passes n => decide (0 < n)

/-- The loop passes remaining after a bounce (R78). -/
def Loop.afterBounce : Loop → Loop
  | .passes n => if n ≤ 1 then .absent else .passes (n - 1)
  | l => l

/-- The playback has a fade (R64). -/
def State.hasFade (s : State) (p : Nat) : Bool := s.fades.any fun f => f.playback == p

/-- Re-derive a playback's state at the end of an event (R64). -/
def State.rederive (s : State) (p : Nat) : State :=
  s.setPlayback p { s.playback p with
    state := if !s.hasFade p && (s.playback p).pendingFollow.isNone then .idle
      else if (s.playback p).state = .held then .held else .running }

/-- A fade loses an entry to a takeover; one that has lost its last retires as superseded (R73). -/
def State.dropClaim (s : State) (n : Nat) : State :=
  s.setFades (s.fades.filterMap fun f =>
    if f.number = n then (if f.owned ≤ 1 then none else some { f with owned := f.owned - 1 }) else some f)

/-- A fade gains an entry (R73). -/
def State.addClaim (s : State) (n : Nat) : State :=
  s.setFades (s.fades.map fun f => if f.number = n then { f with owned := f.owned + 1 } else f)

/-- A fade takes over one channel entry of its playback with a target and a part (R73). -/
def State.takeEntry (s : State) (n p ch target : Nat) (part : Part) : State :=
  let e := s.entry p ch
  let s1 := match e.owner with
    | none => s
    | some old => s.dropClaim old
  (s1.setEntry p ch { e with owner := some n, start := e.level, target := target, part := part }).addClaim n

/-- Take over the entries of a look, in entry order (R73). -/
def State.takeLook (s : State) (n p : Nat) (es : List LookEntry) : State :=
  es.foldl (fun s e => s.takeEntry n p e.channel e.level (partOf (s.entry p e.channel).level e.level)) s

/-- Take channel entries down to 0, with part DOWN whatever their start (R85). -/
def State.takeDown (s : State) (n p : Nat) (chs : List Nat) : State :=
  chs.foldl (fun s ch => s.takeEntry n p ch 0 .down) s

/-- The lowest-numbered free fade slot (R69). -/
def State.freeSlot (s : State) : Nat :=
  ((List.range' 1 Config.fadeSlots).find? fun n => (s.fade n).isNone).getD 1

/-- Fast completion of the oldest fade (R83): its entries take their targets, its playback's *forced* flag is set and its
slot is freed. Gives its number and playback. -/
def State.fastComplete (s : State) : State × Option (Nat × Nat) :=
  match s.fades with
  | [] => (s, none)
  | f :: rest =>
    let s1 := (s.setFades rest).mapEntries f.playback (Entry.finish f.number)
    (s1.setPlayback f.playback { s1.playback f.playback with forced := true }, some (f.number, f.playback))

/-- Secure a fade slot: with 48 fades the oldest is fast-completed (R72, R83). -/
def State.secureSlot (s : State) : State × Option (Nat × Nat) :=
  if Config.fadeSlots ≤ s.fades.length then s.fastComplete else (s, none)

/-- Re-derive the state of the playback whose fade was fast-completed, if one was (R83). -/
def State.rederiveForced (s : State) : Option (Nat × Nat) → State
  | none => s
  | some (_, p) => s.rederive p

/-- Normal completion of a fade (R79): its entries take their targets, it retires, and its follow becomes the playback's
pending follow. -/
def State.complete (s : State) (f : Fade) : State :=
  let s1 := (s.mapEntries f.playback (Entry.finish f.number)).removeFade f.number
  match f.follow with
  | none => s1
  | some w => s1.setPlayback f.playback { s1.playback f.playback with pendingFollow := some ⟨w.look, w.delay⟩ }

/-! ### GO and follow firing -/

/-- Resume a HELD playback: the held flag of each of its fades is cleared and its state becomes RUNNING (R72, R88). -/
def State.resumePlayback (s : State) (p : Nat) : State :=
  if (s.playback p).state = .held then
    (s.setFades (s.fades.map fun f => if f.playback = p then { f with held := false } else f)).setPlayback p
      { s.playback p with state := .running }
  else s

/-- A playback's pending follow is cancelled, or becomes absent as it fires (R72, R81). -/
def State.cancelFollow (s : State) (p : Nat) : State := s.setPlayback p { s.playback p with pendingFollow := none }

/-- What a GO answers of the fade it made (R71): the fade's number, absent if it completed in the event, its completion
count, and the fade fast-completed, if any. -/
structure LaunchInfo where
  fade : Option Nat
  completion : Nat
  forced : Option (Nat × Nat)
  deriving DecidableEq, Repr

/-- The fade a look's GO makes, in a slot (R73, R74). -/
def newFade (slot p num : Nat) (overTime : Option Nat) (l : Look) : Fade :=
  { number := slot
    playback := p
    look := some num
    upTime := overTime.getD l.header.upTime
    downTime := overTime.getD l.header.downTime
    upDelay := l.header.upDelay
    downDelay := l.header.downDelay
    follow := l.header.follow
    loop := l.header.loop
    elapsed := 0
    held := false
    owned := 0
    completion := 0 }

/-- A GO of a look on a playback, from securing the slot to the end of the event but for a follow of delay 0
(R72 to R74). -/
def State.launch (s : State) (p num : Nat) (overTime : Option Nat) (l : Look) : State × LaunchInfo :=
  let (s, forced) := s.secureSlot
  let s := (s.resumePlayback p).cancelFollow p
  let slot := s.freeSlot
  let f := newFade slot p num overTime l
  let s := (s.setFades (s.fades ++ [f])).takeLook slot p l.entries
  let f := { ((s.fade slot).getD f) with completion := f.countOver (s.playback p).entries }
  let s := (s.updateFade f).setPlayback p { s.playback p with lastLook := some num }
  if f.completion = 0 then
    (((s.complete f).rederive p).rederiveForced forced, ⟨none, 0, forced⟩)
  else ((s.rederive p).rederiveForced forced, ⟨some slot, f.completion, forced⟩)

/-- A playback's *follow missed* flag is set (R63, R81). -/
def State.missFollow (s : State) (p : Nat) : State := s.setPlayback p { s.playback p with followMissed := true }

/-- A pending follow of a look fires on a playback (R81). -/
def State.fireFollow (s : State) (p num : Nat) : State :=
  let s := s.cancelFollow p
  if s.darkening then (s.missFollow p).rederive p
  else
    match s.look s.liveBank num with
    | none => (s.missFollow p).rederive p
    | some l => (s.launch p num none l).1

/-- Fire a pending follow whose remaining delay is 0, if the playback has one (R77, R80). -/
def State.fireDue (s : State) (p : Nat) : State :=
  match (s.playback p).pendingFollow with
  | none => s
  | some w => if w.remaining = 0 then s.fireFollow p w.look else s

/-- A fade's number and playback in answer data, or absent (R71, R85). -/
def forcedData : Option (Nat × Nat) → List Byte
  | none => [0, 0, 0]
  | some (n, p) => 1 :: (enc1 n ++ enc1 p)

/-- GO (R71 to R74, R80): a follow of delay 0 that the GO's own fade schedules fires in the same event. -/
def go (ps : List Byte) (s : State) : State × Reply :=
  match ps with
  | [p, n1, n0, present, t1, t0] =>
    if !(playbackOk p.toNat && lookOk (word n1 n0) && (present == 0 || present == 1)) then (s, .refuse .range)
    else if s.darkening then (s, .refuse .changing)
    else
      match s.look s.liveBank (word n1 n0) with
      | none => (s, .refuse .absent)
      | some l =>
        let (s', y) := s.launch p.toNat (word n1 n0) (if present = 0 then none else some (word t1 t0)) l
        (if y.fade = none then s'.fireDue p.toNat else s',
          .done l.entries.length (encOpt1 y.fade ++ enc2 y.completion ++ forcedData y.forced))
  | _ => (s, .refuse .malformed)

/-- GO at the head of its queue is taken and performed. -/
def execGo (s : State) : Host.Outcome State Fault Refusal := .next (s.serve .go go)

/-! ### RELEASE -/

/-- The channels of a playback's qualifying entries: the level is above 0, or the entry is owned (R85). -/
def State.qualifying (s : State) (p : Nat) : List Nat :=
  ((s.playback p).entries.filter fun e => decide (0 < e.2.level) || e.2.owner.isSome).map Prod.fst

/-- The release fade of a time, held as the playback is (R85, R86). -/
def releaseFade (slot p time : Nat) (held : Bool) : Fade :=
  { number := slot
    playback := p
    look := none
    upTime := time
    downTime := time
    upDelay := 0
    downDelay := 0
    follow := none
    loop := .absent
    elapsed := 0
    held := held
    owned := 0
    completion := time }

/-- RELEASE (R85, R86). -/
def release (ps : List Byte) (s : State) : State × Reply :=
  match ps with
  | [pb, t1, t0] =>
    let p := pb.toNat
    let time := word t1 t0
    if !playbackOk p then (s, .refuse .range)
    else
      let held := decide ((s.playback p).state = .held)
      let s := s.setPlayback p { s.playback p with pendingFollow := none, lastLook := none }
      if s.qualifying p = [] then (s.rederive p, .done 0 (encOpt1 none ++ forcedData none))
      else
        let (s, forced) := s.secureSlot
        let chs := s.qualifying p
        if chs = [] then ((s.rederive p).rederiveForced forced, .done 0 (encOpt1 none ++ forcedData forced))
        else
          let slot := s.freeSlot
          let f := releaseFade slot p time held
          let s := (s.setFades (s.fades ++ [f])).takeDown slot p chs
          if time = 0 then
            (((s.complete f).rederive p).rederiveForced forced, .done chs.length (encOpt1 none ++ forcedData forced))
          else
            ((s.rederive p).rederiveForced forced, .done chs.length (encOpt1 (some slot) ++ forcedData forced))
  | _ => (s, .refuse .malformed)

/-- RELEASE at the head of its queue is taken and performed. -/
def execRelease (s : State) : Host.Outcome State Fault Refusal := .next (s.serve .release release)

/-! ### HOLD, RESUME, STOP-LOOP, MASTER -/

/-- HOLD (R87). -/
def hold (ps : List Byte) (s : State) : State × Reply :=
  match ps with
  | [p] =>
    if !playbackOk p.toNat then (s, .refuse .range)
    else if (s.playback p.toNat).state = .idle then (s, .done 0 [])
    else
      ((s.setFades (s.fades.map fun f => if f.playback = p.toNat then { f with held := true } else f)).setPlayback
          p.toNat { s.playback p.toNat with state := .held },
        .done (s.fades.countP fun f => f.playback == p.toNat) [])
  | _ => (s, .refuse .malformed)

/-- HOLD at the head of its queue is taken and performed. -/
def execHold (s : State) : Host.Outcome State Fault Refusal := .next (s.serve .hold hold)

/-- RESUME (R88). -/
def resume (ps : List Byte) (s : State) : State × Reply :=
  match ps with
  | [p] =>
    if !playbackOk p.toNat then (s, .refuse .range)
    else if (s.playback p.toNat).state = .held then
      (s.resumePlayback p.toNat, .done (s.fades.countP fun f => f.playback == p.toNat && f.held) [])
    else (s, .done 0 [])
  | _ => (s, .refuse .malformed)

/-- RESUME at the head of its queue is taken and performed. -/
def execResume (s : State) : Host.Outcome State Fault Refusal := .next (s.serve .resume resume)

/-- STOP-LOOP (R89). -/
def stopLoop (ps : List Byte) (s : State) : State × Reply :=
  match ps with
  | [p] =>
    if !playbackOk p.toNat then (s, .refuse .range)
    else
      (s.setFades (s.fades.map fun f => if f.playback = p.toNat && f.loop.looping then { f with loop := .absent } else f),
        .done (s.fades.countP fun f => f.playback == p.toNat && f.loop.looping) [])
  | _ => (s, .refuse .malformed)

/-- STOP-LOOP at the head of its queue is taken and performed. -/
def execStopLoop (s : State) : Host.Outcome State Fault Refusal := .next (s.serve .stopLoop stopLoop)

/-- MASTER (R91). -/
def master (ps : List Byte) (s : State) : State × Reply :=
  match ps with
  | [p, l1, l0] =>
    if !playbackOk p.toNat then (s, .refuse .range)
    else
      (s.setPlayback p.toNat { s.playback p.toNat with master := clampLevel (word l1 l0) },
        .done 0 (enc2 (clampLevel (word l1 l0))))
  | _ => (s, .refuse .malformed)

/-- MASTER at the head of its queue is taken and performed. -/
def execMaster (s : State) : Host.Outcome State Fault Refusal := .next (s.serve .master master)

/-! ### Desk clear and the switch event in the fade engine -/

/-- A playback after desk clear (R92): no owner, no pending follow, no hold, IDLE. -/
def Playback.deskClear (p : Playback) : Playback :=
  { p with
    state := .idle
    pendingFollow := none
    entries := p.entries.mapVals Entry.initial fun _ => Entry.disown }

/-- A playback after the switch event (R97): every entry at 0 with no owner, the pending follow dropped with
*follow missed*, IDLE, last look absent. -/
def Playback.atSwitch (p : Playback) : Playback :=
  { p with
    state := .idle
    lastLook := none
    pendingFollow := none
    followMissed := p.followMissed || p.pendingFollow.isSome
    entries := p.entries.mapVals Entry.initial fun _ e => { e with level := 0, owner := none } }

/-- Change every playback, all in one. -/
def State.mapPlaybacks (s : State) (f : Playback → Playback) : State :=
  { s with playbacks := s.playbacks.mapVals Playback.initial fun _ => f }

/-- Desk clear as performed: every fade deleted, every playback cleared, every capture released (R92). -/
def State.deskClear (s : State) : State := ((s.setFades []).mapPlaybacks Playback.deskClear).setCaptures []

/-- DESK-CLEAR when it is performed (R92). -/
def deskClear (ps : List Byte) (s : State) : State × Reply :=
  match ps with
  | [] => (s.deskClear, .done s.fades.length [])
  | _ => (s, .refuse .malformed)

/-- DESK-CLEAR at the head of its queue is taken: performed outside DARKENING (R92), and in DARKENING held at the head of
its queue, unperformed and unanswered, the port recorded as served last (R93, R190). Its parameter length is judged when
it is taken (R180, assumption log 5). -/
def execDeskClear (s : State) : Host.Outcome State Fault Refusal :=
  match s.nextRequest with
  | none => .next s
  | some (p, r) =>
    if r.code = .deskClear ∧ r.params = [] ∧ s.darkening = true then
      let s1 := s.closeEarly p
      .next ((s1.setPort p { s1.port p with headHeld := true }).serving p)
    else .next (s.serve .deskClear deskClear)

/-- A port holds a request at the head of its queue (R190). -/
def PortState.holding (p : PortState) : Bool := !p.queue.isEmpty && p.headHeld

/-- The port whose held request is performed next, if one may be (R190): outside DARKENING, of two ports the one not
served last. -/
def State.heldPort (s : State) : Option Port :=
  if s.darkening then none
  else
    match (s.port .p1).holding, (s.port .p2).holding with
    | true, true => some (if s.servedLast = some .p1 then .p2 else .p1)
    | true, false => some .p1
    | false, true => some .p2
    | false, false => none

/-- A held DESK-CLEAR is performed in its own event, answered, and leaves its queue (R93, R130, R190). -/
def execHeldDeskClearPerformed (s : State) : Host.Outcome State Fault Refusal :=
  match s.heldPort with
  | none => .next s
  | some p =>
    match (s.port p).queue with
    | [] => .next s
    | r :: _ =>
      let (s', y) := deskClear r.params (s.popQueue p)
      .next (s'.answer p r y)

/-! ### Reading the fade engine -/

/-- A pending follow in answer data (R94). -/
def pendingData : Option PendingFollow → List Byte
  | none => [0, 0, 0, 0, 0]
  | some w => 1 :: (enc2 w.look ++ enc2 w.remaining)

/-- PLAYBACK-READ (R94). -/
def playbackRead (ps : List Byte) (s : State) : State × Reply :=
  match ps with
  | [p] =>
    if !playbackOk p.toNat then (s, .refuse .range)
    else
      let b := s.playback p.toNat
      let fs := s.fades.filter fun f => f.playback == p.toNat
      (s, .done fs.length (enc1 b.state.code ++ enc2 b.master ++ encOpt2 b.lastLook ++ pendingData b.pendingFollow ++
        playbackFlags b ++ (fs.map fun f => enc1 f.number).flatten))
  | _ => (s, .refuse .malformed)

/-- PLAYBACK-READ at the head of its queue is taken and performed. -/
def execPlaybackRead (s : State) : Host.Outcome State Fault Refusal := .next (s.serve .playbackRead playbackRead)

/-- A fade record in answer data (R95). -/
def fadeData (f : Fade) : List Byte :=
  enc1 f.playback ++ encOpt2 f.look ++ enc2 f.upTime ++ enc2 f.downTime ++ enc2 f.upDelay ++ enc2 f.downDelay ++
  encFollow f.follow ++ f.loop.enc ++ enc2 f.elapsed ++ encBool f.held ++ enc2 f.owned ++ enc2 f.completion

/-- FADE-READ (R95): the count is the fade's position in the creation list. -/
def fadeRead (ps : List Byte) (s : State) : State × Reply :=
  match ps with
  | [n] =>
    if !(decide (1 ≤ n.toNat) && decide (n.toNat ≤ 48)) then (s, .refuse .range)
    else
      match s.fade n.toNat with
      | none => (s, .refuse .absent)
      | some f => (s, .done (s.fades.findIdx (fun g => g.number == n.toNat) + 1) (fadeData f))
  | _ => (s, .refuse .malformed)

/-- FADE-READ at the head of its queue is taken and performed. -/
def execFadeRead (s : State) : Host.Outcome State Fault Refusal := .next (s.serve .fadeRead fadeRead)

/-- A playback channel entry in answer data: level, owner or absent, and with an owner start, target and part (R95). -/
def entryData (e : Entry) : List Byte :=
  enc2 e.level ++ encOpt1 e.owner ++
  (if e.owner.isSome then enc2 e.start ++ enc2 e.target ++ enc1 e.part.code else [])

/-- CHANNEL-READ (R95). -/
def channelRead (ps : List Byte) (s : State) : State × Reply :=
  match ps with
  | [p, ch1, ch0] =>
    if playbackOk p.toNat && channelOk (word ch1 ch0) then
      (s, .done 0 (entryData (s.entry p.toNat (word ch1 ch0))))
    else (s, .refuse .range)
  | _ => (s, .refuse .malformed)

/-- CHANNEL-READ at the head of its queue is taken and performed. -/
def execChannelRead (s : State) : Host.Outcome State Fault Refusal := .next (s.serve .channelRead channelRead)

/-! ### The fade interval event -/

/-- A bounce (R78): the entries turn round, the completion count is recomputed, elapsed returns to 0 and the passes
fall; with a recomputed count of 0 the fade completes normally in the same event. Gives also whether it completed. -/
def State.bounce (s : State) (f : Fade) : State × Bool :=
  let s := s.mapEntries f.playback (Entry.turn f.number)
  let f := { f with elapsed := 0, loop := f.loop.afterBounce, completion := f.countOver (s.playback f.playback).entries }
  if f.completion = 0 then (s.complete f, true) else (s.updateFade f, false)

/-- One fade's turn at a fade interval event (R76). `fresh` are the playbacks whose pending follow was scheduled in this
event. -/
def advanceFade (x : State × List Nat) (n : Nat) : State × List Nat :=
  let (s, fresh) := x
  match s.fade n with
  | none => x
  | some f =>
    if f.held then x
    else
      let f := { f with elapsed := f.elapsed + 1 }
      let s := (s.updateFade f).mapEntries f.playback f.move
      let scheduled := if f.follow.isSome then f.playback :: fresh else fresh
      if f.elapsed < f.completion then (s, fresh)
      else if 0 < f.completion ∧ f.loop.looping = true then
        let (s, completed) := s.bounce f
        if completed then (s.rederive f.playback, scheduled) else (s, fresh)
      else ((s.complete f).rederive f.playback, scheduled)

/-- The pending follow of a playback counts down, if it existed before this event (R77). -/
def State.countFollow (s : State) (p : Nat) (isFresh : Bool) : State :=
  match (s.playback p).pendingFollow with
  | none => s
  | some w =>
    if isFresh || w.remaining = 0 then s
    else s.setPlayback p { s.playback p with pendingFollow := some { w with remaining := w.remaining - 1 } }

/-- One playback's turn at the follow step: not for a HELD playback (R77). -/
def followStep (fresh : List Nat) (s : State) (p : Nat) : State :=
  if (s.playback p).state = .held then s else (s.countFollow p (fresh.contains p)).fireDue p

/-- The changeover scale at elapsed count `k` of dark time `T` (R126). -/
def darkScale (T k : Nat) : Nat := 4096 - (4096 * k + T / 2) / T

/-- The changeover controller's work at a fade interval event (R126). -/
def Changeover.tick (c : Changeover) : Changeover :=
  if c.phase = .darkening ∧ c.switchDue = false then
    { c with
      elapsed := c.elapsed + 1
      scale := darkScale c.darkTime (c.elapsed + 1)
      switchDue := decide (c.darkTime ≤ c.elapsed + 1) }
  else c

/-- The fade engine's work at a fade interval event: the fades in creation order, then the pending follows in ascending
playback number (R76, R77). -/
def State.fadeTick (s : State) : State :=
  let (s1, fresh) := (s.fades.map Fade.number).foldl advanceFade (s, [])
  (List.range' 1 8).foldl (followStep fresh) s1

/-- FADE-INTERVAL: expiry of the running fade timer (R76, R77, R126). -/
def execFadeInterval (s : State) : Host.Outcome State Fault Refusal :=
  if s.fadeTimer = .running then .next (s.fadeTick.setChangeover s.fadeTick.changeover.tick) else .next s

end Sys2Proof.Machine
end

