-- ==== Sys2Proof/Machine/Levels.lean ====
section
/-!
DEFINITION. From channel to slot (R98 to R121): playback scaling, composite, contribution, merge, masters, mode and curve,
the guards and the ceiling; and the channel mixer's requests and OUTPUT-READ.
-/

namespace Sys2Proof.Machine

/-! ### The level arithmetic -/

/-- A level scaled by a factor of 4096, rounded to the nearest (R98, R102, R111, R112). -/
def scaleBy (level factor : Nat) : Nat := (level * factor + 2048) / 4096

/-- The scaled level a playback gives a channel (R102). -/
def State.scaled (s : State) (p ch : Nat) : Nat := scaleBy (s.entry p ch).level (s.playback p).master

/-- The greatest of a list of levels, 0 for none. -/
def greatest (xs : List Nat) : Nat := xs.foldl max 0

/-- The composite level of a channel (R104): its capture, or else the greatest of the eight scaled levels. -/
def State.composite (s : State) (ch : Nat) : Nat :=
  match s.captureOf ch with
  | some l => l
  | none => greatest ((List.range' 1 8).map fun p => s.scaled p ch)

/-- The contribution of a record (R109). -/
def contribution (cl prop : Nat) : Nat := (cl * prop + 50) / 100

/-- The merge level of a circuit (R110). -/
def State.merge (s : State) (ck : Nat) : Nat :=
  greatest ((s.handedOver ck).map fun r => contribution (s.composite r.channel) r.proportion)

/-- The level after the grandmaster (R111). -/
def State.afterGrand (s : State) (ck : Nat) : Nat := scaleBy (s.merge ck) s.grandmaster

/-- The level after the changeover scale (R112). -/
def State.afterScale (s : State) (ck : Nat) : Nat := scaleBy (s.afterGrand ck) s.changeover.scale

/-- A point of a curve. -/
def pointOf (pts : List Nat) (k : Nat) : Nat := pts.getD k 0

/-- The curve output of a level (R115). -/
def curveOutput (pts : List Nat) (v : Nat) : Nat :=
  if v = 4096 then pointOf pts 16
  else pointOf pts (v / 256) + ((pointOf pts (v / 256 + 1) - pointOf pts (v / 256)) * (v % 256) + 128) / 256

/-- The slot value of a curve output (R116). -/
def slotValue (out : Nat) : Nat := (out * 255 + 2048) / 4096

/-- The slot of a circuit decided at guard 7 (R114, R116). OFF never reaches guard 7. -/
def State.computedSlot (s : State) (ck : Nat) : Nat :=
  match (s.circuit ck).mode with
  | .dimmed => slotValue (curveOutput (s.curve (s.circuit ck).curve) (s.afterScale ck))
  | .switched => if (s.circuit ck).threshold ≤ s.afterScale ck then 255 else 0
  | .off => 0

/-! ### Guards, park and ceiling -/

/-- The thermal state of a circuit's rack (R119). -/
def State.thermalOf (s : State) (ck : Nat) : Thermal := (s.row (linkOf ck) (rackOf ck)).thermal

/-- Guard 1: OFF, or a role whose slot is 0 (R117). -/
def Circuit.guard1 (c : Circuit) : Bool :=
  c.mode == .off || c.role == .retired || c.role == .spareFree || c.role == .spareHeld

/-- Guard 4: FAILED with the load on its spare (R117). -/
def Circuit.guard4 (c : Circuit) : Bool :=
  c.role == .failed &&
  match c.pairing with
  | .confirmed _ => true
  | .restoring _ => true
  | _ => false

/-- The guard that decides a circuit, 1 to 7 (R117). -/
def State.guardOf (s : State) (ck : Nat) : Nat :=
  if (s.circuit ck).guard1 then 1
  else if s.thermalOf ck = .hot then 2
  else if (s.circuit ck).short.isSet && (s.circuit ck).shortDetect then 3
  else if (s.circuit ck).guard4 then 4
  else if (s.circuit ck).park.isSome then 5
  else if s.blackout then 6
  else 7

/-- The slot before the ceiling (R117, R118). -/
def State.slotBeforeCeiling (s : State) (ck : Nat) : Nat :=
  match s.guardOf ck with
  | 5 => (s.circuit ck).park.getD 0
  | 7 => s.computedSlot ck
  | _ => 0

/-- The slot sent for a circuit (R117, R119). -/
def State.slot (s : State) (ck : Nat) : Nat :=
  if s.thermalOf ck = .warm then min (s.slotBeforeCeiling ck) s.rig.ceiling else s.slotBeforeCeiling ck

/-- The 512 slot values of a link, slot `s` for circuit (L − 1)·512 + `s` (R99, R140). -/
def State.linkSlots (s : State) (l : LinkId) : List Nat :=
  (List.range' 1 512).map fun i => s.slot ((linkNumber l - 1) * 512 + i)

/-! ### The channel mixer's requests -/

/-- CAPTURE (R105). -/
def capture (ps : List Byte) (s : State) : State × Reply :=
  match ps with
  | [ch1, ch0, l1, l0] =>
    if !channelOk (word ch1 ch0) then (s, .refuse .range)
    else
      (s.setCaptures (s.captures.set none (word ch1 ch0) (some (clampLevel (word l1 l0)))),
        .done (if (s.captureOf (word ch1 ch0)).isSome then 0 else 1) (enc2 (clampLevel (word l1 l0))))
  | _ => (s, .refuse .malformed)

/-- CAPTURE at the head of its queue is taken and performed. -/
def execCapture (s : State) : Host.Outcome State Fault Refusal := .next (s.serve .capture capture)

/-- UNCAPTURE (R106): channel 0 is the value all (R180). -/
def uncapture (ps : List Byte) (s : State) : State × Reply :=
  match ps with
  | [ch1, ch0] =>
    if word ch1 ch0 = 0 then (s.setCaptures [], .done s.captures.length [])
    else if !channelOk (word ch1 ch0) then (s, .refuse .range)
    else
      match s.captureOf (word ch1 ch0) with
      | none => (s, .refuse .absent)
      | some l => (s.setCaptures (s.captures.set none (word ch1 ch0) none), .done 1 (enc2 l))
  | _ => (s, .refuse .malformed)

/-- UNCAPTURE at the head of its queue is taken and performed. -/
def execUncapture (s : State) : Host.Outcome State Fault Refusal := .next (s.serve .uncapture uncapture)

/-- GRAND (R111). -/
def grand (ps : List Byte) (s : State) : State × Reply :=
  match ps with
  | [l1, l0] => ({ s with grandmaster := clampLevel (word l1 l0) }, .done 0 (enc2 (clampLevel (word l1 l0))))
  | _ => (s, .refuse .malformed)

/-- GRAND at the head of its queue is taken and performed. -/
def execGrand (s : State) : Host.Outcome State Fault Refusal := .next (s.serve .grand grand)

/-- BLACKOUT (R113). -/
def blackout (ps : List Byte) (s : State) : State × Reply :=
  match ps with
  | [v] =>
    if v == 0 || v == 1 then ({ s with blackout := v == 1 }, .done 0 (encBool (v == 1))) else (s, .refuse .range)
  | _ => (s, .refuse .malformed)

/-- BLACKOUT at the head of its queue is taken and performed. -/
def execBlackout (s : State) : Host.Outcome State Fault Refusal := .next (s.serve .blackout blackout)

/-- MIXER-READ (R108). -/
def mixerRead (ps : List Byte) (s : State) : State × Reply :=
  match ps with
  | [i1, i0] =>
    if decide (1 ≤ word i1 i0) && decide (word i1 i0 ≤ 1024) then
      (s, .done s.captures.length (enc2 s.grandmaster ++ encBool s.blackout ++
        (((s.captures.drop (word i1 i0 - 1)).take Config.readRun).map fun e => enc2 e.1 ++ enc2 (e.2.getD 0)).flatten))
    else (s, .refuse .range)
  | _ => (s, .refuse .malformed)

/-- MIXER-READ at the head of its queue is taken and performed. -/
def execMixerRead (s : State) : Host.Outcome State Fault Refusal := .next (s.serve .mixerRead mixerRead)

/-! ### OUTPUT-READ -/

/-- A record handed over, with its working, in answer data (R121). -/
def State.workingData (s : State) (r : PatchRec) : List Byte :=
  enc2 r.channel ++ enc1 r.proportion ++ encOpt2 r.original ++ enc2 (s.composite r.channel) ++
  encBool (s.captureOf r.channel).isSome ++ enc2 (contribution (s.composite r.channel) r.proportion)

/-- The working of a circuit in answer data, stage by stage (R121). -/
def State.outputData (s : State) (ck : Nat) : List Byte :=
  enc1 (linkNumber (linkOf ck)) ++ enc2 (slotOf ck) ++ enc1 (s.guardOf ck) ++
  ((s.handedOver ck).map s.workingData).flatten ++
  enc2 (s.merge ck) ++ enc2 s.grandmaster ++ enc2 (s.afterGrand ck) ++ enc2 s.changeover.scale ++ enc2 (s.afterScale ck) ++
  encOpt2 (if (s.circuit ck).mode = .dimmed then
    some (curveOutput (s.curve (s.circuit ck).curve) (s.afterScale ck)) else none) ++
  enc1 (s.slotBeforeCeiling ck) ++ enc1 (s.thermalOf ck).code ++ enc1 (s.slot ck)

/-- OUTPUT-READ (R121). -/
def outputRead (ps : List Byte) (s : State) : State × Reply :=
  match ps with
  | [ck1, ck0] =>
    if circuitOk (word ck1 ck0) then (s, .done (s.handedOver (word ck1 ck0)).length (s.outputData (word ck1 ck0)))
    else (s, .refuse .range)
  | _ => (s, .refuse .malformed)

/-- OUTPUT-READ at the head of its queue is taken and performed. -/
def execOutputRead (s : State) : Host.Outcome State Fault Refusal := .next (s.serve .outputRead outputRead)

end Sys2Proof.Machine
end

