-- ==== Sys2Proof/Machine/Changeover.lean ====
section
/-!
DEFINITION. The changeover controller (R122 to R136): CHANGEOVER's acceptance and the switch event. Its step at a fade
interval event stands in Machine/Fades.lean (`Changeover.tick`, R126).
-/

namespace Sys2Proof.Machine

/-- The changes of the switch event, in one event (R131): the target goes live, the fade engine is emptied (R97), every
capture is released, and the controller returns to IDLE with S at 4096. -/
def State.switchOver (s : State) : State :=
  ((((({ s with liveBank := s.changeover.target.getD s.liveBank } : State).setFades []).mapPlaybacks
    Playback.atSwitch).setCaptures [])).setChangeover Changeover.initial

/-- SWITCH-EVENT: the controller's next event after switch due was set (R126, R131). -/
def execSwitchEvent (s : State) : Host.Outcome State Fault Refusal :=
  if s.changeover.switchDue then .next s.switchOver else .next s

/-- CHANGEOVER (R123, R124): with a dark time of 0 the switch event is performed within the acceptance event. -/
def changeover (ps : List Byte) (s : State) : State × Reply :=
  match ps with
  | [b, t1, t0] =>
    if !bankOk b.toNat then (s, .refuse .range)
    else if s.darkening then (s, .refuse .changing)
    else if b.toNat = s.liveBank then (s, .refuse .conflict)
    else
      let s1 := s.setChangeover ⟨.darkening, some b.toNat, word t1 t0, 0, 4096, false⟩
      (if word t1 t0 = 0 then s1.switchOver else s1,
        .done 0 (enc1 b.toNat ++ enc2 (word t1 t0) ++ enc1 s.liveBank))
  | _ => (s, .refuse .malformed)

/-- CHANGEOVER at the head of its queue is taken and performed. -/
def execChangeover (s : State) : Host.Outcome State Fault Refusal := .next (s.serve .changeover changeover)

end Sys2Proof.Machine
end

