-- ==== Sys2Proof/Machine/Transfer.lean ====
section
/-!
DEFINITION. The transfer controller (R159 to R179): owed orders and their placing, the choice of a spare, acknowledgement
and abandonment, REASSIGN, RESTORE and TRANSFER-READ.
-/

namespace Sys2Proof.Machine

/-! ### Owed orders (R159, R160) -/

/-- The order owed for the circuit at an index of a rack, if any (R159). -/
def State.owedOrder (s : State) (l : LinkId) (r i : Nat) : Option Order :=
  if (s.circuit (circuitAt l r i)).role = .failed then
    match (s.circuit (circuitAt l r i)).pairing with
    | .unpaired => none
    | .ordered p => some ⟨.transfer, i, indexOf p⟩
    | .confirmed p => if (s.circuit (circuitAt l r i)).resend then some ⟨.transfer, i, indexOf p⟩ else none
    | .restoring p => some ⟨.undo, i, indexOf p⟩
  else none

/-- The owed orders of a rack, in ascending circuit index (R159). -/
def State.owedOrders (s : State) (l : LinkId) (r : Nat) : List Order := (List.range' 1 32).filterMap (s.owedOrder l r)

/-- The waiting orders of a rack: those owed but for the pending one, in the order they would be placed (R160, R175). -/
def State.waitingOrders (s : State) (l : LinkId) (r : Nat) : List Order :=
  (s.owedOrders l r).filter fun o => (s.row l r).pendingOrder.map (fun w => w.order.circuitIndex) ≠ some o.circuitIndex

/-- Write a rack's pending order. -/
def State.setPending (s : State) (l : LinkId) (r : Nat) (w : Option PendingOrder) : State :=
  s.setRow l r { s.row l r with pendingOrder := w }

/-- An order that becomes owed is placed if the rack holds no pending order at that moment, and else waits (R160). -/
def State.placeOrder (s : State) (l : LinkId) (r : Nat) (o : Order) : State :=
  if (s.row l r).pendingOrder.isNone then s.setPending l r (some ⟨o, 0⟩) else s

/-- Where a rack holds no pending order, its owed order of lowest circuit index is placed (R160, R176). -/
def State.placeNext (s : State) (l : LinkId) (r : Nat) : State :=
  match s.owedOrders l r with
  | [] => s
  | o :: _ => s.placeOrder l r o

/-! ### Pairing (R161 to R163) -/

/-- The pairing of a failed circuit with a spare is made at both ends, and its TRANSFER is placed or waits (R163). -/
def State.pairUp (s : State) (failed spare : Nat) : State :=
  let s1 := s.setCircuit failed { s.circuit failed with pairing := .ordered spare }
  let s2 := s1.setCircuit spare { s1.circuit spare with role := .spareHeld, pairing := .ordered failed }
  s2.placeOrder (linkOf failed) (rackOf failed) ⟨.transfer, indexOf failed, indexOf spare⟩

/-- The candidate of the automatic choice: the rack's eligible spare of lowest number (R162 step 1). -/
def State.candidate (s : State) (l : LinkId) (r : Nat) : Option Nat :=
  ((List.range' 1 32).map (circuitAt l r)).find? fun n => (s.circuit n).eligibleSpare

/-- The automatic choice for a circuit that has just reached FAILED (R162, R163): the candidate is taken when the
rig-wide count exceeds the reserve, and else the DIMMER-FAIL new mark is set. -/
def State.seekSpare (s : State) (n : Nat) : State :=
  match s.candidate (linkOf n) (rackOf n) with
  | some spare =>
    if s.rig.spareReserve < s.eligibleSpares then s.pairUp n spare
    else s.setCircuit n { s.circuit n with dimmerFail := { (s.circuit n).dimmerFail with isNew := true } }
  | none => s.setCircuit n { s.circuit n with dimmerFail := { (s.circuit n).dimmerFail with isNew := true } }

/-- A circuit's health reaches FAILED (R151, R161): its role becomes FAILED, and with auto-transfer on it seeks a
spare. -/
def State.confirmFailure (s : State) (n : Nat) : State :=
  let s1 := s.setCircuit n { s.circuit n with role := .failed, health := .failed }
  if s1.rig.autoTransfer then s1.seekSpare n else s1

/-! ### Acknowledgement and abandonment (R167 to R170, R177) -/

/-- A TRANSFER is acknowledged for a failed circuit and its spare (R167), or its re-send is (R177). -/
def State.ackTransfer (s : State) (failed spare : Nat) : State :=
  let s1 :=
    match (s.circuit failed).pairing with
    | .confirmed _ => s.setCircuit failed { s.circuit failed with resend := false }
    | _ =>
      let s1 := s.setCircuit failed { s.circuit failed with pairing := .confirmed spare }
      s1.setCircuit spare { s1.circuit spare with role := .spareInUse, pairing := .confirmed failed }
  s1.rewriteRecords (PatchRec.ontoSpare failed spare)

/-- An UNDO is acknowledged for a failed circuit and its spare (R168). -/
def State.ackUndo (s : State) (failed spare : Nat) : State :=
  let s1 := s.rewriteRecords (PatchRec.backTo failed spare)
  let s2 := s1.setCircuit failed { s1.circuit failed with role := .ordinary, health := .ok, pairing := .unpaired }
  s2.setCircuit spare { s2.circuit spare with role := .spareFree, pairing := .unpaired }

/-- A rack acknowledges its pending order: the order is removed, its changes are made, and the next waiting order is
placed (R167, R168, R177). -/
def State.acknowledge (s : State) (l : LinkId) (r : Nat) (o : Order) : State :=
  let failed := circuitAt l r o.circuitIndex
  let spare := circuitAt l r o.spareIndex
  let s1 := s.setPending l r none
  let s2 :=
    match o.kind with
    | .transfer => s1.ackTransfer failed spare
    | .undo => s1.ackUndo failed spare
  s2.placeNext l r

/-- The changes of an abandoned order at both ends of the pairing, by its kind and the pairing it served (R169). -/
def State.revertPairing (s : State) (kind : OrderKind) (failed spare : Nat) : State :=
  match kind, (s.circuit failed).pairing with
  | .transfer, .confirmed _ => s.setCircuit failed { s.circuit failed with resend := false }
  | .transfer, _ =>
    let s1 := s.setCircuit failed { s.circuit failed with pairing := .unpaired }
    s1.setCircuit spare { s1.circuit spare with role := .spareFree, pairing := .unpaired }
  | .undo, _ =>
    let s1 := s.setCircuit failed { s.circuit failed with pairing := .confirmed spare }
    s1.setCircuit spare { s1.circuit spare with pairing := .confirmed failed }

/-- A rack's pending order is abandoned (R169): it is removed, the notice is set, the pairing goes back, and the next
waiting order is placed. -/
def State.abandon (s : State) (l : LinkId) (r : Nat) (o : Order) : State :=
  let s1 := s.setRow l r { s.row l r with pendingOrder := none, abandonedNotice := true }
  (s1.revertPairing o.kind (circuitAt l r o.circuitIndex) (circuitAt l r o.spareIndex)).placeNext l r

/-! ### REASSIGN and RESTORE -/

/-- An order, whether it was placed, and where it waits its position, in answer data (R165, R172). -/
def State.orderData (s : State) (l : LinkId) (r : Nat) (o : Order) : List Byte :=
  let placed := (s.row l r).pendingOrder.map (fun w => w.order) == some o
  enc1 o.kind.code ++ enc1 o.circuitIndex ++ enc1 o.spareIndex ++ encBool placed ++
  (if placed then [] else enc2 ((s.waitingOrders l r).findIdx (fun x => x == o) + 1))

/-- A circuit may be reassigned: ORDINARY, or FAILED with pairing NONE (R164 step 4). -/
def Circuit.reassignable (c : Circuit) : Bool :=
  c.role == .ordinary || (c.role == .failed && c.pairing == .unpaired)

/-- Two circuits lie in one rack. -/
def sameRack (n m : Nat) : Bool := linkOf n == linkOf m && rackOf n == rackOf m

/-- REASSIGN (R164, R165). -/
def reassign (ps : List Byte) (s : State) : State × Reply :=
  match ps with
  | [ck1, ck0, sp1, sp0] =>
    let ck := word ck1 ck0
    let sp := word sp1 sp0
    if !(circuitOk ck && circuitOk sp) then (s, .refuse .range)
    else if s.rig.locked then (s, .refuse .locked)
    else if !((s.circuit ck).reassignable && (s.circuit sp).role == .spareFree && sameRack ck sp) then
      (s, .refuse .conflict)
    else
      let s1 :=
        if (s.circuit ck).role = .ordinary then s.setCircuit ck { s.circuit ck with role := .failed, health := .failed }
        else s
      let s2 := s1.pairUp ck sp
      (s2, .done 0 (s2.orderData (linkOf ck) (rackOf ck) ⟨.transfer, indexOf ck, indexOf sp⟩))
  | _ => (s, .refuse .malformed)

/-- REASSIGN at the head of its queue is taken and performed. -/
def execReassign (s : State) : Host.Outcome State Fault Refusal := .next (s.serve .reassign reassign)

/-- The UNDO of a circuit becomes owed: it takes the place of the circuit's own pending re-send, and else is placed or
waits (R172). -/
def State.oweUndo (s : State) (l : LinkId) (r : Nat) (o : Order) : State :=
  match (s.row l r).pendingOrder with
  | some w =>
    if w.order.kind = .transfer ∧ w.order.circuitIndex = o.circuitIndex then s.setPending l r (some ⟨o, 0⟩) else s
  | none => s.setPending l r (some ⟨o, 0⟩)

/-- RESTORE (R171, R172). -/
def restore (ps : List Byte) (s : State) : State × Reply :=
  match ps with
  | [ck1, ck0] =>
    let ck := word ck1 ck0
    if !circuitOk ck then (s, .refuse .range)
    else if s.rig.locked then (s, .refuse .locked)
    else if (s.circuit ck).role = .failed then
      match (s.circuit ck).pairing with
      | .confirmed sp =>
        let s1 := s.setCircuit ck { s.circuit ck with pairing := .restoring sp, resend := false }
        let s2 := s1.setCircuit sp { s1.circuit sp with pairing := .restoring ck }
        let o : Order := ⟨.undo, indexOf ck, indexOf sp⟩
        let s3 := s2.oweUndo (linkOf ck) (rackOf ck) o
        (s3, .done 0 (s3.orderData (linkOf ck) (rackOf ck) o))
      | _ => (s, .refuse .conflict)
    else (s, .refuse .conflict)
  | _ => (s, .refuse .malformed)

/-- RESTORE at the head of its queue is taken and performed. -/
def execRestore (s : State) : Host.Outcome State Fault Refusal := .next (s.serve .restore restore)

/-! ### TRANSFER-READ -/

/-- An order is a re-send: its failed circuit's re-send mark is set (R159, R175). -/
def State.isResend (s : State) (l : LinkId) (r : Nat) (o : Order) : Bool :=
  o.kind == .transfer && (s.circuit (circuitAt l r o.circuitIndex)).resend

/-- An order's kind and indices in answer data. -/
def orderBytes (o : Order) : List Byte := enc1 o.kind.code ++ enc1 o.circuitIndex ++ enc1 o.spareIndex

/-- The transfer state of a rack in answer data, in the order of R175. That the FAILED circuits with pairing NONE stand in ascending circuit
index, which R175 says of the lists before them and not of this one, is a DESIGN CHOICE (assumption log 25). -/
def State.transferData (s : State) (l : LinkId) (r : Nat) : List Byte :=
  let circuits := (List.range' 1 32).map (circuitAt l r)
  (match (s.row l r).pendingOrder with
    | none => [0, 0, 0, 0, 0, 0, 0]
    | some w => 1 :: (orderBytes w.order ++ enc2 w.unacknowledged ++ encBool (s.isResend l r w.order))) ++
  ((s.waitingOrders l r).map fun o => orderBytes o ++ encBool (s.isResend l r o)).flatten ++
  ((circuits.filter fun n => (s.circuit n).role.isSpare).map fun n =>
    enc2 n ++ enc1 (s.circuit n).role.code ++ encOpt2 (s.circuit n).pairing.partner ++
      encBool (s.circuit n).dimmerFail.isSet).flatten ++
  ((circuits.filter fun n => (s.circuit n).role == .failed && (s.circuit n).pairing == .unpaired).map enc2).flatten ++
  enc2 s.eligibleSpares ++ enc1 s.rig.spareReserve ++ encBool s.rig.autoTransfer ++ encBool (s.row l r).abandonedNotice

/-- TRANSFER-READ (R175). -/
def transferRead (ps : List Byte) (s : State) : State × Reply :=
  match ps with
  | [l, r] =>
    match linkOfNumber l.toNat with
    | none => (s, .refuse .range)
    | some k =>
      if rackOk r.toNat then (s, .done (s.waitingOrders k r.toNat).length (s.transferData k r.toNat))
      else (s, .refuse .range)
  | _ => (s, .refuse .malformed)

/-- TRANSFER-READ at the head of its queue is taken and performed. -/
def execTransferRead (s : State) : Host.Outcome State Fault Refusal := .next (s.serve .transferRead transferRead)

end Sys2Proof.Machine
end

