-- ==== Sys2Proof/Machine/Links.lean ====
section
/-!
DEFINITION. The link controllers (R137 to R158): level and poll frames, the arbiter, the reply window, replies, silent
polls, RACK-SET, RACK-READ and FAULT-CLEAR.
-/

namespace Sys2Proof.Machine

/-! ### Silent polls and the frame-due event -/

/-- A rack row after a silent poll (R153). -/
def RackRow.silentPoll (w : RackRow) : RackRow :=
  match w.state with
  | .lost => { w with wait := 0 }
  | _ =>
    if w.silent + 1 < Config.silentLimit then { w with wait := 0, silent := w.silent + 1 }
    else { w with wait := 0, silent := Config.silentLimit, state := .lost, lostNotice := true }

/-- The reply window closes (R146). The carried order, meaningful only while it is open (R137), becomes absent: DESIGN CHOICE, assumption
log 24. -/
def State.closeWindow (s : State) (l : LinkId) : State :=
  s.setLink l { s.link l with window := none, carried := none }

/-- The open reply window closes and its poll counts silent; with no window open nothing happens (R139, R146, R153). -/
def State.windowSilent (s : State) (l : LinkId) : State :=
  match (s.link l).window with
  | none => s
  | some r => (s.closeWindow l).setRow l r ((s.row l r).silentPoll)

/-- The rack is brought forward by the arbiter: it has a pending order or news (R144). -/
def RackRow.promoted (w : RackRow) : Bool := w.pendingOrder.isSome || w.news

/-- WAIT repetition applies: the last polled rack is in the poll order and its wait count is 1 to 7 (R144 case 1). -/
def Link.repeats (k : Link) : Option Nat :=
  match k.lastPolled with
  | none => none
  | some r =>
    if k.pollOrder.contains r && decide (1 ≤ (k.row r).wait) && decide ((k.row r).wait ≤ 7) then some r else none

/-- The rack the arbiter chooses (R144): WAIT repetition, promotion, rotation. -/
def Link.choose (k : Link) : Option Nat :=
  match k.repeats with
  | some r => some r
  | none =>
    match k.pollOrder.find? (fun r => k.lastPolled ≠ some r && (k.row r).promoted) with
    | some r => some r
    | none => k.pollOrder.head?

/-- Poll the chosen rack (R139 steps 4 and 5): its pending order is carried, it is the last polled, it moves to the end of
the poll order and its poll frame goes out. With an empty poll order no poll frame is sent. -/
def Link.poll (k : Link) : Link :=
  match k.choose with
  | none => { k with polling := none, pollOut := [] }
  | some r =>
    let carried := (k.row r).pendingOrder.map fun w => w.order
    { k with
      pollOrder := k.pollOrder.filter (fun x => x ≠ r) ++ [r]
      lastPolled := some r
      carried := carried
      polling := some r
      pollOut := pollFrame r carried }

/-- FRAME-DUE: expiry of a link's running frame timer (R139). -/
def execFrameDue (l : LinkId) (s : State) : Host.Outcome State Fault Refusal :=
  if (s.link l).frameTimer = .running then
    let s1 := s.windowSilent l
    .next (s1.setLink l ({ s1.link l with levelOut := levelFrame (s1.linkSlots l) } : Link).poll)
  else .next s

/-- POLL-FRAME-END: the reply window opens for the polled rack (R139, R146). -/
def execPollFrameEnd (l : LinkId) (s : State) : Host.Outcome State Fault Refusal :=
  match (s.link l).polling with
  | none => .next s
  | some r => .next (s.setLink l { s.link l with window := some r, polling := none })

/-- WINDOW-EXPIRY: the poll of the open window is silent (R146, R153). -/
def execWindowExpiry (l : LinkId) (s : State) : Host.Outcome State Fault Refusal := .next (s.windowSilent l)

/-! ### Reply arrival -/

/-- A rack row after a WAIT reply (R152). -/
def RackRow.waitReply (w : RackRow) : RackRow :=
  if w.wait + 1 < Config.waitLimit then { w with wait := w.wait + 1 } else { w with wait := 0 }.silentPoll

/-- A rack row after the first stage of a READY reply (R147). -/
def RackRow.readyReply (w : RackRow) : RackRow :=
  { w with state := .online, returnedNotice := w.returnedNotice || w.state == .lost, silent := 0, wait := 0 }

/-- The third stage of a READY reply (R149): the acknowledgement is taken, or the unacknowledged count of the order the
poll carried rises, and at 3 the order is abandoned. Gives also whether an UNDO changed a circuit's health (R148). -/
def State.takeAck (s : State) (l : LinkId) (r : Nat) (carried ack : Option Order) : State × Bool :=
  match (s.row l r).pendingOrder with
  | none => (s, false)
  | some w =>
    if carried = some w.order then
      if ack = some w.order then
        (s.acknowledge l r w.order,
          w.order.kind == .undo && !((s.circuit (circuitAt l r w.order.circuitIndex)).health == .ok))
      else if w.unacknowledged + 1 < Config.unackLimit then
        (s.setPending l r (some { w with unacknowledged := w.unacknowledged + 1 }), false)
      else (s.abandon l r w.order, false)
    else (s, false)

/-- One circuit report of a READY reply (R150), and whether it set a flag that was clear. -/
def takeReport (l : LinkId) (r : Nat) (x : State × Bool) (p : Report) : State × Bool :=
  (x.1.setCircuit (circuitAt l r p.circuitIndex) ((x.1.circuit (circuitAt l r p.circuitIndex)).report p.kind),
    x.2 || (x.1.circuit (circuitAt l r p.circuitIndex)).reportIsNews p.kind)

/-- The health of one circuit of the rack in a READY reply (R151), and whether it changed. -/
def takeHealth (l : LinkId) (r : Nat) (reports : List Report) (x : State × Bool) (i : Nat) : State × Bool :=
  let n := circuitAt l r i
  let c := x.1.circuit n
  let reported := reports.contains ⟨i, .dimmerFail⟩
  if c.role = .ordinary then
    match c.health, reported with
    | .ok, true => (x.1.setCircuit n { c with health := .suspect }, true)
    | .suspect, true => (x.1.confirmFailure n, true)
    | .suspect, false => (x.1.setCircuit n { c with health := .ok }, true)
    | _, _ => x
  else x

/-- A READY reply from the polled rack, stage by stage (R147 to R151). -/
def State.takeReady (s : State) (l : LinkId) (r : Nat) (carried : Option Order) (y : ReplyFrame) : State :=
  let warmer := decide ((s.row l r).thermal ≠ y.thermal)
  let s1 := s.setRow l r { (s.row l r).readyReply with thermal := y.thermal }
  let (s2, undone) := s1.takeAck l r carried y.ack
  let (s3, flagged) := y.reports.foldl (takeReport l r) (s2, false)
  let (s4, moved) := (List.range' 1 32).foldl (takeHealth l r y.reports) (s3, false)
  s4.setRow l r { s4.row l r with news := warmer || undone || flagged || moved }

/-- REPLY-ARRIVAL: a complete frame on the return pair (R146, R147). With no window open it is discarded; malformed, or
from another rack, it is a silent poll; else it is taken as READY or WAIT. -/
def execReplyArrival (l : LinkId) (bytes : List Byte) (s : State) : Host.Outcome State Fault Refusal :=
  match (s.link l).window with
  | none => .next s
  | some r =>
    match parseReply bytes with
    | none => .next (s.windowSilent l)
    | some y =>
      if y.address ≠ r then .next (s.windowSilent l)
      else if y.ready then .next ((s.closeWindow l).takeReady l r (s.link l).carried y)
      else .next ((s.closeWindow l).setRow l r (s.row l r).waitReply)

/-! ### Configuring racks, reading them, clearing faults -/

/-- A pending order in answer data: kind, indices and unacknowledged count, or absent (R155). -/
def rackOrderData : Option PendingOrder → List Byte
  | none => [0, 0, 0, 0, 0, 0]
  | some w => 1 :: (enc1 w.order.kind.code ++ enc1 w.order.circuitIndex ++ enc1 w.order.spareIndex ++
      enc2 w.unacknowledged)

/-- A rack row in answer data (R154, R155). -/
def rackData (k : Link) (r : Nat) : List Byte :=
  encBool (k.row r).present ++ enc1 (k.row r).state.code ++ enc2 (k.row r).silent ++ enc2 (k.row r).wait ++
  enc1 (k.row r).thermal.code ++ encBool (k.row r).news ++ rackOrderData (k.row r).pendingOrder ++
  encBool (k.row r).lostNotice ++ encBool (k.row r).returnedNotice ++ encBool (k.row r).abandonedNotice ++
  encOpt2 (if k.pollOrder.contains r then some (k.pollOrder.findIdx (fun x => x == r) + 1) else none) ++
  encBool (k.lastPolled == some r)

/-- A row of a rack that was made present or not present: its notices and its pending order stay (R154). -/
def RackRow.configured (w : RackRow) (present : Bool) : RackRow :=
  { w with present := present, state := .unpolled, silent := 0, wait := 0, thermal := .normal, news := false }

/-- A link whose rack is made present: the rack joins the end of the poll order (R154). -/
def Link.addRack (k : Link) (r : Nat) : Link :=
  { k.setRow r ((k.row r).configured true) with pollOrder := k.pollOrder ++ [r] }

/-- A link whose rack is made not present: it leaves the poll order; where it is the last polled rack or the window is
open for it, that ends; a poll frame to it still being sent opens no window (R154, R157, assumption log 7); the carried order goes with either (assumption log 24). -/
def Link.dropRack (k : Link) (r : Nat) : Link :=
  { k.setRow r ((k.row r).configured false) with
    pollOrder := k.pollOrder.filter fun x => x ≠ r
    lastPolled := if k.lastPolled = some r then none else k.lastPolled
    window := if k.window = some r then none else k.window
    carried := if k.window = some r ∨ k.polling = some r then none else k.carried
    polling := if k.polling = some r then none else k.polling }

/-- RACK-SET (R154). -/
def rackSet (ps : List Byte) (s : State) : State × Reply :=
  match ps with
  | [ln, r, v] =>
    match linkOfNumber ln.toNat with
    | none => (s, .refuse .range)
    | some l =>
      if !(rackOk r.toNat && (v == 0 || v == 1)) then (s, .refuse .range)
      else if s.rig.locked then (s, .refuse .locked)
      else if v = 0 ∧ s.owedOrders l r.toNat ≠ [] then (s, .refuse .conflict)
      else
        let k := if (v == 1) = (s.row l r.toNat).present then s.link l
          else if v = 1 then (s.link l).addRack r.toNat else (s.link l).dropRack r.toNat
        (s.setLink l k, .done 0 (rackData k r.toNat))
  | _ => (s, .refuse .malformed)

/-- RACK-SET at the head of its queue is taken and performed. -/
def execRackSet (s : State) : Host.Outcome State Fault Refusal := .next (s.serve .rackSet rackSet)

/-- RACK-READ (R155). -/
def rackRead (ps : List Byte) (s : State) : State × Reply :=
  match ps with
  | [ln, r] =>
    match linkOfNumber ln.toNat with
    | none => (s, .refuse .range)
    | some l => if rackOk r.toNat then (s, .done 0 (rackData (s.link l) r.toNat)) else (s, .refuse .range)
  | _ => (s, .refuse .malformed)

/-- RACK-READ at the head of its queue is taken and performed. -/
def execRackRead (s : State) : Host.Outcome State Fault Refusal := .next (s.serve .rackRead rackRead)

/-- Change every circuit record, all in one. -/
def State.mapCircuits (s : State) (f : Circuit → Circuit) : State :=
  { s with circuits := s.circuits.mapVals Circuit.initial fun _ => f }

/-- FAULT-CLEAR (R156): circuit 0 is the value all (R180). -/
def faultClear (ps : List Byte) (s : State) : State × Reply :=
  match ps with
  | [ck1, ck0] =>
    if word ck1 ck0 = 0 then
      (s.mapCircuits Circuit.clearFaults, .done (s.circuits.countIn 1 2048 Circuit.anyFlag) [])
    else if !circuitOk (word ck1 ck0) then (s, .refuse .range)
    else
      (s.setCircuit (word ck1 ck0) (s.circuit (word ck1 ck0)).clearFaults,
        .done (if (s.circuit (word ck1 ck0)).anyFlag then 1 else 0) [])
  | _ => (s, .refuse .malformed)

/-- FAULT-CLEAR at the head of its queue is taken and performed. -/
def execFaultClear (s : State) : Host.Outcome State Fault Refusal := .next (s.serve .faultClear faultClear)

end Sys2Proof.Machine
end

