-- ==== Sys2Proof/Machine/Resets.lean ====
section
/-!
DEFINITION. Power-on with retention kept or lost (R195 and the power-on rule of every chapter), the console reset line
(R196), STATUS and STATUS-ACK (R192, R193).
-/

namespace Sys2Proof.Machine

/-! ### Power-on -/

/-- The retention result (R195): RETAINED when the retain supply held the retained memory through the whole power loss and
the check agrees with its content. -/
def retentionOf (supplyHeld checkAgrees : Bool) : Retention := if supplyHeld && checkAgrees then .retained else .lost

/-- A rack row after power-on with retention kept: the present field is what is retained (R138). -/
def RackRow.powerOn (w : RackRow) : RackRow := { RackRow.initial with present := w.present }

/-- A link controller after power-on with retention kept: the racks configured present stand in the poll order in ascending
number (R137, R138). -/
def Link.powerOn (k : Link) : Link :=
  { Link.initial with
    pollOrder := (List.range' 1 16).filter fun r => (k.row r).present
    rows := k.rows.mapVals RackRow.initial fun _ => RackRow.powerOn }

/-- A circuit record after power-on with retention kept: the record stands (R48); the re-send mark, which is not retained,
is set on every FAILED circuit with pairing CONFIRMED (R159, R176). -/
def Circuit.powerOn (c : Circuit) : Circuit :=
  { c with resend := c.role == .failed && match c.pairing with
      | .confirmed _ => true
      | _ => false }

/-- Every block in its power-on state with what retention kept (R2, R3, R48, R62, R96, R103, R122, R137, R138, R183, R189). The
level of the console reset line is an input and stays. -/
def State.powerOnRetained (s : State) : State :=
  { State.reset with
    banks := s.banks.mapVals Bank.initial fun _ b => { b with locked := true }
    liveBank := s.liveBank
    circuits := s.circuits.mapVals Circuit.initial fun _ => Circuit.powerOn
    rig := { s.rig with locked := true }
    curves := s.curves
    links := ⟨s.links.a.powerOn, s.links.b.powerOn, s.links.c.powerOn, s.links.d.powerOn⟩
    resetLine := s.resetLine
    retention := .retained
    pending := s.pending }

/-- Every block in its power-on state with retention lost: the state of a new part. The level of the console reset line is an
input and stays. -/
def State.powerOnLost (s : State) : State := { State.reset with resetLine := s.resetLine, pending := s.pending }

/-- On each rack of a link that owes orders, the one of lowest circuit index is placed (R176). -/
def State.placeAll (s : State) (l : LinkId) : State := (List.range' 1 16).foldl (fun s r => s.placeNext l r) s

/-- POWER-ON (R195, R176). -/
def execPowerOn (supplyHeld checkAgrees : Bool) (s : State) : Host.Outcome State Fault Refusal :=
  match retentionOf supplyHeld checkAgrees with
  | .lost => .next s.powerOnLost
  | .retained => .next ((((s.powerOnRetained.placeAll .a).placeAll .b).placeAll .c).placeAll .d)

/-! ### Console reset line -/

/-- CONSOLE-RESET: assertion of the line (R196). -/
def execConsoleReset (s : State) : Host.Outcome State Fault Refusal :=
  .next { s with ports := ⟨PortState.initial, PortState.initial⟩, servedLast := none, resetLine := true }

/-- CONSOLE-RESET-RELEASE: the ports receive again (R196). -/
def execConsoleResetRelease (s : State) : Host.Outcome State Fault Refusal := .next { s with resetLine := false }

/-! ### STATUS and STATUS-ACK -/

/-- The count of free fade slots (R69). -/
def State.freeFadeSlots (s : State) : Nat := Config.fadeSlots - s.fades.length

/-- The count of free patch records (R7). -/
def State.freePatchRecords (s : State) : Nat := Config.poolRecords - s.poolCount

/-- The remaining time of a changeover, T minus elapsed (R136). -/
def Changeover.remaining (c : Changeover) : Nat := c.darkTime - c.elapsed

/-- The part's summary in answer data, in the order of R192. -/
def State.statusData (s : State) : List Byte :=
  encBool s.restartFlag ++ enc1 s.retention.code ++ enc1 s.liveBank ++ enc1 s.changeover.phase.code ++
  encOpt1 s.changeover.target ++ enc2 s.changeover.remaining ++ enc2 s.freeFadeSlots ++ enc2 s.freePatchRecords ++
  enc2 s.freeLookEntries ++ enc2 s.markedCircuits ++ enc2 s.noticedRacks ++ s.allPlaybackFlags

/-- STATUS (R192). -/
def status (ps : List Byte) (s : State) : State × Reply :=
  match ps with
  | [] => (s, .done 0 s.statusData)
  | _ => (s, .refuse .malformed)

/-- STATUS at the head of its queue is taken and performed. -/
def execStatus (s : State) : Host.Outcome State Fault Refusal := .next (s.serve .status status)

/-- A rack row with its three notices cleared (R193). -/
def RackRow.ackNotices (w : RackRow) : RackRow :=
  { w with lostNotice := false, returnedNotice := false, abandonedNotice := false }

/-- A link whose rack notices are cleared (R193). -/
def Link.ackNotices (k : Link) : Link :=
  { k with rows := k.rows.mapVals RackRow.initial fun _ => RackRow.ackNotices }

/-- A playback with both flags cleared (R193). -/
def Playback.ackFlags (p : Playback) : Playback := { p with followMissed := false, forced := false }

/-- What STATUS-ACK clears (R193): the restart flag, every rack notice, both flags of every playback, every new mark. -/
def State.acknowledgeAll (s : State) : State :=
  { ((s.mapPlaybacks Playback.ackFlags).mapCircuits Circuit.ackMarks) with
    restartFlag := false
    links := ⟨s.links.a.ackNotices, s.links.b.ackNotices, s.links.c.ackNotices, s.links.d.ackNotices⟩ }

/-- STATUS-ACK (R193): its data stands as just before the event. -/
def statusAck (ps : List Byte) (s : State) : State × Reply :=
  match ps with
  | [] =>
    (s.acknowledgeAll, .done s.noticedRacks (encBool s.restartFlag ++ enc2 (s.countRacks RackRow.lostNotice) ++
      enc2 (s.countRacks RackRow.returnedNotice) ++ enc2 (s.countRacks RackRow.abandonedNotice) ++
      enc2 s.markedCircuits ++ s.allPlaybackFlags))
  | _ => (s, .refuse .malformed)

/-- STATUS-ACK at the head of its queue is taken and performed. -/
def execStatusAck (s : State) : Host.Outcome State Fault Refusal := .next (s.serve .statusAck statusAck)

end Sys2Proof.Machine
end

