-- ==== Sys2Proof/Machine/Dispatch.lean ====
section
/-!
DEFINITION. One arm per command: its meaning.
-/

namespace Sys2Proof.Machine

/-- The effect of a command on everything but the queue of waiting commands. -/
def exec (i : Instr) (s : State) : Host.Outcome State Fault Refusal :=
  match i with
  | .powerOn supplyHeld checkAgrees => Sys2Proof.Machine.execPowerOn supplyHeld checkAgrees s
  | .consoleReset => Sys2Proof.Machine.execConsoleReset s
  | .consoleResetRelease => Sys2Proof.Machine.execConsoleResetRelease s
  | .requestFrameArrival port symbols => Sys2Proof.Machine.execRequestFrameArrival port symbols s
  | .malformedFrameArrival port symbols => Sys2Proof.Machine.execMalformedFrameArrival port symbols s
  | .dataFrameArrival port symbols => Sys2Proof.Machine.execDataFrameArrival port symbols s
  | .dataHoldDelivery port => Sys2Proof.Machine.execDataHoldDelivery port s
  | .inactivityTimeout port => Sys2Proof.Machine.execInactivityTimeout port s
  | .patchSet => Sys2Proof.Machine.execPatchSet s
  | .patchSetIf => Sys2Proof.Machine.execPatchSetIf s
  | .patchClear => Sys2Proof.Machine.execPatchClear s
  | .patchClearIf => Sys2Proof.Machine.execPatchClearIf s
  | .patchClearChannel => Sys2Proof.Machine.execPatchClearChannel s
  | .patchSwap => Sys2Proof.Machine.execPatchSwap s
  | .patchRange => Sys2Proof.Machine.execPatchRange s
  | .patchLoad => Sys2Proof.Machine.execPatchLoad s
  | .patchReadChannel => Sys2Proof.Machine.execPatchReadChannel s
  | .patchReadCircuit => Sys2Proof.Machine.execPatchReadCircuit s
  | .bankCopy => Sys2Proof.Machine.execBankCopy s
  | .bankErase => Sys2Proof.Machine.execBankErase s
  | .bankLock => Sys2Proof.Machine.execBankLock s
  | .bankUnlock => Sys2Proof.Machine.execBankUnlock s
  | .circuitSet => Sys2Proof.Machine.execCircuitSet s
  | .circuitRead => Sys2Proof.Machine.execCircuitRead s
  | .rigSet => Sys2Proof.Machine.execRigSet s
  | .rigRead => Sys2Proof.Machine.execRigRead s
  | .rigLock => Sys2Proof.Machine.execRigLock s
  | .rigUnlock => Sys2Proof.Machine.execRigUnlock s
  | .curveLoad => Sys2Proof.Machine.execCurveLoad s
  | .curveRead => Sys2Proof.Machine.execCurveRead s
  | .lookWrite => Sys2Proof.Machine.execLookWrite s
  | .lookRead => Sys2Proof.Machine.execLookRead s
  | .lookDelete => Sys2Proof.Machine.execLookDelete s
  | .go => Sys2Proof.Machine.execGo s
  | .release => Sys2Proof.Machine.execRelease s
  | .hold => Sys2Proof.Machine.execHold s
  | .resume => Sys2Proof.Machine.execResume s
  | .stopLoop => Sys2Proof.Machine.execStopLoop s
  | .master => Sys2Proof.Machine.execMaster s
  | .deskClear => Sys2Proof.Machine.execDeskClear s
  | .heldDeskClearPerformed => Sys2Proof.Machine.execHeldDeskClearPerformed s
  | .playbackRead => Sys2Proof.Machine.execPlaybackRead s
  | .fadeRead => Sys2Proof.Machine.execFadeRead s
  | .channelRead => Sys2Proof.Machine.execChannelRead s
  | .capture => Sys2Proof.Machine.execCapture s
  | .uncapture => Sys2Proof.Machine.execUncapture s
  | .grand => Sys2Proof.Machine.execGrand s
  | .blackout => Sys2Proof.Machine.execBlackout s
  | .mixerRead => Sys2Proof.Machine.execMixerRead s
  | .outputRead => Sys2Proof.Machine.execOutputRead s
  | .changeover => Sys2Proof.Machine.execChangeover s
  | .switchEvent => Sys2Proof.Machine.execSwitchEvent s
  | .rackSet => Sys2Proof.Machine.execRackSet s
  | .rackRead => Sys2Proof.Machine.execRackRead s
  | .faultClear => Sys2Proof.Machine.execFaultClear s
  | .reassign => Sys2Proof.Machine.execReassign s
  | .restore => Sys2Proof.Machine.execRestore s
  | .transferRead => Sys2Proof.Machine.execTransferRead s
  | .status => Sys2Proof.Machine.execStatus s
  | .statusAck => Sys2Proof.Machine.execStatusAck s
  | .fadeInterval => Sys2Proof.Machine.execFadeInterval s
  | .frameDue link => Sys2Proof.Machine.execFrameDue link s
  | .pollFrameEnd link => Sys2Proof.Machine.execPollFrameEnd link s
  | .windowExpiry link => Sys2Proof.Machine.execWindowExpiry link s
  | .replyArrival link bytes => Sys2Proof.Machine.execReplyArrival link bytes s
  | .answerWhollySent port => Sys2Proof.Machine.execAnswerWhollySent port s

end Sys2Proof.Machine
end

