-- ==== Sys2Proof/WellFormed.lean ====
section
/-!
DEFINITION. When a command is well formed, as syntax alone: what it carries is the event its row names. And the request
code of each request row, as R191 gives it.
-/

namespace Sys2Proof

open Machine

/-- The bytes of a reply frame are complete: the header's eight bytes, two for each report it announces, and the check
(R142). -/
def replyComplete (bytes : List Byte) : Bool :=
  match bytes with
  | _ :: _ :: _ :: _ :: _ :: _ :: _ :: n :: rest => rest.length == 2 * n.toNat + 2
  | _ => false

/-- A frame of a kind is all that ends in what a line brings, received with an empty buffer, or no frame ends there
(R184). -/
def endsOnly (kind : FrameClass → Bool) (symbols : List LineSymbol) : Bool :=
  match (receive none symbols).2 with
  | [] => true
  | [frame] => kind (classifyFrame frame)
  | _ => false

/-- A command is well formed: a frame arrival ends no frame but one of the kind its row names (R184, R185, R187), and a
reply arrival carries a complete frame (R142). No other row carries anything that could be ill formed. -/
def Instr.wellFormed : Instr → Bool
  | .requestFrameArrival _ symbols =>
    endsOnly (fun
      | .request _ => true
      | .data _ => false
      | .malformed _ _ => false) symbols
  | .malformedFrameArrival _ symbols =>
    endsOnly (fun
      | .request _ => false
      | .data _ => false
      | .malformed _ _ => true) symbols
  | .dataFrameArrival _ symbols =>
    endsOnly (fun
      | .request _ => false
      | .data _ => true
      | .malformed _ _ => false) symbols
  | .replyArrival _ bytes => replyComplete bytes
  | .powerOn _ _ => true
  | .consoleReset => true
  | .consoleResetRelease => true
  | .dataHoldDelivery _ => true
  | .inactivityTimeout _ => true
  | .patchSet => true
  | .patchSetIf => true
  | .patchClear => true
  | .patchClearIf => true
  | .patchClearChannel => true
  | .patchSwap => true
  | .patchRange => true
  | .patchLoad => true
  | .patchReadChannel => true
  | .patchReadCircuit => true
  | .bankCopy => true
  | .bankErase => true
  | .bankLock => true
  | .bankUnlock => true
  | .circuitSet => true
  | .circuitRead => true
  | .rigSet => true
  | .rigRead => true
  | .rigLock => true
  | .rigUnlock => true
  | .curveLoad => true
  | .curveRead => true
  | .lookWrite => true
  | .lookRead => true
  | .lookDelete => true
  | .go => true
  | .release => true
  | .hold => true
  | .resume => true
  | .stopLoop => true
  | .master => true
  | .deskClear => true
  | .playbackRead => true
  | .fadeRead => true
  | .channelRead => true
  | .capture => true
  | .uncapture => true
  | .grand => true
  | .blackout => true
  | .mixerRead => true
  | .outputRead => true
  | .changeover => true
  | .rackSet => true
  | .rackRead => true
  | .faultClear => true
  | .reassign => true
  | .restore => true
  | .transferRead => true
  | .status => true
  | .statusAck => true
  | .heldDeskClearPerformed => true
  | .switchEvent => true
  | .fadeInterval => true
  | .frameDue _ => true
  | .pollFrameEnd _ => true
  | .windowExpiry _ => true
  | .answerWhollySent _ => true

/-- The request a request row takes from a port queue (R191); none for the other rows. -/
def Instr.requestCode : Instr → Option ReqCode
  | .patchSet => some .patchSet
  | .patchSetIf => some .patchSetIf
  | .patchClear => some .patchClear
  | .patchClearIf => some .patchClearIf
  | .patchClearChannel => some .patchClearChannel
  | .patchSwap => some .patchSwap
  | .patchRange => some .patchRange
  | .patchLoad => some .patchLoad
  | .patchReadChannel => some .patchReadChannel
  | .patchReadCircuit => some .patchReadCircuit
  | .bankCopy => some .bankCopy
  | .bankErase => some .bankErase
  | .bankLock => some .bankLock
  | .bankUnlock => some .bankUnlock
  | .circuitSet => some .circuitSet
  | .circuitRead => some .circuitRead
  | .rigSet => some .rigSet
  | .rigRead => some .rigRead
  | .rigLock => some .rigLock
  | .rigUnlock => some .rigUnlock
  | .curveLoad => some .curveLoad
  | .curveRead => some .curveRead
  | .lookWrite => some .lookWrite
  | .lookRead => some .lookRead
  | .lookDelete => some .lookDelete
  | .go => some .go
  | .release => some .release
  | .hold => some .hold
  | .resume => some .resume
  | .stopLoop => some .stopLoop
  | .master => some .master
  | .deskClear => some .deskClear
  | .playbackRead => some .playbackRead
  | .fadeRead => some .fadeRead
  | .channelRead => some .channelRead
  | .capture => some .capture
  | .uncapture => some .uncapture
  | .grand => some .grand
  | .blackout => some .blackout
  | .mixerRead => some .mixerRead
  | .outputRead => some .outputRead
  | .changeover => some .changeover
  | .rackSet => some .rackSet
  | .rackRead => some .rackRead
  | .faultClear => some .faultClear
  | .reassign => some .reassign
  | .restore => some .restore
  | .transferRead => some .transferRead
  | .status => some .status
  | .statusAck => some .statusAck
  | .powerOn _ _ => none
  | .consoleReset => none
  | .consoleResetRelease => none
  | .requestFrameArrival _ _ => none
  | .malformedFrameArrival _ _ => none
  | .dataFrameArrival _ _ => none
  | .dataHoldDelivery _ => none
  | .inactivityTimeout _ => none
  | .heldDeskClearPerformed => none
  | .switchEvent => none
  | .fadeInterval => none
  | .frameDue _ => none
  | .pollFrameEnd _ => none
  | .windowExpiry _ => none
  | .replyArrival _ _ => none
  | .answerWhollySent _ => none

end Sys2Proof
end

