-- ==== Sys2Proof/Safety.lean ====
section
/-!
DEFINITION. The terms in which the claims speak: what serving a request does to its port, and the relations between the pieces
of the state that every event keeps.
-/

namespace Sys2Proof.Machine

/-! ### Serving a request -/

/-- The answer a request gets from a reply: its sequence and code are echoed (R181). -/
def Request.answered (r : Request) (y : Reply) : Answer :=
  ⟨r.sequence, BitVec.ofNat 8 r.code.code, y.outcome, y.count, y.data⟩

/-- The answers the early close of a port's open transfer produces (R188). -/
def PortState.earlyAnswers (q : PortState) : List Answer :=
  match q.transfer with
  | none => []
  | some t => [t.earlyAnswer]

/-- A port whose open transfer, if any, was closed early: the transfer's answer is produced and its timer stops (R188). -/
def PortState.closed (q : PortState) : PortState :=
  { q with
    transfer := none
    inactivityTimer := if q.transfer.isSome then .stopped else q.inactivityTimer
    outgoing := q.outgoing ++ q.earlyAnswers }

/-- A port with one more answer produced (R181, R183). -/
def PortState.answering (q : PortState) (a : Answer) : PortState := { q with outgoing := q.outgoing ++ [a] }

/-- A port from which the engine has taken the head of the queue, but for the answer to it: an open transfer is closed early,
and the request leaves the queue (R188, R189). -/
def PortState.afterTaking (q : PortState) : PortState :=
  { q.closed with queue := q.queue.tail, headHeld := false }

/-- A port after the engine took the head of its queue and produced an answer (R183, R189). -/
def PortState.afterServing (q : PortState) (a : Answer) : PortState := q.afterTaking.answering a

/-- From `s` to `t` the engine served request `r` of port `p` with reply `y`: the port has its answer, the other port is as it was,
the port is recorded as served last, and no command was queued or lost. -/
structure State.Served (s t : State) (p : Port) (r : Request) (y : Reply) : Prop where
  port : t.port p = (s.port p).afterServing (r.answered y)
  other : t.port (otherPort p) = s.port (otherPort p)
  last : t.servedLast = some p
  queued : t.pending = s.pending

/-- In state `s` the command `c` completes with its own effect whenever the request the engine takes next is of this code and has these
parameters: there is a next state in which the request was served with reply `y`, and which is as `after` says. -/
def State.Serves (s : State) (c : Instr) (code : ReqCode) (ps : List Byte) (y : Reply) (after : State → Prop) : Prop :=
  ∀ p sq, s.nextRequest = some (p, ⟨sq, code, ps⟩) →
    ∃ t, exec c s = .next t ∧ s.Served t p ⟨sq, code, ps⟩ y ∧ after t

/-- Nothing but the ports and the port served last differs. -/
def State.SameButPorts (s t : State) : Prop := t = { s with ports := t.ports, servedLast := t.servedLast }

/-- Nothing but the banks, the ports and the port served last differs. -/
def State.SameButBanks (s t : State) : Prop :=
  t = { s with banks := t.banks, ports := t.ports, servedLast := t.servedLast }

/-- Nothing but the circuit table, the ports and the port served last differs. -/
def State.SameButCircuits (s t : State) : Prop :=
  t = { s with circuits := t.circuits, ports := t.ports, servedLast := t.servedLast }

/-- Nothing but the rig settings with the rig lock, the ports and the port served last differs. -/
def State.SameButRig (s t : State) : Prop :=
  t = { s with rig := t.rig, ports := t.ports, servedLast := t.servedLast }

/-- Nothing but the fade engine's playbacks and fades, the ports and the port served last differs. -/
def State.SameButFadeEngine (s t : State) : Prop :=
  t = { s with playbacks := t.playbacks, fades := t.fades, ports := t.ports, servedLast := t.servedLast }

/-- Nothing but the capture list, the ports and the port served last differs. -/
def State.SameButCaptures (s t : State) : Prop :=
  t = { s with captures := t.captures, ports := t.ports, servedLast := t.servedLast }

/-- Nothing but one console port differs. -/
def State.SameButPort (s t : State) (p : Port) : Prop :=
  t = { s with ports := t.ports } ∧ t.port (otherPort p) = s.port (otherPort p)

/-- Nothing but one link controller differs. -/
def State.SameButLink (s t : State) (l : LinkId) : Prop :=
  t = { s with links := t.links } ∧ ∀ m, m ≠ l → t.link m = s.link m

/-- From `s` to `t` a switch event made bank `b` live (R97, R131, R132): no fade and no capture is left, the controller is in IDLE, every
playback is IDLE with no last look and no pending follow, a dropped follow leaving *follow missed*, every entry stands at 0 with no owner, masters
and *forced* flags stay, and nothing else but the ports differs. -/
structure State.SwitchedTo (s t : State) (b : Nat) : Prop where
  rest : t = { s with liveBank := b, playbacks := t.playbacks, fades := [], captures := [], changeover := Changeover.initial,
                      ports := t.ports, servedLast := t.servedLast }
  playbacks : ∀ p, (t.playback p).state = .idle ∧ (t.playback p).lastLook = none ∧ (t.playback p).pendingFollow = none ∧
    (t.playback p).followMissed = ((s.playback p).followMissed || (s.playback p).pendingFollow.isSome) ∧
    (t.playback p).forced = (s.playback p).forced ∧ (t.playback p).master = (s.playback p).master
  entries : ∀ p ch, (t.entry p ch).level = 0 ∧ (t.entry p ch).owner = none

/-! ### Data frames -/

/-- Command `c` brings the data frame `d` to a port, with `rest` left in its data hold: the frame arrives on the line where none is held or
being received, or it is delivered from the front of the hold (R186, R187). -/
def State.Brings (s : State) (c : Instr) (p : Port) (d : DataFrame) (rest : List DataFrame) : Prop :=
  (c = .dataFrameArrival p (onLine (dataFrame d)) ∧ d.data.length ≤ 58 ∧ s.resetLine = false ∧
    (s.port p).receiveBuffer = none ∧ (s.port p).dataHold = [] ∧ rest = []) ∨
  (c = .dataHoldDelivery p ∧ (s.port p).dataHold = d :: rest)

/-! ### Fade slots and follows -/

/-- From `s` to `u` a fade slot was secured (R72, R83): with fewer than 48 fades nothing changed; with 48 the oldest was fast-completed:
its entries took their targets and lost their owner, its playback's forced flag is set, it left the creation list, and nothing else
changed. The re-derivation of that playback's state ends the event and is not part of this. -/
def State.SlotSecured (s u : State) : Prop :=
  if s.fades.length < 48 then u = s
  else ∃ f rest, s.fades = f :: rest ∧ u = { s with playbacks := u.playbacks, fades := rest } ∧
    (∀ p ch, u.entry p ch = if p = f.playback ∧ (s.entry p ch).owner = some f.number then
      { s.entry p ch with level := (s.entry p ch).target, owner := none } else s.entry p ch) ∧
    ∀ p, u.playback p = { s.playback p with
      forced := (s.playback p).forced || p == f.playback, entries := (u.playback p).entries }

/-- The fade a GO or RELEASE taken now fast-completes, in answer data (R71, R85): its number and playback, or absent. -/
def State.forcedAnswer (s : State) : List Byte :=
  if s.fades.length < 48 then [0, 0, 0]
  else match s.fades.head? with
    | none => [0, 0, 0]
    | some f => 1 :: (enc1 f.number ++ enc1 f.playback)

/-- A playback at the end of an event that left it without a fade or not (R64): IDLE with no fade and no pending follow. -/
def Playback.settled (b : Playback) (fade : Bool) : Playback :=
  { b with state := if !fade && b.pendingFollow.isNone then .idle else b.state }

/-- `s` with a GO of look `k` on playback `p`, without override time, as the only request that waits. -/
def State.withGo (s : State) (p k : Nat) : State :=
  { s with ports := ⟨{ PortState.initial with
      queue := [⟨0, .go, BitVec.ofNat 8 p :: (wordBytes k ++ [0, 0, 0])⟩] }, PortState.initial⟩ }

/-- From `u`, where playback `p` has no pending follow, to `t` a follow of look `k` fires on it (R81). In DARKENING, or where the live bank
holds no such look, nothing starts, *follow missed* is set, and with no fade the playback is IDLE. Else the fade engine is left as a GO
of that look on that playback leaves it; where that look itself has a follow of delay 0 it is as the GO of the look without its follow,
and if nothing of the look is left to run the follow is pending with delay 0 and does not fire (R80). -/
def State.FollowFires (u t : State) (p k : Nat) : Prop :=
  t = { u with playbacks := t.playbacks, fades := t.fades } ∧
  match u.changeover.phase, u.look u.liveBank k with
  | .idle, some l =>
    ((∀ w, l.header.follow = some w → 0 < w.delay) →
      ∃ v, exec .go (u.withGo p k) = .next v ∧ t.fades = v.fades ∧ ∀ q, t.playback q = v.playback q) ∧
    (∀ k', l.header.follow = some ⟨k', 0⟩ →
      ∃ v, exec .go ((u.setLook u.liveBank k (some { l with header := { l.header with follow := none } })).withGo p k) = .next v ∧
        t.fades.map (fun f => { f with follow := none }) = v.fades.map (fun f => { f with follow := none }) ∧
        (∀ q, q ≠ p → t.playback q = v.playback q) ∧
        t.playback p = { v.playback p with
          pendingFollow := if l.entries.all fun e => (t.entry p e.channel).owner.isNone then some ⟨k', 0⟩ else none
          state := .running })
  | _, _ => t.fades = u.fades ∧ ∀ q, t.playback q = if q = p then
      { u.playback p with
        pendingFollow := none, followMissed := true, state := if u.hasFade p then .running else .idle } else u.playback q

/-- The pending follow of a playback after a fade interval event in which it neither fires nor is replaced (R77): counted down by 1, and
frozen while the playback is HELD. Playbacks are 1 to 8. -/
def State.countedFollow (s : State) (p : Nat) : Option PendingFollow :=
  if playbackOk p && (s.playback p).state != .held then
    (s.playback p).pendingFollow.map fun w => { w with remaining := w.remaining - 1 }
  else (s.playback p).pendingFollow

/-- No follow of a playback that fulfils `which` falls due at the next fade interval event: it is frozen, or has more than 1 left (R77). -/
def State.NoneDue (s : State) (which : Nat → Prop) : Prop :=
  ∀ p w, which p → playbackOk p = true → (s.playback p).pendingFollow = some w → (s.playback p).state = .held ∨ 1 < w.remaining

/-- An entry after a fade interval event that does not complete its owner (R76, R101): moved by its owner's new elapsed count, and as it was
without an owner or with a held one. -/
def State.carriedEntry (s : State) (p ch : Nat) : Entry :=
  let e := s.entry p ch
  match s.fades.find? fun f => e.owner == some f.number with
  | none => e
  | some f =>
    if f.held then e
    else
      let times := match e.part with
        | .up => (f.upDelay, f.upTime)
        | .down => (f.downDelay, f.downTime)
      { e with level := interpolate e.start e.target times.1 times.2 (f.elapsed + 1) }

/-! ### Failures -/

/-- From `u` to `t` the health of circuit `n` reaches FAILED (R161 to R163): its role becomes FAILED, and with auto-transfer on it is paired
with the rack's eligible spare of lowest number while the rig's count of eligible spares exceeds the reserve, the TRANSFER placed where
the rack has no pending order; where no spare qualifies the DIMMER-FAIL new mark is set. -/
def State.Fails (u t : State) (n : Nat) : Prop :=
  let c : Circuit := { u.circuit n with role := .failed, health := .failed }
  let eligible (m : Nat) : Bool := (u.circuit m).role == .spareFree && !(u.circuit m).dimmerFail.isSet
  let pending := (u.row (linkOf n) (rackOf n)).pendingOrder
  let changes (f : Circuit) (m : Nat) (p : Circuit) (w : Option PendingOrder) : Prop :=
    t = { u with circuits := t.circuits, links := t.links } ∧
    (∀ x, t.circuit x = if x = n then f else if x = m then p else u.circuit x) ∧
    (∀ l, t.link l = { u.link l with rows := (t.link l).rows }) ∧
    ∀ l r, t.row l r = if l = linkOf n ∧ r = rackOf n then { u.row l r with pendingOrder := w } else u.row l r
  if u.rig.autoTransfer = false then changes c n c pending
  else
    match ((List.range' 1 32).map (circuitAt (linkOf n) (rackOf n))).find? eligible with
    | some m =>
      if u.rig.spareReserve < (List.range' 1 2048).countP eligible then
        changes { c with pairing := .ordered m } m { u.circuit m with role := .spareHeld, pairing := .ordered n }
          (if pending = none then some ⟨⟨.transfer, indexOf n, indexOf m⟩, 0⟩ else pending)
      else changes { c with dimmerFail := { c.dimmerFail with isNew := true } } n c pending
    | none => changes { c with dimmerFail := { c.dimmerFail with isNew := true } } n c pending

/-! ### Parameter lengths (R180) -/

/-- The parameter length a request code calls for (R180), given the parameter bytes themselves, of which CIRCUIT-SET's third names the
fields it carries. -/
def ReqCode.lengthOk (c : ReqCode) (ps : List Byte) : Bool :=
  match c with
  | .patchSet => ps.length == 6
  | .patchSetIf => ps.length == 8
  | .patchClear => ps.length == 5
  | .patchClearIf => ps.length == 6
  | .patchClearChannel => ps.length == 3
  | .patchSwap => ps.length == 5
  | .patchRange => ps.length == 8
  | .patchLoad => ps.length == 3
  | .patchReadChannel => ps.length == 3
  | .patchReadCircuit => ps.length == 3
  | .bankCopy => ps.length == 2
  | .bankErase => ps.length == 1
  | .bankLock => ps.length == 1
  | .bankUnlock => ps.length == 1
  | .circuitSet => decide (3 ≤ ps.length) && ps.length == 3 + selectionLength (ps.getD 2 0)
  | .circuitRead => ps.length == 2
  | .rigSet => ps.length == 3
  | .rigRead => ps.length == 0
  | .rigLock => ps.length == 0
  | .rigUnlock => ps.length == 0
  | .curveLoad => ps.length == 35
  | .curveRead => ps.length == 1
  | .lookWrite => ps.length == 20
  | .lookRead => ps.length == 5
  | .lookDelete => ps.length == 3
  | .go => ps.length == 6
  | .release => ps.length == 3
  | .hold => ps.length == 1
  | .resume => ps.length == 1
  | .stopLoop => ps.length == 1
  | .master => ps.length == 3
  | .deskClear => ps.length == 0
  | .playbackRead => ps.length == 1
  | .fadeRead => ps.length == 1
  | .channelRead => ps.length == 3
  | .capture => ps.length == 4
  | .uncapture => ps.length == 2
  | .grand => ps.length == 2
  | .blackout => ps.length == 1
  | .mixerRead => ps.length == 2
  | .outputRead => ps.length == 2
  | .changeover => ps.length == 3
  | .rackSet => ps.length == 3
  | .rackRead => ps.length == 2
  | .faultClear => ps.length == 2
  | .reassign => ps.length == 4
  | .restore => ps.length == 2
  | .transferRead => ps.length == 2
  | .status => ps.length == 0
  | .statusAck => ps.length == 0

/-- The selection byte of the fields a CIRCUIT-SET carries, one bit for each field from bit 0 (R180). -/
def CircuitSelection.byte (x : CircuitSelection) : Byte :=
  BitVec.ofNat 8 ((if x.role.isSome then 1 else 0) + (if x.mode.isSome then 2 else 0) + (if x.curve.isSome then 4 else 0) +
    (if x.threshold.isSome then 8 else 0) + (if x.park.isSome then 16 else 0) + (if x.masks.isSome then 32 else 0))

/-- The bytes of two-byte fields. -/
def pairBytes : Option (Byte × Byte) → List Byte
  | none => []
  | some b => [b.1, b.2]

/-- The parameter bytes of the selected fields, in the order role, mode, curve, threshold, park, masks (R180). -/
def CircuitSelection.bytes (x : CircuitSelection) : List Byte :=
  x.role.toList ++ x.mode.toList ++ x.curve.toList ++ pairBytes x.threshold ++ pairBytes x.park ++ pairBytes x.masks

/-! ### Collections as data -/

/-- Every sparse collection stands in its canonical form, so that equal collections are equal data. -/
structure State.Canonical (s : State) : Prop where
  banks : Tbl.Canonical Bank.initial s.banks
  looks : ∀ e ∈ s.banks, Tbl.Canonical none e.2.looks
  circuits : Tbl.Canonical Circuit.initial s.circuits
  curves : Tbl.Canonical identityCurve s.curves
  playbacks : Tbl.Canonical Playback.initial s.playbacks
  entries : ∀ e ∈ s.playbacks, Tbl.Canonical Entry.initial e.2.entries
  captures : Tbl.Canonical none s.captures
  rows : ∀ l, Tbl.Canonical RackRow.initial (s.link l).rows

/-! ### Changeover controller (R122, R126) -/

/-- The controller and the live bank fit each other: in IDLE every item has its IDLE value; in DARKENING the target is a bank
that is not live, elapsed has not passed the dark time, switch due stands exactly when it has reached it, and the scale is the one
R126 gives for the elapsed count. -/
structure State.ChangeoverOk (s : State) : Prop where
  live : bankOk s.liveBank = true
  idle : s.changeover.phase = .idle → s.changeover = Changeover.initial
  darkening : s.changeover.phase = .darkening → ∃ b, s.changeover.target = some b ∧ bankOk b = true ∧ b ≠ s.liveBank ∧
    0 < s.changeover.darkTime ∧ s.changeover.elapsed ≤ s.changeover.darkTime ∧
    (s.changeover.switchDue = true ↔ s.changeover.elapsed = s.changeover.darkTime) ∧
    s.changeover.scale = darkScale s.changeover.darkTime s.changeover.elapsed

/-- The fade timer (R76) and the frame timer of every link (R137) run. -/
def State.TimersRun (s : State) : Prop := s.fadeTimer = .running ∧ ∀ l, (s.link l).frameTimer = .running

/-! ### Console ports (R183) -/

/-- A port keeps the bounds of R183, its timer runs exactly while a transfer is open (R188), a held head is a DESK-CLEAR (R190), and an
open transfer's tally is short of its count (R20, R52, R186). -/
structure PortState.Ok (q : PortState) : Prop where
  buffer : ∀ bytes, q.receiveBuffer = some bytes → frameComplete bytes = false
  queue : q.queue.length ≤ Config.queueDepth
  params : ∀ r ∈ q.queue, r.params.length ≤ Config.maxParams
  held : q.headHeld = true → ∃ r t, q.queue = r :: t ∧ r.code = .deskClear ∧ r.params = []
  timer : q.inactivityTimer = .running ↔ q.transfer.isSome = true
  hold : q.dataHold.length ≤ Config.holdDepth
  holdData : ∀ d ∈ q.dataHold, d.data.length ≤ Config.maxParams
  load : ∀ t, q.transfer = some (.load t) → bankOk t.bank = true ∧ t.received < t.announced ∧ t.announced ≤ 1024 ∧
    t.applied ≤ t.received ∧ (t.firstFailure = none ↔ t.applied = t.received)
  write : ∀ t, q.transfer = some (.write t) → bankOk t.bank = true ∧ lookOk t.number = true ∧ t.received < t.announced ∧
    t.announced ≤ 1024 ∧ t.staged.length = t.received

/-- Both ports keep their bounds. -/
def State.PortsOk (s : State) : Prop := ∀ p, (s.port p).Ok

/-! ### Ranges of the stored levels and settings (R98) -/

/-- The points a curve may hold (R45): seventeen, each 0 to 4096, non-decreasing. -/
def CurveOk (pts : List Nat) : Prop := pts.length = 17 ∧ (∀ p ∈ pts, p ≤ Config.full) ∧ nonDecreasing pts = true

/-- Every stored level, proportion and setting lies in its range (R4, R31, R42, R45, R49, R63, R66, R98, R103, R122). -/
structure State.LevelsOk (s : State) : Prop where
  grand : s.grandmaster ≤ Config.full
  scale : s.changeover.scale ≤ Config.full
  captures : ∀ ch l, s.captureOf ch = some l → l ≤ Config.full
  masters : ∀ p, (s.playback p).master ≤ Config.full
  entries : ∀ p ch, (s.entry p ch).level ≤ Config.full ∧ (s.entry p ch).start ≤ Config.full ∧
    (s.entry p ch).target ≤ Config.full
  looks : ∀ b n l, s.look b n = some l → ∀ e ∈ l.entries, e.level ≤ Config.full
  staged : ∀ p t, (s.port p).transfer = some (.write t) → ∀ e ∈ t.staged, e.level ≤ Config.full
  curves : ∀ c, CurveOk (s.curve c)
  proportions : ∀ b, ∀ r ∈ s.records b, r.proportion ≤ 100
  circuits : ∀ n, (s.circuit n).curve ≤ 15 ∧ 1 ≤ (s.circuit n).threshold ∧ (s.circuit n).threshold ≤ Config.full ∧
    ∀ v, (s.circuit n).park = some v → v ≤ 255
  rig : s.rig.spareReserve ≤ 8 ∧ s.rig.ceiling ≤ 255

/-! ### Looks (R49, R53) -/

/-- An entry list a look may hold: 1 to 1024 entries in strictly rising order of channel, every channel in its range. -/
def EntriesOk (es : List LookEntry) : Prop :=
  1 ≤ es.length ∧ es.length ≤ 1024 ∧ es.Pairwise (fun e e' => e.channel < e'.channel) ∧
    ∀ e ∈ es, channelOk e.channel = true

/-- Every stored look has such an entry list, and so has the faultless part of every open look write. -/
structure State.LooksOk (s : State) : Prop where
  stored : ∀ b n l, s.look b n = some l → EntriesOk l.entries
  staged : ∀ p t, (s.port p).transfer = some (.write t) → t.fault = none →
    t.staged.Pairwise (fun e e' => e.channel < e'.channel) ∧ ∀ e ∈ t.staged, channelOk e.channel = true

/-! ### Fade engine (R64, R66 to R70) -/

/-- The number of entries of a playback that name a fade as their owner. -/
def State.ownedBy (s : State) (p n : Nat) : Nat := (s.playback p).entries.countP fun e => e.2.owner == some n

/-- The fade engine's relations: the slots and numbers of R69; every owner is a fade of the same playback and every fade's owned count
is the number of entries naming it, at least one (R66); an owned level lies between start and target (R67); a fade has not reached its
completion count, and no entry it owns needs longer (R70); a fade is held exactly while its playback is HELD; and a playback is IDLE
exactly while it has no fade and no pending follow (R64). -/
structure State.FadesOk (s : State) : Prop where
  slots : s.fades.length ≤ Config.fadeSlots
  distinct : (s.fades.map Fade.number).Nodup
  ranges : ∀ f ∈ s.fades, 1 ≤ f.number ∧ f.number ≤ Config.fadeSlots ∧ playbackOk f.playback = true
  owners : ∀ p ch n, (s.entry p ch).owner = some n → ∃ f ∈ s.fades, f.number = n ∧ f.playback = p
  owned : ∀ f ∈ s.fades, f.owned = s.ownedBy f.playback f.number ∧ 1 ≤ f.owned
  between : ∀ p ch, (s.entry p ch).owner ≠ none →
    min (s.entry p ch).start (s.entry p ch).target ≤ (s.entry p ch).level ∧
    (s.entry p ch).level ≤ max (s.entry p ch).start (s.entry p ch).target
  running : ∀ f ∈ s.fades, f.elapsed < f.completion
  within : ∀ f ∈ s.fades, ∀ ch, (s.entry f.playback ch).owner = some f.number →
    (f.timesOf (s.entry f.playback ch).part).1 + (f.timesOf (s.entry f.playback ch).part).2 ≤ f.completion
  held : ∀ f ∈ s.fades, f.held = true ↔ (s.playback f.playback).state = .held
  states : ∀ p, (s.playback p).state = .idle ↔ s.hasFade p = false ∧ (s.playback p).pendingFollow = none

/-! ### Circuits, pairings and orders (R33, R36, R143, R159, R160) -/

/-- The role of the spare at the other end of a FAILED circuit's pairing (R33). -/
def Pairing.spareRole : Pairing → Role
  | .unpaired => .spareFree
  | .ordered _ => .spareHeld
  | .confirmed _ => .spareInUse
  | .restoring _ => .spareInUse

/-- The same pairing with another partner. -/
def Pairing.withPartner (n : Nat) : Pairing → Pairing
  | .unpaired => .unpaired
  | .ordered _ => .ordered n
  | .confirmed _ => .confirmed n
  | .restoring _ => .restoring n

/-- The spare-role circuits of a rack. -/
def State.rackSpares (s : State) (l : LinkId) (r : Nat) : Nat :=
  (List.range' 1 32).countP fun i => (s.circuit (circuitAt l r i)).role.isSpare

/-- The combinations of role and pairing of R33, kept at both ends in one rack with at most 4 spare roles; health FAILED with role
FAILED (R36); the re-send mark only on a CONFIRMED circuit (R159); the poll order holding exactly the racks present, each once (R143),
and the polled rack among them; and the order of each rack as R160 gives. -/
structure State.RigOk (s : State) : Prop where
  unpaired : ∀ n, circuitOk n = true → (s.circuit n).role = .ordinary ∨ (s.circuit n).role = .spareFree ∨
    (s.circuit n).role = .retired → (s.circuit n).pairing = .unpaired
  failed : ∀ n m, circuitOk n = true → (s.circuit n).role = .failed → (s.circuit n).pairing.partner = some m →
    circuitOk m = true ∧ sameRack n m = true ∧ (s.circuit m).role = (s.circuit n).pairing.spareRole ∧
    (s.circuit m).pairing = (s.circuit n).pairing.withPartner n
  spare : ∀ n, circuitOk n = true → (s.circuit n).role = .spareHeld ∨ (s.circuit n).role = .spareInUse →
    ∃ m, (s.circuit n).pairing.partner = some m ∧ circuitOk m = true ∧ (s.circuit m).role = .failed ∧
      (s.circuit m).pairing.partner = some n
  spares : ∀ l r, rackOk r = true → s.rackSpares l r ≤ Config.rackSpares
  health : ∀ n, circuitOk n = true → ((s.circuit n).health = .failed ↔ (s.circuit n).role = .failed)
  resend : ∀ n, circuitOk n = true → (s.circuit n).resend = true →
    (s.circuit n).role = .failed ∧ ∃ m, (s.circuit n).pairing = .confirmed m
  pollOrder : ∀ l r, r ∈ (s.link l).pollOrder ↔ rackOk r = true ∧ (s.row l r).present = true
  pollOnce : ∀ l, (s.link l).pollOrder.Nodup
  polled : ∀ l r, (s.link l).lastPolled = some r ∨ (s.link l).polling = some r ∨ (s.link l).window = some r →
    r ∈ (s.link l).pollOrder
  noOrder : ∀ l r, rackOk r = true → (s.row l r).pendingOrder = none → s.owedOrders l r = []
  order : ∀ l r w, rackOk r = true → (s.row l r).pendingOrder = some w →
    w.order ∈ s.owedOrders l r ∧ w.unacknowledged < Config.unackLimit

/-! ### Patch table (R5, R6, R7) -/

/-- A record names its circuit as R6 allows. -/
def State.NamesOk (s : State) (r : PatchRec) : Prop :=
  match r.original with
  | none => (s.circuit r.circuit).role = .ordinary ∨ ((s.circuit r.circuit).role = .failed ∧
      ((s.circuit r.circuit).pairing = .unpaired ∨ ∃ m, (s.circuit r.circuit).pairing = .ordered m))
  | some o => (s.circuit r.circuit).role = .spareInUse ∧ (s.circuit r.circuit).pairing.partner = some o

/-- Every bank's records stand in strictly rising bank order, so that no two share channel and circuit (R5); their numbers are in
range (R4); and each names its circuit as R6 allows. -/
structure State.PatchOk (s : State) : Prop where
  sorted : ∀ b, (s.records b).Pairwise fun r r' => recBefore r r' = true
  ranges : ∀ b, ∀ r ∈ s.records b, channelOk r.channel = true ∧ circuitOk r.circuit = true
  names : ∀ b, ∀ r ∈ s.records b, s.NamesOk r

/-- The limits of the patch table (R5, R7) and of the look store (R51). -/
structure State.WithinLimits (s : State) : Prop where
  pool : s.poolCount ≤ Config.poolRecords
  bank : ∀ b, (s.records b).length ≤ Config.bankRecords
  channel : ∀ b ch, ((s.records b).countP fun r => r.channel == ch) ≤ Config.channelRecords
  circuit : ∀ b ck, ((s.records b).countP fun r => r.circuit == ck) ≤ Config.circuitRecords
  headers : s.lookHeadersUsed ≤ Config.lookHeaders
  entries : s.lookEntriesUsed ≤ Config.lookEntries

end Sys2Proof.Machine
end

