-- ==== Sys2Proof/Certificates/Slice0/Obligations.lean ====
section
/-!
DEFINITION. The statements for the provers. OBLIGATIONS.json lists each with the rules it rests on. `Instr.requestCode` gives the code of
a request row; `State.Serves` (Safety.lean) says that a request row completes with its own effect.
-/

open Sys2Proof Sys2Proof.Machine

/-! ### The queue of commands, reset, invariants -/

/-- A step takes the command at the front of the queue and runs it on the state with the queue's rest.
The queue is a field of the model's own (assumption log 16). -/
def Obligations.Step_runs_front_command : Prop :=
  ∀ (c : Instr) (rest : List Instr) (s : State), s.pending = c :: rest → step s = exec c { s with pending := rest }

/-- Reset leaves the values the spec gives a new part: banks locked and empty (R2, R3), bank 1 live (R3), circuits, curves and rig settings
in the factory state with the rig lock set (R43, R48), no fade, no capture, masters and the grandmaster full, blackout off (R96, R103), no
changeover (R122), no rack present (R138), ports empty (R183), no port served (R189), the restart flag set (R195). -/
def Obligations.Reset_values : Prop :=
  (∀ b, (State.reset.bank b).locked = true ∧ State.reset.records b = [] ∧ ∀ n, State.reset.look b n = none) ∧
  State.reset.liveBank = 1 ∧
  (∀ n, (State.reset.circuit n).role = .ordinary ∧ (State.reset.circuit n).mode = .dimmed ∧
    (State.reset.circuit n).curve = 0 ∧ (State.reset.circuit n).threshold = 2048 ∧ (State.reset.circuit n).park = none ∧
    (State.reset.circuit n).openDetect = true ∧ (State.reset.circuit n).shortDetect = true ∧
    (State.reset.circuit n).anyFlag = false ∧ (State.reset.circuit n).anyMark = false ∧
    (State.reset.circuit n).health = .ok ∧ (State.reset.circuit n).pairing = .unpaired) ∧
  (∀ c, State.reset.curve c = identityCurve) ∧
  State.reset.rig = ⟨false, 2, 204, true⟩ ∧
  (∀ p, (State.reset.playback p).master = 4096 ∧ (State.reset.playback p).state = .idle ∧
    (State.reset.playback p).lastLook = none ∧ (State.reset.playback p).pendingFollow = none ∧
    (State.reset.playback p).followMissed = false ∧ (State.reset.playback p).forced = false) ∧
  (∀ p ch, (State.reset.entry p ch).level = 0 ∧ (State.reset.entry p ch).owner = none) ∧
  State.reset.fades = [] ∧ (∀ ch, State.reset.captureOf ch = none) ∧ State.reset.grandmaster = 4096 ∧
  State.reset.blackout = false ∧ State.reset.changeover = Changeover.initial ∧
  (∀ l r, (State.reset.row l r).present = false ∧ (State.reset.row l r).state = .unpolled ∧
    (State.reset.row l r).thermal = .normal ∧ (State.reset.row l r).pendingOrder = none) ∧
  (∀ p, State.reset.port p = PortState.initial) ∧ State.reset.servedLast = none ∧ State.reset.restartFlag = true ∧
  State.reset.attention = true

/-- Every invariant of the model holds at reset, and the fade timer and the frame timers run from power-on (R76, R137). -/
def Obligations.Reset_meets_invariants : Prop :=
  State.reset.Canonical ∧ State.reset.ChangeoverOk ∧ State.reset.TimersRun ∧ State.reset.PortsOk ∧ State.reset.LevelsOk ∧ State.reset.LooksOk ∧
  State.reset.FadesOk ∧ State.reset.RigOk ∧ State.reset.PatchOk ∧ State.reset.WithinLimits

/-- Every step keeps the canonical form of every collection. -/
def Obligations.Canonical_kept : Prop := ∀ s t : State, s.Canonical → step s = .next t → t.Canonical

/-- Every step keeps the relations between the changeover controller and the live bank (R122, R126).
No step stops the fade timer or a link's frame timer: they run from power-on, and no request stops them (R76, R137). -/
def Obligations.Changeover_relations_and_timers_kept : Prop :=
  (∀ s t : State, s.ChangeoverOk → step s = .next t → t.ChangeoverOk) ∧
  (∀ s t : State, s.TimersRun → step s = .next t → t.TimersRun)

/-- Every step keeps the bounds of the console ports and the tallies of the open transfers (R183, R184, R186, R188).
That a held head is a DESK-CLEAR without parameters is the model's reading (assumption log 5). -/
def Obligations.Port_bounds_kept : Prop := ∀ s t : State, s.PortsOk → step s = .next t → t.PortsOk

/-- Every step keeps every stored level and setting in its range (R98).
Every step keeps every look's entry list well formed (R49, R53). -/
def Obligations.Level_ranges_and_look_lists_kept : Prop :=
  (∀ s t : State, s.LevelsOk → step s = .next t → t.LevelsOk) ∧
  (∀ s t : State, s.PortsOk → s.LooksOk → step s = .next t → t.LooksOk)

/-- Every step keeps the fade engine's relations (R64, R66, R67, R69), on states whose looks are well formed. -/
def Obligations.Fade_relations_kept : Prop :=
  ∀ s t : State, s.Canonical → s.LooksOk → s.FadesOk → step s = .next t → t.FadesOk

/-- Every step keeps the relations of roles, pairings, health and orders, and the poll orders (R33, R36, R143, R159, R160).
The rack whose poll frame is being sent is a field of the model's own (assumption log 6), and that it stays in the poll order rests on
RACK-SET's cancelling a poll frame still being sent, which is the model's reading (assumption log 7). -/
def Obligations.Pairings_and_orders_kept : Prop :=
  ∀ s t : State, s.Canonical → s.RigOk → s.PatchOk → step s = .next t → t.RigOk

/-- Every step keeps the bank order without duplicates (R5) and what a record may name (R6). -/
def Obligations.Patch_relations_kept : Prop :=
  ∀ s t : State, s.Canonical → s.RigOk → s.PatchOk → step s = .next t → t.PatchOk

/-- Every step keeps the limits of the patch table and of the look store (R5, R7, R51). -/
def Obligations.Limits_kept : Prop :=
  ∀ s t : State, s.Canonical → s.PortsOk → s.RigOk → s.PatchOk → s.WithinLimits → step s = .next t → t.WithinLimits

/-! ### Frames on the wires -/

/-- A request frame and a data frame read back as what was framed, and no other bytes read as a request or as data: each has one
spelling (R180, R184).
A frame with a right check and a length of at most 58, whose code byte is neither DATA nor in the table of R191, has a malformed
header (R184), and so has a frame whose check is wrong or whose length exceeds 58, and one that ended unfinished, whose sequence and code
are those received, or 0 for a byte that was not.
The outcome codes of R182, and the request codes of R191 by their numbers, each code naming its request and no other.
Reception (R184): bytes outside a frame are discarded, a frame ends at the second byte of its check, one still short of it stands in the
receive buffer, and a start mark ends that one unfinished and begins a new one. -/
def Obligations.Port_frames_round_trip : Prop :=
  ((∀ r : Request, r.params.length ≤ 58 → classifyFrame (requestFrame r) = .request r) ∧
    (∀ d : DataFrame, d.data.length ≤ 58 → classifyFrame (dataFrame d) = .data d) ∧
    (∀ bytes r, classifyFrame bytes = .request r → bytes = requestFrame r ∧ r.params.length ≤ 58) ∧
    (∀ bytes d, classifyFrame bytes = .data d → bytes = dataFrame d ∧ d.data.length ≤ 58)) ∧
  (∀ (sq code len : Byte) (params check : List Byte), params.length = len.toNat → check.length = 2 →
      (58 < len.toNat ∨ check ≠ wordBytes (frameCheck (sq :: code :: len :: params)) ∨
        (code ≠ dataCode ∧ ReqCode.ofCode code.toNat = none)) →
      classifyFrame (sq :: code :: len :: params ++ check) = .malformed sq code) ∧
  (∀ part : List Byte, frameComplete part = false → classifyFrame part = .malformed (part.getD 0 0) (part.getD 1 0)) ∧
  (([ReqOutcome.done, .inPart, .locked, .range, .absent, .mismatch, .full, .conflict, .changing, .busy, .malformed].map
      ReqOutcome.code = [0, 1, 2, 3, 4, 5, 6, 7, 8, 9, 10]) ∧
    ([ReqCode.patchSet, .patchSetIf, .patchClear, .patchClearIf, .patchClearChannel, .patchSwap, .patchRange, .patchLoad,
        .patchReadChannel, .patchReadCircuit, .bankCopy, .bankErase, .bankLock, .bankUnlock].map ReqCode.code =
      [1, 2, 3, 4, 5, 6, 7, 8, 9, 10, 11, 12, 13, 14]) ∧
    ([ReqCode.circuitSet, .circuitRead, .rigSet, .rigRead, .rigLock, .rigUnlock, .curveLoad, .curveRead].map ReqCode.code =
      [20, 21, 22, 23, 24, 25, 26, 27]) ∧
    ([ReqCode.lookWrite, .lookRead, .lookDelete].map ReqCode.code = [30, 31, 32]) ∧
    ([ReqCode.go, .release, .hold, .resume, .stopLoop, .master, .deskClear, .playbackRead, .fadeRead, .channelRead].map
      ReqCode.code = [40, 41, 42, 43, 44, 45, 46, 47, 48, 49]) ∧
    ([ReqCode.capture, .uncapture, .grand, .blackout, .mixerRead, .outputRead].map ReqCode.code = [50, 51, 52, 53, 54, 55]) ∧
    ([ReqCode.changeover, .rackSet, .rackRead, .faultClear, .reassign, .restore, .transferRead, .status, .statusAck].map
      ReqCode.code = [60, 70, 71, 72, 80, 81, 82, 90, 91]) ∧ dataCode.toNat = 128 ∧
    (∀ n c, ReqCode.ofCode n = some c ↔ c.code = n) ∧ (∀ c : ReqCode, c.code ≠ dataCode.toNat ∧ c.code < 256)) ∧
  (∀ (outside bytes check : List Byte) (sq code len : Byte) (xs : List LineSymbol), bytes.length = len.toNat → check.length = 2 →
      let frame := sq :: code :: len :: bytes ++ check
      receive none (outside.map .byte ++ onLine frame ++ xs) = ((receive none xs).1, frame :: (receive none xs).2)) ∧
  ∀ (part : List Byte) (xs : List LineSymbol), frameComplete part = false →
    receive none (onLine part) = (some part, []) ∧
    receive (some part) (.start :: xs) = ((receive (some []) xs).1, part :: (receive (some []) xs).2)

/-- A reply frame with its fields in range reads back as what was framed (R142). -/
def Obligations.Reply_frames_round_trip : Prop :=
  ∀ y : ReplyFrame, y.address < 256 →
    (∀ o, y.ack = some o → indexOk o.circuitIndex = true ∧ indexOk o.spareIndex = true) →
    y.reports.length ≤ 32 → (∀ x ∈ y.reports, indexOk x.circuitIndex = true) →
    parseReply (replyFrame y) = some y

/-! ### The request engine and the ports -/

/-- Which request the engine takes next (R189): from the one eligible port; of two from the one not served last; and from port 1 when none
was served last. -/
def Obligations.Engine_takes_alternately : Prop :=
  ∀ (s : State) (p : Port) (r : Request), s.nextRequest = some (p, r) ↔
    (s.port p).queue.head? = some r ∧ (s.port p).headHeld = false ∧
    ((s.port (otherPort p)).queue = [] ∨ (s.port (otherPort p)).headHeld = true ∨ s.servedLast = some (otherPort p) ∨
      (s.servedLast = none ∧ p = .p1))

/-- A request whose parameter length is not the one its code calls for is answered MALFORMED with count 0 and no data, and nothing else
changes (R180); a refused announcing request also empties its port's data hold (R186).
That a DESK-CLEAR of a wrong length is answered so in DARKENING too is the model's reading (assumption log 5), and so are the one byte of
RIG-SET's spare reserve and of FADE-READ's fade number (assumption log 4), the length of a CIRCUIT-SET by bits 0 to 5 of its selection
byte (assumption log 19) and the six bytes of PATCH-CLEAR-IF (assumption log 21). -/
def Obligations.Wrong_length_is_malformed : Prop :=
  ∀ (s : State) (c : Instr) (code : ReqCode) (p : Port) (r : Request), c.requestCode = some code →
    s.nextRequest = some (p, r) → r.code = code → code.lengthOk r.params = false →
    ∃ t, exec c s = .next t ∧ s.SameButPorts t ∧ t.servedLast = some p ∧ t.port (otherPort p) = s.port (otherPort p) ∧
      t.port p = if code.announcing then { (s.port p).afterServing (r.answered (.refuse .malformed)) with dataHold := [] }
        else (s.port p).afterServing (r.answered (.refuse .malformed))

/-- A refused request changes nothing but its port (R10, R37, R52, R71, R164, R182) and the record of the port served last (R189): whatever
request row runs, if the answer it adds on the port it served is neither DONE nor PARTIAL, the rest of the state is as it was, the other
port included. -/
def Obligations.Refused_request_changes_nothing : Prop :=
  ∀ (s t : State) (c : Instr) (code : ReqCode) (p : Port) (r : Request) (y : Reply), c.requestCode = some code →
    s.nextRequest = some (p, r) → r.code = code → exec c s = .next t →
    (t.port p).outgoing = ((s.port p).closed.answering (r.answered y)).outgoing →
    y.outcome ≠ .done → y.outcome ≠ .inPart → s.SameButPorts t ∧ t.port (otherPort p) = s.port (otherPort p)

/-- A well-formed request frame closes the port's open transfer early and joins the queue, or with 4 waiting is answered BUSY; nothing but
its port changes (R185).
A frame with a malformed header, complete or cut off by a start mark, is answered MALFORMED at once with the sequence and code received;
unless its code byte is DATA an open transfer is closed early first; nothing but its port changes (R184, R188).
A data frame that finds no open transfer waits in the data hold while the port is announcing and holds fewer than 8, and else is
answered MALFORMED; nothing but its port changes (R187). While an announcing request waits in the queue, whatever joined behind it, what is
held stays held, through arrivals and deliveries (R186); where none waits any more, what an early close left is answered MALFORMED, before
a frame that arrives. Held frames come first: a data frame that arrives while one is held that would not wait is taken as if that one had
been delivered before it (R186). Symbols that end no frame move the receive buffer alone (R184).
That frames held over an early close are taken so is the model's reading (assumption log 10); that a row brings the line's symbols in
pieces, and that any of the three arrival rows receives those that end no frame, is its choice (assumption log 14). -/
def Obligations.Arriving_frames_without_transfer_data : Prop :=
  (∀ (s : State) (p : Port) (xs : List LineSymbol) (buffer : Option (List Byte)) (r : Request), s.resetLine = false →
      receive (s.port p).receiveBuffer xs = (buffer, [requestFrame r]) → r.params.length ≤ 58 →
      ∃ t, exec (.requestFrameArrival p xs) s = .next t ∧ s.SameButPort t p ∧
        let q := { (s.port p).closed with receiveBuffer := buffer }
        t.port p = if q.queue.length < 4 then { q with queue := q.queue ++ [r] } else q.answering (r.answered ⟨.busy, 0, []⟩)) ∧
  (∀ (s : State) (p : Port) (xs : List LineSymbol) (buffer : Option (List Byte)) (frame : List Byte) (sq code : Byte),
      s.resetLine = false → receive (s.port p).receiveBuffer xs = (buffer, [frame]) → classifyFrame frame = .malformed sq code →
      ∃ t, exec (.malformedFrameArrival p xs) s = .next t ∧ s.SameButPort t p ∧
        t.port p = { (if code = dataCode then s.port p else (s.port p).closed).answering ⟨sq, code, .malformed, 0, []⟩ with
          receiveBuffer := buffer }) ∧
  (∀ (s : State) (p : Port) (xs : List LineSymbol) (buffer : Option (List Byte)) (d : DataFrame), s.resetLine = false →
      receive (s.port p).receiveBuffer xs = (buffer, [dataFrame d]) → d.data.length ≤ 58 → (s.port p).transfer = none →
      let q := s.port p
      ∃ t, exec (.dataFrameArrival p xs) s = .next t ∧ s.SameButPort t p ∧
        t.port p = { (if ∃ r, q.queue.getLast? = some r ∧ (r.code = .patchLoad ∨ r.code = .lookWrite) then
            if q.dataHold.length < 8 then { q with dataHold := q.dataHold ++ [d] }
            else q.answering ⟨d.sequence, dataCode, .malformed, 0, []⟩
          else if ∃ r ∈ q.queue, r.code = .patchLoad ∨ r.code = .lookWrite then
            q.answering ⟨d.sequence, dataCode, .malformed, 0, []⟩
          else { q with
            dataHold := []
            outgoing := q.outgoing ++ (q.dataHold ++ [d]).map fun x => ⟨x.sequence, dataCode, .malformed, 0, []⟩ } : PortState) with
          receiveBuffer := buffer }) ∧
  (∀ (s t : State) (p : Port) (xs : List LineSymbol) (d : DataFrame), s.resetLine = false →
      receive (s.port p).receiveBuffer xs = (none, [dataFrame d]) → (s.port p).receiveBuffer = none → d.data.length ≤ 58 →
      (s.port p).dataHold ≠ [] →
      ((s.port p).transfer ≠ none ∨ ∀ r ∈ (s.port p).queue, r.code ≠ .patchLoad ∧ r.code ≠ .lookWrite) →
      exec (.dataHoldDelivery p) s = .next t → exec (.dataFrameArrival p xs) s = exec (.dataFrameArrival p xs) t) ∧
  (∀ (s : State) (p : Port) (d : DataFrame) (rest : List DataFrame), (s.port p).dataHold = d :: rest → (s.port p).transfer = none →
      ((∃ r ∈ (s.port p).queue, r.code = .patchLoad ∨ r.code = .lookWrite) → exec (.dataHoldDelivery p) s = .next s) ∧
      ((∀ r ∈ (s.port p).queue, r.code ≠ .patchLoad ∧ r.code ≠ .lookWrite) →
        ∃ t, exec (.dataHoldDelivery p) s = .next t ∧ s.SameButPort t p ∧
          t.port p = { (s.port p).answering ⟨d.sequence, dataCode, .malformed, 0, []⟩ with dataHold := rest })) ∧
  ∀ (s : State) (p : Port) (xs : List LineSymbol) (buffer : Option (List Byte)), s.resetLine = false →
    receive (s.port p).receiveBuffer xs = (buffer, []) →
    ∃ t, s.SameButPort t p ∧ t.port p = { s.port p with receiveBuffer := buffer } ∧
      exec (.requestFrameArrival p xs) s = .next t ∧ exec (.malformedFrameArrival p xs) s = .next t ∧
      exec (.dataFrameArrival p xs) s = .next t

/-- A data frame of a look write, arriving with none held or delivered from the front of the hold: its entries are staged one by one, levels
clamped to 4096, up to the count; a frame that is no whole number of entries, or holds none or more than 14, is not counted. The first
fault is kept with its position: RANGE for a channel outside 1 to 1024, MALFORMED for one that is not greater than the one before it, in
this frame or the last (R53, R186, R187). Below the count nothing is answered and the timer runs afresh. At the count the write closes and
is decided: the recorded fault with its position, CHANGING, LOCKED, FULL with the entries needed and the entries free, and else the look is
stored in one event and answered DONE with the entry count and the count of the look replaced, or absent; a write refused changes nothing
of the store; what is still held is answered MALFORMED (R51, R54, R55, R186).
That a channel with both faults counts as RANGE (assumption log 22) and that those numbers in the data stand in two bytes (assumption log 4)
are the model's choices. -/
def Obligations.Look_write_frames : Prop :=
  ∀ (s : State) (c : Instr) (p : Port) (t : WriteTransfer) (d : DataFrame) (rest : List DataFrame),
    (s.port p).transfer = some (.write t) → s.Brings c p d rest → t.received < t.announced →
    let es := ((writeEntries d.data).getD []).take (t.announced - t.received)
    let channel (i : Nat) : Nat := (es.getD i (0, 0)).1
    let before (i : Nat) : Nat := if i = 0 then (t.staged.getLast?.map LookEntry.channel).getD 0 else channel (i - 1)
    let fault (i : Nat) : Option ReqOutcome :=
      if channel i = 0 ∨ 1024 < channel i then some .range else if channel i ≤ before i then some .malformed else none
    let first := t.fault.or
      ((List.range es.length).filterMap fun i => (fault i).map fun o => (t.received + i + 1, o)).head?
    let staged := t.staged ++ es.map fun e => ⟨e.1, min e.2 4096⟩
    (t.received + es.length < t.announced →
      ∃ u, exec c s = .next u ∧ s.SameButPort u p ∧ u.port p = { s.port p with
        dataHold := rest
        transfer := some (.write { t with staged := staged, received := t.received + es.length, fault := first })
        inactivityTimer := .running }) ∧
    (t.received + es.length = t.announced →
      ∃ u, exec c s = .next u ∧ u.port (otherPort p) = s.port (otherPort p) ∧ u = { s with banks := u.banks, ports := u.ports } ∧
        let old := s.look t.bank t.number
        let y : Reply := match first with
          | some (pos, o) => ⟨o, 0, enc2 pos⟩
          | none =>
            if s.changeover.phase = .darkening ∧ s.changeover.target = some t.bank then .refuse .changing
            else if (s.bank t.bank).locked = true then .refuse .locked
            else if s.lookFits t.bank t.number t.announced = false then
              ⟨.full, 0, enc2 (t.announced - (old.map fun l => l.entries.length).getD 0) ++ enc2 (32768 - s.lookEntriesUsed)⟩
            else .done t.announced (encOpt2 (old.map fun l => l.entries.length))
        u.port p = { s.port p with
          transfer := none, inactivityTimer := .stopped, dataHold := []
          outgoing := (s.port p).outgoing ++ ⟨t.sequence, 30, y.outcome, y.count, y.data⟩ ::
            rest.map fun x => ⟨x.sequence, dataCode, .malformed, 0, []⟩ } ∧
        (y.outcome ≠ .done → u.banks = s.banks) ∧
        (y.outcome = .done →
          (∀ b n, u.look b n = if b = t.bank ∧ n = t.number then some ⟨t.header, staged⟩ else s.look b n) ∧
          ∀ b, u.records b = s.records b ∧ (u.bank b).locked = (s.bank b).locked))

/-- The expiry of a running inactivity timer closes the port's transfer early with its answer, and the sending of an answer takes the front
one off the outgoing answers; nothing but their port changes (R23, R56, R183, R188).
That the position of a first failure stands in two bytes is the model's choice (assumption log 4). -/
def Obligations.Timeout_and_answer_sent : Prop :=
  ∀ (s : State) (p : Port),
    ((s.port p).inactivityTimer = .running → ∃ t, exec (.inactivityTimeout p) s = .next t ∧ s.SameButPort t p ∧
      t.port p = (s.port p).closed) ∧
    (s.resetLine = false → ∃ t, exec (.answerWhollySent p) s = .next t ∧ s.SameButPort t p ∧
      t.port p = { s.port p with outgoing := (s.port p).outgoing.tail }) ∧
    (∀ t, (s.port p).transfer = some (.load t) → (s.port p).earlyAnswers = [⟨t.sequence, 8, .inPart, t.announced - t.applied,
      match t.firstFailure with
      | some (pos, o) => enc2 pos ++ enc1 o.code
      | none => enc2 (t.received + 1) ++ enc1 10⟩]) ∧
    (∀ t, (s.port p).transfer = some (.write t) → (s.port p).earlyAnswers = [⟨t.sequence, 30, .malformed, t.announced - t.received,
      match t.fault with
      | some (pos, o) => enc2 pos ++ enc1 o.code
      | none => []⟩])

/-- The assertion of the console reset line empties every item of both ports without answers and makes the port served last absent; while
it is asserted arrivals are discarded and nothing is sent; its release changes the line alone (R196). -/
def Obligations.Console_reset_reaches_ports_alone : Prop :=
  ∀ s : State,
    (∃ t, exec .consoleReset s = .next t ∧ t = { s with ports := t.ports, servedLast := none, resetLine := true } ∧
      ∀ p, t.port p = PortState.initial) ∧
    exec .consoleResetRelease s = .next { s with resetLine := false } ∧
    (s.resetLine = true → ∀ p symbols, exec (.requestFrameArrival p symbols) s = .next s ∧
      exec (.malformedFrameArrival p symbols) s = .next s ∧ exec (.dataFrameArrival p symbols) s = .next s ∧
      exec (.answerWhollySent p) s = .next s)


/-! ### Patch table -/

/-- The circuit an edit uses and the original circuit stored, by the named circuit's role and pairing, as the table of R8 gives them. -/
def Obligations.Edit_resolves_circuit : Prop :=
  ∀ (s : State) (n m : Nat),
    ((s.circuit n).role = .ordinary → s.resolve n = some (n, none)) ∧
    ((s.circuit n).role = .failed →
      ((s.circuit n).pairing = .unpaired ∨ (s.circuit n).pairing = .ordered m → s.resolve n = some (n, none)) ∧
      ((s.circuit n).pairing = .confirmed m ∨ (s.circuit n).pairing = .restoring m → s.resolve n = some (m, some n))) ∧
    ((s.circuit n).role = .spareFree ∨ (s.circuit n).role = .spareHeld ∨ (s.circuit n).role = .spareInUse ∨
      (s.circuit n).role = .retired → s.resolve n = none)

/-- The first failing check of R10 answers a patch edit: a number out of range RANGE, then the target bank of a changeover in DARKENING
CHANGING, then a locked bank LOCKED; then, for PATCH-SET-IF, PATCH-CLEAR and PATCH-CLEAR-IF, a circuit whose role refuses the edit
CONFLICT (R8), and for PATCH-SWAP a circuit that is not ORDINARY or FAILED with pairing NONE CONFLICT (R16); and nothing but the ports
changes. That the expectation of PATCH-CLEAR-IF is one byte is the model's reading (assumption log 21). -/
def Obligations.Patch_edits_are_checked_in_order : Prop :=
  ∀ (s : State) (b ch1 ch0 ck1 ck0 x y n1 n0 : Byte),
    let bank := b.toNat
    let order (inRange : Bool) : Option ReqOutcome :=
      if inRange = false then some .range
      else if s.changeover.phase = .darkening ∧ s.changeover.target = some bank then some .changing
      else if (s.bank bank).locked = true then some .locked else none
    let pair := bankOk bank && channelOk (word ch1 ch0) && circuitOk (word ck1 ck0)
    let expected := pair && (x == 0 || (x == 1 && decide (y.toNat ≤ 100)))
    let both := bankOk bank && circuitOk (word ck1 ck0) && circuitOk (word n1 n0)
    let swaps (n : Nat) : Prop :=
      ((s.circuit n).role = .ordinary ∨ (s.circuit n).role = .failed) ∧ (s.circuit n).pairing = .unpaired
    (∀ o, order pair = some o →
      s.Serves .patchSet .patchSet [b, ch1, ch0, ck1, ck0, x] (.refuse o) s.SameButPorts ∧
      s.Serves .patchClear .patchClear [b, ch1, ch0, ck1, ck0] (.refuse o) s.SameButPorts) ∧
    (∀ o, order expected = some o →
      s.Serves .patchSetIf .patchSetIf [b, ch1, ch0, ck1, ck0, n1, x, y] (.refuse o) s.SameButPorts) ∧
    (∀ o, order (pair && decide (x.toNat ≤ 100)) = some o →
      s.Serves .patchClearIf .patchClearIf [b, ch1, ch0, ck1, ck0, x] (.refuse o) s.SameButPorts) ∧
    (∀ o, order (bankOk bank && channelOk (word ch1 ch0)) = some o →
      s.Serves .patchClearChannel .patchClearChannel [b, ch1, ch0] (.refuse o) s.SameButPorts) ∧
    (∀ o, order both = some o →
      s.Serves .patchSwap .patchSwap [b, ck1, ck0, n1, n0] (.refuse o) s.SameButPorts) ∧
    (∀ o, order (pair && decide (1 ≤ word n1 n0) && decide (word n1 n0 ≤ 256) &&
        decide (word ch1 ch0 + word n1 n0 - 1 ≤ 1024) && decide (word ck1 ck0 + word n1 n0 - 1 ≤ 2048)) = some o →
      s.Serves .patchRange .patchRange [b, ch1, ch0, ck1, ck0, n1, n0, x] (.refuse o) s.SameButPorts) ∧
    (s.resolve (word ck1 ck0) = none →
      (order pair = none →
        s.Serves .patchClear .patchClear [b, ch1, ch0, ck1, ck0] (.refuse .conflict) s.SameButPorts) ∧
      (order expected = none →
        s.Serves .patchSetIf .patchSetIf [b, ch1, ch0, ck1, ck0, n1, x, y] (.refuse .conflict) s.SameButPorts) ∧
      (order (pair && decide (x.toNat ≤ 100)) = none →
        s.Serves .patchClearIf .patchClearIf [b, ch1, ch0, ck1, ck0, x] (.refuse .conflict) s.SameButPorts)) ∧
    (order both = none → ¬ (swaps (word ck1 ck0) ∧ swaps (word n1 n0)) →
      s.Serves .patchSwap .patchSwap [b, ck1, ck0, n1, n0] (.refuse .conflict) s.SameButPorts)

/-- PATCH-SET on an unlocked bank that is no changeover's target replaces the proportion of the record it finds (count 0), or adds one in
its place in bank order with the original circuit R8 gives (count 1), or is refused with FULL; with CONFLICT where the role refuses the
edit. No other bank, no other record, no lock and no look changes (R7, R8, R10, R11). -/
def Obligations.Patch_set_replaces_or_adds : Prop :=
  ∀ (s : State) (b ch1 ch0 ck1 ck0 pr : Byte), bankOk b.toNat = true → channelOk (word ch1 ch0) = true →
    circuitOk (word ck1 ck0) = true → s.changingBank b.toNat = false → (s.bank b.toNat).locked = false →
    let ps := [b, ch1, ch0, ck1, ck0, pr]
    let frame (t : State) : Prop := s.SameButBanks t ∧
      ∀ b', (t.bank b').locked = (s.bank b').locked ∧ (t.bank b').looks = (s.bank b').looks ∧
        (b' ≠ b.toNat → t.records b' = s.records b')
    (s.resolve (word ck1 ck0) = none → s.Serves .patchSet .patchSet ps (.refuse .conflict) s.SameButPorts) ∧
    (∀ used orig, s.resolve (word ck1 ck0) = some (used, orig) →
      (∀ r, findRec (s.records b.toNat) (word ch1 ch0) used = some r →
        s.Serves .patchSet .patchSet ps (.done 0 (recData { r with proportion := min pr.toNat 100 })) fun t => frame t ∧
          t.records b.toNat = (s.records b.toNat).map fun x =>
            if x.channel = word ch1 ch0 ∧ x.circuit = used then { x with proportion := min pr.toNat 100 } else x) ∧
      (findRec (s.records b.toNat) (word ch1 ch0) used = none → s.hasRoom b.toNat (word ch1 ch0) used = false →
        s.Serves .patchSet .patchSet ps (.refuse .full) s.SameButPorts) ∧
      (findRec (s.records b.toNat) (word ch1 ch0) used = none → s.hasRoom b.toNat (word ch1 ch0) used = true →
        s.Serves .patchSet .patchSet ps (.done 1 (recData ⟨word ch1 ch0, used, min pr.toNat 100, orig⟩)) fun t => frame t ∧
          ∃ before after, s.records b.toNat = before ++ after ∧
            t.records b.toNat = before ++ ⟨word ch1 ch0, used, min pr.toNat 100, orig⟩ :: after ∧
            (∀ x ∈ before, ¬ recBefore ⟨word ch1 ch0, used, min pr.toNat 100, orig⟩ x = true) ∧
            (∀ x, after.head? = some x → recBefore ⟨word ch1 ch0, used, min pr.toNat 100, orig⟩ x = true)))

/-- PATCH-SET-IF acts as PATCH-SET where its expectation is the record's present proportion (or its absence), and is else answered MISMATCH
with that proportion, or absent, before capacity is looked at (R12).
PATCH-CLEAR removes the record of the channel and the resolved circuit and answers it as it was stored, or answers ABSENT; and
PATCH-CLEAR-IF does so only where the record holds the expected proportion, and else answers MISMATCH with what it holds, or absent
(R13, R14). That its expectation is one byte, without a presence byte, is the model's reading (assumption log 21). -/
def Obligations.Conditional_set_and_clears : Prop :=
  (∀ (s : State) (b ch1 ch0 ck1 ck0 pr present ex : Byte) (used : Nat) (orig : Option Nat), bankOk b.toNat = true →
      channelOk (word ch1 ch0) = true → circuitOk (word ck1 ck0) = true → s.changingBank b.toNat = false →
      (s.bank b.toNat).locked = false → (present = 0 ∨ (present = 1 ∧ ex.toNat ≤ 100)) →
      s.resolve (word ck1 ck0) = some (used, orig) →
      let ps := [b, ch1, ch0, ck1, ck0, pr, present, ex]
      let now := (findRec (s.records b.toNat) (word ch1 ch0) used).map PatchRec.proportion
      (now ≠ (if present = 0 then none else some ex.toNat) →
        s.Serves .patchSetIf .patchSetIf ps ⟨.mismatch, 0, encOpt1 now⟩ s.SameButPorts) ∧
      (now = (if present = 0 then none else some ex.toNat) →
        match s.storeRecord b.toNat (word ch1 ch0) (word ck1 ck0) (min pr.toNat 100) with
        | .ok (s', r, n) => s.Serves .patchSetIf .patchSetIf ps (.done n (recData r)) fun t =>
            s.SameButBanks t ∧ t.banks = s'.banks
        | .error o => s.Serves .patchSetIf .patchSetIf ps (.refuse o) s.SameButPorts)) ∧
  (∀ (s : State) (b ch1 ch0 ck1 ck0 ex : Byte) (used : Nat) (orig : Option Nat), bankOk b.toNat = true →
      channelOk (word ch1 ch0) = true → circuitOk (word ck1 ck0) = true → s.changingBank b.toNat = false →
      (s.bank b.toNat).locked = false → s.resolve (word ck1 ck0) = some (used, orig) → ex.toNat ≤ 100 →
      let removed (t : State) : Prop := s.SameButBanks t ∧
        (∀ b', (t.bank b').locked = (s.bank b').locked ∧ (t.bank b').looks = (s.bank b').looks ∧
          (b' ≠ b.toNat → t.records b' = s.records b')) ∧
        t.records b.toNat = (s.records b.toNat).filter fun x => !(x.channel == word ch1 ch0 && x.circuit == used)
      match findRec (s.records b.toNat) (word ch1 ch0) used with
      | none =>
        s.Serves .patchClear .patchClear [b, ch1, ch0, ck1, ck0] (.refuse .absent) s.SameButPorts ∧
        s.Serves .patchClearIf .patchClearIf [b, ch1, ch0, ck1, ck0, ex] ⟨.mismatch, 0, encOpt1 none⟩ s.SameButPorts
      | some r =>
        s.Serves .patchClear .patchClear [b, ch1, ch0, ck1, ck0] (.done 1 (recData r)) removed ∧
        if r.proportion = ex.toNat then
          s.Serves .patchClearIf .patchClearIf [b, ch1, ch0, ck1, ck0, ex] (.done 1 (recData r)) removed
        else s.Serves .patchClearIf .patchClearIf [b, ch1, ch0, ck1, ck0, ex] ⟨.mismatch, 0, encOpt1 (some r.proportion)⟩
          s.SameButPorts)

/-- PATCH-CLEAR-CHANNEL removes every record of the channel and counts them (R15); PATCH-SWAP of two swappable circuits exchanges them in
every record of the bank, counts the records rewritten, and leaves the bank in bank order with no two records alike (R16, R17). -/
def Obligations.Channel_clear_and_swap : Prop :=
  ∀ (s : State) (b ch1 ch0 a1 a0 c1 c0 : Byte), bankOk b.toNat = true → s.changingBank b.toNat = false →
    (s.bank b.toNat).locked = false →
    let others (t : State) : Prop := s.SameButBanks t ∧
      ∀ b', (t.bank b').locked = (s.bank b').locked ∧ (t.bank b').looks = (s.bank b').looks ∧
        (b' ≠ b.toNat → t.records b' = s.records b')
    (channelOk (word ch1 ch0) = true →
      s.Serves .patchClearChannel .patchClearChannel [b, ch1, ch0]
        (.done ((s.records b.toNat).countP fun r => r.channel == word ch1 ch0) []) fun t =>
        others t ∧ t.records b.toNat = (s.records b.toNat).filter fun r => r.channel ≠ word ch1 ch0) ∧
    (circuitOk (word a1 a0) = true → circuitOk (word c1 c0) = true → word a1 a0 ≠ word c1 c0 →
      (s.circuit (word a1 a0)).swappable = true → (s.circuit (word c1 c0)).swappable = true →
      ((s.records b.toNat).Pairwise fun r r' => recBefore r r' = true) →
      s.Serves .patchSwap .patchSwap [b, a1, a0, c1, c0]
        (.done ((s.records b.toNat).countP fun r => r.circuit == word a1 a0 || r.circuit == word c1 c0) []) fun t =>
        others t ∧ ((t.records b.toNat).Pairwise fun r r' => recBefore r r' = true) ∧
          ∀ r, r ∈ t.records b.toNat ↔ ∃ r₀ ∈ s.records b.toNat, r = { r₀ with
            circuit := if r₀.circuit = word a1 a0 then word c1 c0 else if r₀.circuit = word c1 c0 then word a1 a0
              else r₀.circuit }) ∧
    (circuitOk (word a1 a0) = true → (s.circuit (word a1 a0)).swappable = true →
      s.Serves .patchSwap .patchSwap [b, a1, a0, a1, a0] (.done 0 []) s.SameButPorts)

/-- PATCH-RANGE is the run of its pairs in order, each as a PATCH-SET of one channel and one circuit at one clamped proportion: with every
pair applied the answer is DONE with count 0; else PARTIAL, counting the pairs that did not apply, with the index and outcome of the
first of them; the pairs that applied stay applied (R18, R19).
The byte for the pair index 256, which does not fit one, is a free value (assumption log 3). -/
def Obligations.Patch_range_runs_its_pairs : Prop :=
  ∀ (s : State) (b ch1 ch0 ck1 ck0 n1 n0 pr : Byte), bankOk b.toNat = true → channelOk (word ch1 ch0) = true →
    circuitOk (word ck1 ck0) = true → 1 ≤ word n1 n0 → word n1 n0 ≤ 256 → word ch1 ch0 + word n1 n0 - 1 ≤ 1024 →
    word ck1 ck0 + word n1 n0 - 1 ≤ 2048 → s.changingBank b.toNat = false → (s.bank b.toNat).locked = false →
    ∃ (at_ : Nat → State) (outcome : Nat → Option ReqOutcome), at_ 0 = s ∧
      (∀ i, i < word n1 n0 →
        match (at_ i).storeRecord b.toNat (word ch1 ch0 + i) (word ck1 ck0 + i) (min pr.toNat 100) with
        | .ok (s', _, _) => at_ (i + 1) = s' ∧ outcome i = none
        | .error o => at_ (i + 1) = at_ i ∧ outcome i = some o) ∧
      let failed := (List.range (word n1 n0)).filter fun i => (outcome i).isSome
      s.Serves .patchRange .patchRange [b, ch1, ch0, ck1, ck0, n1, n0, pr]
        (match failed with
          | [] => .done 0 []
          | i :: _ => ⟨.inPart, failed.length, enc1 (i + 1) ++ enc1 ((outcome i).getD .full).code⟩)
        fun t => s.SameButBanks t ∧ t.banks = (at_ (word n1 n0)).banks

/-- PATCH-LOAD on an unlocked bank that is no changeover's target, with a count of 1 to 1024, opens a load on its port: nothing is answered,
nothing is received or applied yet, the timer runs, an open transfer is closed early first, and the held data frames stay to be
delivered. A bank or count out of range is refused with RANGE, then the target bank of a changeover in DARKENING with CHANGING, then a
locked bank with LOCKED, and a refusal empties the hold (R20, R186, R188).
A data frame of a load, arriving with none held or delivered from the front of the hold, is the run of its records in order, up to the
count, each as a PATCH-SET would be: one that fails, with RANGE, CHANGING, LOCKED, CONFLICT or FULL, changes nothing, and the first failure
is kept; a frame that is no whole number of records, or holds none or more than 8, is not counted. Below the count nothing is answered and
the timer runs afresh. At the count the load closes: the transfer becomes absent, the timer stops, the answer is DONE with count 0 if every
record applied, and else PARTIAL with the announced count minus those applied and the first failure; what is still held is answered
MALFORMED (R21, R22, R186, R188). That the position of a first failure stands in two bytes is the model's choice (assumption log 4). -/
def Obligations.Patch_load : Prop :=
  (∀ (s : State) (p : Port) (sq b n1 n0 : Byte), s.nextRequest = some (p, ⟨sq, .patchLoad, [b, n1, n0]⟩) →
      let refusal : Option ReqOutcome :=
        if bankOk b.toNat = false ∨ word n1 n0 = 0 ∨ 1024 < word n1 n0 then some .range
        else if s.changeover.phase = .darkening ∧ s.changeover.target = some b.toNat then some .changing
        else if (s.bank b.toNat).locked = true then some .locked else none
      ∃ t, exec .patchLoad s = .next t ∧ s.SameButPorts t ∧ t.servedLast = some p ∧
        t.port (otherPort p) = s.port (otherPort p) ∧
        t.port p = match refusal with
          | some o => { (s.port p).afterServing ⟨sq, 8, o, 0, []⟩ with dataHold := [] }
          | none => { (s.port p).afterTaking with
              transfer := some (.load ⟨sq, b.toNat, word n1 n0, 0, 0, none⟩), inactivityTimer := .running }) ∧
  ∀ (s : State) (c : Instr) (p : Port) (t : LoadTransfer) (d : DataFrame) (rest : List DataFrame),
    (s.port p).transfer = some (.load t) → s.Brings c p d rest → t.received < t.announced →
    let rs := ((loadRecords d.data).getD []).take (t.announced - t.received)
    ∃ (at_ : Nat → State) (outcome : Nat → Option ReqOutcome), at_ 0 = s ∧
      (∀ i r, rs[i]? = some r →
        let refusal : Option ReqOutcome :=
          if channelOk r.1 = false ∨ circuitOk r.2.1 = false then some .range
          else if s.changeover.phase = .darkening ∧ s.changeover.target = some t.bank then some .changing
          else if (s.bank t.bank).locked = true then some .locked else none
        match refusal with
        | some o => at_ (i + 1) = at_ i ∧ outcome i = some o
        | none =>
          match (at_ i).storeRecord t.bank r.1 r.2.1 (min r.2.2 100) with
          | .ok (s', _, _) => at_ (i + 1) = s' ∧ outcome i = none
          | .error o => at_ (i + 1) = at_ i ∧ outcome i = some o) ∧
      let failed := (List.range rs.length).filter fun i => (outcome i).isSome
      let first := t.firstFailure.or (failed.head?.map fun i => (t.received + i + 1, (outcome i).getD .full))
      let applied := t.applied + (rs.length - failed.length)
      ∃ u, exec c s = .next u ∧ u.port (otherPort p) = s.port (otherPort p) ∧
        u = { s with banks := (at_ rs.length).banks, ports := u.ports } ∧
        u.port p = if t.received + rs.length < t.announced then
            { s.port p with
              dataHold := rest
              transfer := some (.load { t with received := t.received + rs.length, applied := applied, firstFailure := first })
              inactivityTimer := .running }
          else
            { s.port p with
              transfer := none, inactivityTimer := .stopped, dataHold := []
              outgoing := (s.port p).outgoing ++ (match first with
                  | none => ⟨t.sequence, 8, .done, 0, []⟩
                  | some (pos, o) => ⟨t.sequence, 8, .inPart, t.announced - applied, enc2 pos ++ enc1 o.code⟩) ::
                rest.map fun x => ⟨x.sequence, dataCode, .malformed, 0, []⟩ }

/-- BANK-COPY makes the destination's records those of the source, BANK-ERASE of a bank that is not live removes its records and looks, and
BANK-LOCK and BANK-UNLOCK set and clear the lock, whatever it was; the counts are the records copied, the records removed, and 0. Nothing
else of any bank changes. The first failing check refuses: RANGE; for the destination or the bank erased CHANGING, then LOCKED; then
CONFLICT for a copy onto itself or an erase of the live bank; then FULL for a copy the pool cannot hold (R2, R26, R27, R61). -/
def Obligations.Bank_requests : Prop :=
  ∀ (s : State) (src dst : Byte),
    let others (t : State) : Prop := s.SameButBanks t ∧ ∀ b', b' ≠ dst.toNat → t.bank b' = s.bank b'
    let order (inRange : Bool) (next : Option ReqOutcome) : Option ReqOutcome :=
      if inRange = false then some .range
      else if s.changeover.phase = .darkening ∧ s.changeover.target = some dst.toNat then some .changing
      else if (s.bank dst.toNat).locked = true then some .locked else next
    let size := s.poolCount - (s.records dst.toNat).length + (s.records src.toNat).length
    (match order (bankOk src.toNat && bankOk dst.toNat)
        (if src = dst then some .conflict else if 8192 < size then some .full else none) with
      | some o => s.Serves .bankCopy .bankCopy [src, dst] (.refuse o) s.SameButPorts
      | none => s.Serves .bankCopy .bankCopy [src, dst] (.done (s.records src.toNat).length []) fun t =>
          others t ∧ t.bank dst.toNat = { s.bank dst.toNat with records := s.records src.toNat }) ∧
    (match order (bankOk dst.toNat) (if dst.toNat = s.liveBank then some .conflict else none) with
      | some o => s.Serves .bankErase .bankErase [dst] (.refuse o) s.SameButPorts
      | none => s.Serves .bankErase .bankErase [dst] (.done (s.records dst.toNat).length []) fun t =>
          others t ∧ t.bank dst.toNat = ⟨false, [], []⟩) ∧
    (bankOk dst.toNat = true →
      s.Serves .bankLock .bankLock [dst] (.done 0 []) (fun t =>
        others t ∧ t.bank dst.toNat = { s.bank dst.toNat with locked := true }) ∧
      s.Serves .bankUnlock .bankUnlock [dst] (.done 0 []) (fun t =>
        others t ∧ t.bank dst.toNat = { s.bank dst.toNat with locked := false })) ∧
    (bankOk dst.toNat = false →
      s.Serves .bankLock .bankLock [dst] (.refuse .range) s.SameButPorts ∧
      s.Serves .bankUnlock .bankUnlock [dst] (.refuse .range) s.SameButPorts)

/-- A locked bank's records and looks are changed by no command but a reply arrival, whose acknowledgement rewrites records (R28), and a
power-on, which may lose them (R2, R3).
While a changeover is in DARKENING its target bank's records and looks are changed by no command but a reply arrival and a power-on
(R129). -/
def Obligations.Locked_and_target_banks_are_kept : Prop :=
  (∀ (s t : State) (c : Instr) (b : Nat), (s.bank b).locked = true → exec c s = .next t →
      (∀ l bytes, c ≠ .replyArrival l bytes) → (∀ x y, c ≠ .powerOn x y) →
      t.records b = s.records b ∧ (t.bank b).looks = (s.bank b).looks) ∧
  (∀ (s t : State) (c : Instr) (b : Nat), s.changeover.phase = .darkening → s.changeover.target = some b →
      exec c s = .next t → (∀ l bytes, c ≠ .replyArrival l bytes) → (∀ x y, c ≠ .powerOn x y) →
      t.records b = s.records b ∧ (t.bank b).looks = (s.bank b).looks)

/-- The rewriting at an acknowledged TRANSFER, and after it the one at the acknowledgement of its UNDO: the first moves every record of every bank
that names the failed circuit onto the spare with the original circuit set, keeps channel and proportion, leaves the others and keeps bank
order; the second then brings back exactly what was there (R28, R29). -/
def Obligations.Undo_rewriting_restores_records : Prop :=
  ∀ (s : State) (failed spare : Nat), failed ≠ spare →
    (∀ b, (s.records b).Pairwise fun r r' => recBefore r r' = true) →
    (∀ b, ∀ r ∈ s.records b, r.circuit ≠ spare ∧ (r.circuit = failed → r.original = none)) →
    let moved := s.rewriteRecords (PatchRec.ontoSpare failed spare)
    (∀ b, (moved.records b).Pairwise (fun r r' => recBefore r r' = true) ∧
      ∀ r, r ∈ moved.records b ↔ ∃ r₀ ∈ s.records b,
        r = if r₀.circuit = failed then ⟨r₀.channel, spare, r₀.proportion, some failed⟩ else r₀) ∧
    ∀ b, (moved.rewriteRecords (PatchRec.backTo failed spare)).bank b = s.bank b

/-- The final patch is the same whichever is taken first of an edit and an acknowledgement (R9). The edit is any PATCH-SET, PATCH-SET-IF,
PATCH-CLEAR, PATCH-CLEAR-IF or PATCH-CLEAR-CHANNEL, whatever its parameters: so it may store or clear, and may name the failed circuit, its
spare or another. The acknowledgement is that of the failed circuit's TRANSFER, its pairing ORDERED, or of its UNDO, its pairing RESTORING. In
every bank the same records stand after both, in the same order. -/
def Obligations.Edit_and_acknowledgement_commute : Prop :=
  ∀ (s : State) (failed spare : Nat) (perform : List Byte → State → State × Reply) (ps : List Byte),
    s.Canonical → s.RigOk → s.PatchOk → circuitOk failed = true → (s.circuit failed).role = .failed →
    perform ∈ [patchSet, patchSetIf, patchClear, patchClearIf, patchClearChannel] →
    let edit (u : State) : State := (perform ps u).1
    ((s.circuit failed).pairing = .ordered spare →
      ∀ b, ((edit s).ackTransfer failed spare).records b = (edit (s.ackTransfer failed spare)).records b) ∧
    ((s.circuit failed).pairing = .restoring spare →
      ∀ b, ((edit s).ackUndo failed spare).records b = (edit (s.ackUndo failed spare)).records b)

/-! ### Circuits, rig settings, curves -/

/-- CIRCUIT-SET with the rig lock clear stores every selected field and no other: the role (a change of role, allowed by R38 and within the
rack's limit, also sets health OK), mode, curve, threshold (clamped to 1 to 4096), park and masks; flags, marks, pairing and the re-send
mark are kept, and so is every other circuit. The answer gives the record as stored (R37, R38, R39).
A circuit outside 1 to 2048, a role or mode that is no code, a curve above 15, or a presence or mask byte above 1 is refused with RANGE,
locked or not, and so is a selection with bit 6 or 7 set (R37, R180).
That each flag and mark stands in a byte of its own in the answer's data is the model's choice (assumption log 4), and that the length of
such a selection is judged by its bits 0 to 5 is its reading (assumption log 19). -/
def Obligations.Circuit_set_stores_selected_fields : Prop :=
  ∀ (s : State) (ck1 ck0 : Byte) (x : CircuitSelection),
    let n := word ck1 ck0
    let outside : Prop := n = 0 ∨ 2048 < n ∨ (∃ b, x.role = some b ∧ (b = 0 ∨ 6 < b.toNat)) ∨
      (∃ b, x.mode = some b ∧ (b = 0 ∨ 3 < b.toNat)) ∨ (∃ b, x.curve = some b ∧ 15 < b.toNat) ∨
      (∃ b, x.park = some b ∧ 1 < b.1.toNat) ∨ (∃ b, x.masks = some b ∧ (1 < b.1.toNat ∨ 1 < b.2.toNat))
    let old := s.circuit n
    let role := (x.role.bind fun b => Role.ofCode b.toNat).getD old.role
    (outside → s.Serves .circuitSet .circuitSet (ck1 :: ck0 :: x.byte :: x.bytes) (.refuse .range) s.SameButPorts) ∧
    (∀ (selection : Byte) (fields : List Byte), 64 ≤ selection.toNat → fields.length = selectionLength selection →
      s.Serves .circuitSet .circuitSet (ck1 :: ck0 :: selection :: fields) (.refuse .range) s.SameButPorts) ∧
    (¬ outside → s.rig.locked = false → s.roleRefusal n role = none →
    let new : Circuit :=
      { role := role
        mode := (x.mode.bind fun b => Mode.ofCode b.toNat).getD old.mode
        curve := (x.curve.map BitVec.toNat).getD old.curve
        threshold := (x.threshold.map fun b => max 1 (min (word b.1 b.2) 4096)).getD old.threshold
        park := (x.park.map fun b => if b.1 = 0 then none else some b.2.toNat).getD old.park
        openDetect := (x.masks.map fun b => b.1 == 1).getD old.openDetect
        shortDetect := (x.masks.map fun b => b.2 == 1).getD old.shortDetect
        openLoad := old.openLoad
        short := old.short
        dimmerFail := old.dimmerFail
        health := if role = old.role then old.health else .ok
        pairing := old.pairing
        resend := old.resend }
    s.Serves .circuitSet .circuitSet (ck1 :: ck0 :: x.byte :: x.bytes) (.done 0 (circuitData new)) fun t =>
      s.SameButCircuits t ∧ ∀ m, t.circuit m = if m = n then new else s.circuit m)

/-- A selected role that differs from the present one is refused with CONFLICT but for the changes R38 allows, where a circuit that some
record names may not be made SPARE-FREE or RETIRED; and with FULL where it would make a fifth spare-role circuit of the rack; and nothing
but the ports changes (R37, R38). A code that names no role, or a circuit out of range, is refused with RANGE before all that (R37).
That each flag and mark stands in a byte of its own in the answer's data is the model's choice (assumption log 4). -/
def Obligations.Circuit_set_role_changes : Prop :=
  ∀ (s : State) (ck1 ck0 code : Byte),
    (code = 0 ∨ 6 < code.toNat ∨ circuitOk (word ck1 ck0) = false →
      s.Serves .circuitSet .circuitSet [ck1, ck0, 1, code] (.refuse .range) s.SameButPorts) ∧
    ∀ role : Role, circuitOk (word ck1 ck0) = true → s.rig.locked = false → Role.ofCode code.toNat = some role →
    let n := word ck1 ck0
    let old := s.circuit n
    let allowed : Prop :=
      (old.role = .ordinary ∧ (role = .spareFree ∨ role = .retired) ∧ s.named n = false) ∨
      (old.role = .spareFree ∧ (role = .ordinary ∨ role = .retired)) ∨
      (old.role = .retired ∧ (role = .ordinary ∨ role = .spareFree)) ∨
      (old.role = .failed ∧ old.pairing = .unpaired ∧
        (role = .ordinary ∨ ((role = .spareFree ∨ role = .retired) ∧ s.named n = false)))
    (role ≠ old.role → ¬ allowed →
      s.Serves .circuitSet .circuitSet [ck1, ck0, 1, code] (.refuse .conflict) s.SameButPorts) ∧
    (role ≠ old.role → allowed → role = .spareFree → old.role.isSpare = false → 4 ≤ s.rackSpares (linkOf n) (rackOf n) →
      s.Serves .circuitSet .circuitSet [ck1, ck0, 1, code] (.refuse .full) s.SameButPorts) ∧
    (role ≠ old.role → allowed → (role = .spareFree → old.role.isSpare = false ∧ s.rackSpares (linkOf n) (rackOf n) < 4) →
      s.Serves .circuitSet .circuitSet [ck1, ck0, 1, code]
        (.done 0 (circuitData { old with role := role, health := .ok })) fun t =>
        s.SameButCircuits t ∧ ∀ m, t.circuit m = if m = n then { old with role := role, health := .ok } else s.circuit m)

/-- RIG-SET with the rig lock clear stores the three settings, the reserve clamped to 8, and keeps the lock; RIG-LOCK and RIG-UNLOCK set and
clear the lock and keep the settings (R42, R43).
CURVE-LOAD with the rig lock clear replaces the seventeen points of one of the curves 1 to 15, where each is at most 4096 and none is below
the one before it; a set that falls is answered MALFORMED, a curve or point out of range RANGE, and then nothing but the ports changes
(R45, R46). That the spare reserve stands in one byte is the model's choice (assumption log 4). -/
def Obligations.Rig_settings_lock_and_curves : Prop :=
  (∀ (s : State) (auto reserve ceiling : Byte),
      ((auto = 0 ∨ auto = 1) → s.rig.locked = false →
        s.Serves .rigSet .rigSet [auto, reserve, ceiling] (.done 0 [auto, BitVec.ofNat 8 (min reserve.toNat 8), ceiling]) fun t =>
          s.SameButRig t ∧ t.rig = ⟨auto == 1, min reserve.toNat 8, ceiling.toNat, false⟩) ∧
      (auto ≠ 0 → auto ≠ 1 → s.Serves .rigSet .rigSet [auto, reserve, ceiling] (.refuse .range) s.SameButPorts) ∧
      s.Serves .rigLock .rigLock [] (.done 0 []) (fun t => s.SameButRig t ∧ t.rig = { s.rig with locked := true }) ∧
      s.Serves .rigUnlock .rigUnlock [] (.done 0 []) (fun t => s.SameButRig t ∧ t.rig = { s.rig with locked := false })) ∧
  (∀ (s : State) (c : Byte) (pts : List Byte), pts.length = 34 →
      (1 ≤ c.toNat → c.toNat ≤ 15 → (∀ p ∈ words pts, p ≤ 4096) →
        ((words pts).Pairwise (· ≤ ·) → s.rig.locked = false →
          s.Serves .curveLoad .curveLoad (c :: pts) (.done 0 []) fun t =>
            t = { s with curves := t.curves, ports := t.ports, servedLast := t.servedLast } ∧
            ∀ k, t.curve k = if k = c.toNat then words pts else s.curve k) ∧
        (¬ (words pts).Pairwise (· ≤ ·) → s.Serves .curveLoad .curveLoad (c :: pts) (.refuse .malformed) s.SameButPorts)) ∧
      (c = 0 ∨ 15 < c.toNat ∨ (∃ p ∈ words pts, 4096 < p) →
        s.Serves .curveLoad .curveLoad (c :: pts) (.refuse .range) s.SameButPorts))

/-- While the rig lock is set, CIRCUIT-SET, CURVE-LOAD, RIG-SET, RACK-SET, REASSIGN and RESTORE with well-formed parameters in range are answered
LOCKED and change nothing but the ports (R43). That the spare reserve of RIG-SET stands in one byte is the model's choice (assumption log 4). -/
def Obligations.Rig_lock_refuses_six_requests : Prop :=
  ∀ (s : State) (a b c d : Byte) (x : CircuitSelection) (pts : List Byte), s.rig.locked = true →
    (circuitOk (word a b) = true → x.inRange = true →
      s.Serves .circuitSet .circuitSet (a :: b :: x.byte :: x.bytes) (.refuse .locked) s.SameButPorts) ∧
    (1 ≤ a.toNat → a.toNat ≤ 15 → pts.length = 34 → (∀ p ∈ words pts, p ≤ 4096) → nonDecreasing (words pts) = true →
      s.Serves .curveLoad .curveLoad (a :: pts) (.refuse .locked) s.SameButPorts) ∧
    ((a = 0 ∨ a = 1) → s.Serves .rigSet .rigSet [a, b, c] (.refuse .locked) s.SameButPorts) ∧
    (1 ≤ a.toNat → a.toNat ≤ 4 → rackOk b.toNat = true → (c = 0 ∨ c = 1) →
      s.Serves .rackSet .rackSet [a, b, c] (.refuse .locked) s.SameButPorts) ∧
    (circuitOk (word a b) = true → circuitOk (word c d) = true →
      s.Serves .reassign .reassign [a, b, c, d] (.refuse .locked) s.SameButPorts) ∧
    (circuitOk (word a b) = true → s.Serves .restore .restore [a, b] (.refuse .locked) s.SameButPorts)

/-- While the rig lock is set, no command but RIG-UNLOCK and a power-on changes a circuit's settings, a curve, the rig settings or a rack's present
field (R43). -/
def Obligations.Rig_lock_keeps_settings : Prop :=
  ∀ (s t : State) (c : Instr), s.rig.locked = true → exec c s = .next t → c ≠ .rigUnlock → (∀ x y, c ≠ .powerOn x y) →
    (∀ n, (t.circuit n).mode = (s.circuit n).mode ∧ (t.circuit n).curve = (s.circuit n).curve ∧
      (t.circuit n).threshold = (s.circuit n).threshold ∧ (t.circuit n).park = (s.circuit n).park ∧
      (t.circuit n).openDetect = (s.circuit n).openDetect ∧ (t.circuit n).shortDetect = (s.circuit n).shortDetect) ∧
    t.curves = s.curves ∧ t.rig = s.rig ∧ ∀ l r, (t.row l r).present = (s.row l r).present

/-! ### Looks -/

/-- LOOK-WRITE within the order of checks of R52 opens a look write that holds the header as sent, the count and nothing received: nothing is
answered, the timer runs, the store is as it was. The first failing check refuses it and empties the port's hold: a number or code out of
range with RANGE, the target bank of a changeover in DARKENING with CHANGING, a locked bank with LOCKED, no room for the look with FULL
(R52, R186, R188). That the passes byte beside loop code 0 or 1 is not read is the model's reading (assumption log 19).
LOOK-DELETE of a look an unlocked bank holds, in a bank that is no changeover's target, takes that look away and no other, and answers with
its entry count; its first failing check refuses it with RANGE, CHANGING, LOCKED or ABSENT (R59). -/
def Obligations.Look_write_opens_and_delete : Prop :=
  (∀ (s : State) (p : Port) (sq b n1 n0 e1 e0 : Byte) (fp fl1 fl0 fd1 fd0 lc lp : Byte)
      (ut1 ut0 dt1 dt0 ud1 ud0 dd1 dd0 : Byte),
      s.nextRequest = some (p, ⟨sq, .lookWrite, [b, n1, n0, e1, e0, ut1, ut0, dt1, dt0, ud1, ud0, dd1, dd0, fp, fl1, fl0, fd1, fd0,
        lc, lp]⟩) →
      let inRange : Bool := bankOk b.toNat && lookOk (word n1 n0) && decide (1 ≤ word e1 e0) && decide (word e1 e0 ≤ 1024) &&
        (fp == 0 || (fp == 1 && lookOk (word fl1 fl0))) && (lc == 0 || lc == 1 || (lc == 2 && lp != 0))
      let refusal : Option ReqOutcome :=
        if inRange = false then some .range
        else if s.changeover.phase = .darkening ∧ s.changeover.target = some b.toNat then some .changing
        else if (s.bank b.toNat).locked = true then some .locked
        else if s.lookFits b.toNat (word n1 n0) (word e1 e0) = false then some .full else none
      let h : LookHeader := ⟨word ut1 ut0, word dt1 dt0, word ud1 ud0, word dd1 dd0,
        if fp = 0 then none else some ⟨word fl1 fl0, word fd1 fd0⟩,
        if lc = 0 then .absent else if lc = 1 then .endless else .passes lp.toNat⟩
      ∃ t, exec .lookWrite s = .next t ∧ s.SameButPorts t ∧ t.servedLast = some p ∧
        t.port (otherPort p) = s.port (otherPort p) ∧
        t.port p = match refusal with
          | none => { (s.port p).afterTaking with
              transfer := some (.write ⟨sq, b.toNat, word n1 n0, word e1 e0, h, [], 0, none⟩), inactivityTimer := .running }
          | some o => { (s.port p).afterServing ⟨sq, 30, o, 0, []⟩ with dataHold := [] }) ∧
  (∀ (s : State) (b n1 n0 : Byte),
      let refusal : Option ReqOutcome :=
        if bankOk b.toNat = false ∨ lookOk (word n1 n0) = false then some .range
        else if s.changeover.phase = .darkening ∧ s.changeover.target = some b.toNat then some .changing
        else if (s.bank b.toNat).locked = true then some .locked else none
      match refusal, s.look b.toNat (word n1 n0) with
      | some o, _ => s.Serves .lookDelete .lookDelete [b, n1, n0] (.refuse o) s.SameButPorts
      | none, none => s.Serves .lookDelete .lookDelete [b, n1, n0] (.refuse .absent) s.SameButPorts
      | none, some l => s.Serves .lookDelete .lookDelete [b, n1, n0] (.done l.entries.length []) fun t => s.SameButBanks t ∧
          (∀ b' n, t.look b' n = if b' = b.toNat ∧ n = word n1 n0 then none else s.look b' n) ∧
          ∀ b', t.records b' = s.records b' ∧ (t.bank b').locked = (s.bank b').locked)

/-! ### Reading requests -/

/-- The reading requests of the patch table, the circuit and curve tables, the rig settings and the look store answer DONE with what stands
there, and change nothing but the ports (R24, R25, R41, R44, R47, R58).
The reading requests of the fade engine, the channel mixer, the output composer, the link controllers, the transfer controller and the status
summary answer DONE with what stands there, field by field, and change nothing but the ports (R94, R95, R108, R121, R155, R175, R192).
One that names a bank, channel, circuit, curve, look, playback, fade, link or rack out of its range, or a first entry outside 1 to 1024, is
refused with RANGE.
Where R180 gives no width or order for a value in the data, the data is the model's choice (assumption log 4), and so are the passes byte of
a loop that is not counted (assumption log 23) and the ascending order of TRANSFER-READ's FAILED circuits with pairing NONE (assumption log
25). The bytes of an elapsed or completion count above 65535 in FADE-READ's data are free values (assumption log 3). -/
def Obligations.Reads_answer_and_change_nothing : Prop :=
  (∀ (s : State) (b h l i1 i0 : Byte),
      (bankOk b.toNat = true → channelOk (word h l) = true →
        let rs := (s.records b.toNat).filter fun r => r.channel == word h l
        s.Serves .patchReadChannel .patchReadChannel [b, h, l] (.done rs.length (rs.map channelRecData).flatten) s.SameButPorts) ∧
      (bankOk b.toNat = true → circuitOk (word h l) = true →
        let rs := (s.records b.toNat).filter fun r => r.circuit == word h l || r.original == some (word h l)
        s.Serves .patchReadCircuit .patchReadCircuit [b, h, l] (.done rs.length (rs.map recData).flatten) s.SameButPorts) ∧
      (circuitOk (word h l) = true →
        s.Serves .circuitRead .circuitRead [h, l] (.done 0 (circuitData (s.circuit (word h l)))) s.SameButPorts) ∧
      s.Serves .rigRead .rigRead [] (.done 0 (encBool s.rig.autoTransfer ++ enc1 s.rig.spareReserve ++ enc1 s.rig.ceiling ++
        encBool s.rig.locked ++ enc2 s.eligibleSpares)) s.SameButPorts ∧
      (b.toNat ≤ 15 → s.Serves .curveRead .curveRead [b] (.done 0 ((s.curve b.toNat).map enc2).flatten) s.SameButPorts) ∧
      (bankOk b.toNat = true → lookOk (word h l) = true → 1 ≤ word i1 i0 → word i1 i0 ≤ 1024 →
        match s.look b.toNat (word h l) with
        | none => s.Serves .lookRead .lookRead [b, h, l, i1, i0] (.refuse .absent) s.SameButPorts
        | some k => s.Serves .lookRead .lookRead [b, h, l, i1, i0]
            (.done k.entries.length (headerData k.header ++
              (((k.entries.drop (word i1 i0 - 1)).take 14).map fun e => enc2 e.channel ++ enc2 e.level).flatten)) s.SameButPorts)) ∧
  (∀ (s : State) (b h l : Byte) (k : LinkId),
      (playbackOk b.toNat = true →
        s.Serves .playbackRead .playbackRead [b]
          (.done (s.fades.countP fun f => f.playback == b.toNat)
            (enc1 (s.playback b.toNat).state.code ++ enc2 (s.playback b.toNat).master ++ encOpt2 (s.playback b.toNat).lastLook ++
              pendingData (s.playback b.toNat).pendingFollow ++ encBool (s.playback b.toNat).followMissed ++
              encBool (s.playback b.toNat).forced ++
              ((s.fades.filter fun f => f.playback == b.toNat).map fun f => enc1 f.number).flatten)) s.SameButPorts) ∧
      (1 ≤ b.toNat → b.toNat ≤ 48 →
        match s.fades.find? fun f => f.number == b.toNat with
        | none => s.Serves .fadeRead .fadeRead [b] (.refuse .absent) s.SameButPorts
        | some f => s.Serves .fadeRead .fadeRead [b]
            (.done (s.fades.findIdx (fun g => g.number == b.toNat) + 1) (fadeData f)) s.SameButPorts) ∧
      (playbackOk b.toNat = true → channelOk (word h l) = true →
        s.Serves .channelRead .channelRead [b, h, l] (.done 0 (entryData (s.entry b.toNat (word h l)))) s.SameButPorts) ∧
      (1 ≤ word h l → word h l ≤ 1024 →
        s.Serves .mixerRead .mixerRead [h, l] (.done s.captures.length (enc2 s.grandmaster ++ encBool s.blackout ++
          (((s.captures.drop (word h l - 1)).take 14).map fun e => enc2 e.1 ++ enc2 (e.2.getD 0)).flatten)) s.SameButPorts) ∧
      (circuitOk (word h l) = true →
        let n := word h l
        let here := (s.records s.liveBank).filter fun r => r.circuit == n
        s.Serves .outputRead .outputRead [h, l]
          (.done here.length
            (enc1 (linkNumber (linkOf n)) ++ enc2 (slotOf n) ++ enc1 (s.guardOf n) ++
              (here.map fun r => enc2 r.channel ++ enc1 r.proportion ++ encOpt2 r.original ++ enc2 (s.composite r.channel) ++
                encBool (s.captureOf r.channel).isSome ++ enc2 ((s.composite r.channel * r.proportion + 50) / 100)).flatten ++
              enc2 (s.merge n) ++ enc2 s.grandmaster ++ enc2 (s.afterGrand n) ++ enc2 s.changeover.scale ++
              enc2 (s.afterScale n) ++
              (if (s.circuit n).mode = .dimmed then 1 :: enc2 (curveOutput (s.curve (s.circuit n).curve) (s.afterScale n))
                else [0, 0, 0]) ++
              enc1 (s.slotBeforeCeiling n) ++ enc1 (s.row (linkOf n) (rackOf n)).thermal.code ++ enc1 (s.slot n)))
          s.SameButPorts) ∧
      (linkOfNumber h.toNat = some k → rackOk l.toNat = true →
        let r := l.toNat
        let w := s.row k r
        let order (o : Order) : List Byte := enc1 o.kind.code ++ enc1 o.circuitIndex ++ enc1 o.spareIndex
        let resend (o : Order) : List Byte :=
          encBool (o.kind == .transfer && (s.circuit (circuitAt k r o.circuitIndex)).resend)
        let waiting := (s.owedOrders k r).filter fun o =>
          w.pendingOrder.map (fun x => x.order.circuitIndex) ≠ some o.circuitIndex
        let circuits := (List.range' 1 32).map (circuitAt k r)
        s.Serves .rackRead .rackRead [h, l]
          (.done 0
            (encBool w.present ++ enc1 w.state.code ++ enc2 w.silent ++ enc2 w.wait ++ enc1 w.thermal.code ++ encBool w.news ++
              (match w.pendingOrder with
                | none => [0, 0, 0, 0, 0, 0]
                | some x => 1 :: (order x.order ++ enc2 x.unacknowledged)) ++
              encBool w.lostNotice ++ encBool w.returnedNotice ++ encBool w.abandonedNotice ++
              (if r ∈ (s.link k).pollOrder then 1 :: enc2 ((s.link k).pollOrder.findIdx (fun x => x == r) + 1)
                else [0, 0, 0]) ++
              encBool ((s.link k).lastPolled == some r))) s.SameButPorts ∧
        s.Serves .transferRead .transferRead [h, l]
          (.done waiting.length
            ((match w.pendingOrder with
                | none => [0, 0, 0, 0, 0, 0, 0]
                | some x => 1 :: (order x.order ++ enc2 x.unacknowledged ++ resend x.order)) ++
              (waiting.map fun o => order o ++ resend o).flatten ++
              ((circuits.filter fun n => (s.circuit n).role.isSpare).map fun n =>
                enc2 n ++ enc1 (s.circuit n).role.code ++ encOpt2 (s.circuit n).pairing.partner ++
                  encBool (s.circuit n).dimmerFail.isSet).flatten ++
              ((circuits.filter fun n => (s.circuit n).role == .failed && (s.circuit n).pairing == .unpaired).map enc2).flatten ++
              enc2 s.eligibleSpares ++ enc1 s.rig.spareReserve ++ encBool s.rig.autoTransfer ++ encBool w.abandonedNotice))
          s.SameButPorts) ∧
      s.Serves .status .status []
        (.done 0
          (encBool s.restartFlag ++ enc1 s.retention.code ++ enc1 s.liveBank ++ enc1 s.changeover.phase.code ++
            encOpt1 s.changeover.target ++ enc2 (s.changeover.darkTime - s.changeover.elapsed) ++ enc2 (48 - s.fades.length) ++
            enc2 (8192 - s.poolCount) ++ enc2 (32768 - s.lookEntriesUsed) ++ enc2 s.markedCircuits ++ enc2 s.noticedRacks ++
            ((List.range' 1 8).map fun p => encBool (s.playback p).followMissed ++ encBool (s.playback p).forced).flatten))
        s.SameButPorts) ∧
  (∀ (s : State) (b h l i1 i0 : Byte),
      (bankOk b.toNat = false ∨ channelOk (word h l) = false →
        s.Serves .patchReadChannel .patchReadChannel [b, h, l] (.refuse .range) s.SameButPorts) ∧
      (bankOk b.toNat = false ∨ circuitOk (word h l) = false →
        s.Serves .patchReadCircuit .patchReadCircuit [b, h, l] (.refuse .range) s.SameButPorts) ∧
      (circuitOk (word h l) = false →
        s.Serves .circuitRead .circuitRead [h, l] (.refuse .range) s.SameButPorts ∧
        s.Serves .outputRead .outputRead [h, l] (.refuse .range) s.SameButPorts) ∧
      (15 < b.toNat → s.Serves .curveRead .curveRead [b] (.refuse .range) s.SameButPorts) ∧
      (bankOk b.toNat = false ∨ lookOk (word h l) = false ∨ word i1 i0 = 0 ∨ 1024 < word i1 i0 →
        s.Serves .lookRead .lookRead [b, h, l, i1, i0] (.refuse .range) s.SameButPorts) ∧
      (playbackOk b.toNat = false → s.Serves .playbackRead .playbackRead [b] (.refuse .range) s.SameButPorts) ∧
      (b = 0 ∨ 48 < b.toNat → s.Serves .fadeRead .fadeRead [b] (.refuse .range) s.SameButPorts) ∧
      (playbackOk b.toNat = false ∨ channelOk (word h l) = false →
        s.Serves .channelRead .channelRead [b, h, l] (.refuse .range) s.SameButPorts) ∧
      (word h l = 0 ∨ 1024 < word h l → s.Serves .mixerRead .mixerRead [h, l] (.refuse .range) s.SameButPorts) ∧
      (h = 0 ∨ 4 < h.toNat ∨ rackOk l.toNat = false →
        s.Serves .rackRead .rackRead [h, l] (.refuse .range) s.SameButPorts ∧
        s.Serves .transferRead .transferRead [h, l] (.refuse .range) s.SameButPorts))

/-! ### Playbacks and fades -/

/-- The interpolation rule (R100): the level by the elapsed count, the delay and the time; at the end of the time it is the target exactly, it never
leaves the range of start and target, it moves in one direction only, and an entry whose start is its target stands there. -/
def Obligations.Interpolation_rule : Prop :=
  ∀ s t d D e : Nat,
    (e < d → interpolate s t d D e = s) ∧
    (d ≤ e → D = 0 → interpolate s t d D e = t) ∧
    (d ≤ e → 0 < D →
      let q := ((max s t - min s t) * min (e - d) D + D / 2) / D
      interpolate s t d D e = if s ≤ t then s + q else s - q) ∧
    (d + D ≤ e → interpolate s t d D e = t) ∧
    (∀ (f : Fade) (x : Entry), x.owner = some f.number → f.move x = { x with level := match x.part with
      | .up => interpolate x.start x.target f.upDelay f.upTime f.elapsed
      | .down => interpolate x.start x.target f.downDelay f.downTime f.elapsed }) ∧
    min s t ≤ interpolate s t d D e ∧ interpolate s t d D e ≤ max s t ∧
    (s ≤ t → interpolate s t d D e ≤ interpolate s t d D (e + 1)) ∧
    (t ≤ s → interpolate s t d D (e + 1) ≤ interpolate s t d D e)

/-- GO outside DARKENING of a look the live bank holds: with 48 fades the oldest is fast-completed for its slot (R72, R83), and from where that
leaves the entries the lowest free slot takes a new fade at the end of the creation list, with the look's times (or the override for both
times) and its follow and loop; the look's channels are taken over in entry order, their old fades losing them and retiring with the last,
and no other entry moves; a hold is lifted, the pending follow is cancelled, the last look is the look, the playback is RUNNING. With no time
to run, the look's entries stand at their levels at once with no owner, and the look's follow waits, or with delay 0 fires in this event
(R77, R80, R81). The state of every other playback is derived again: the one fast-completed is IDLE with no fade and no pending follow left.
The answer counts the look's entries and names the fade, its completion count, and the fade fast-completed with its playback
(R69 to R74). That a fade's number stands in one byte is the model's choice (assumption log 4); the bytes of a completion count above 65535
are a free value (assumption log 3). -/
def Obligations.Go_starts_a_fade : Prop :=
  ∀ (s : State) (pb n1 n0 present t1 t0 : Byte) (l : Look), s.Canonical → s.FadesOk → EntriesOk l.entries →
    playbackOk pb.toNat = true → lookOk (word n1 n0) = true → (present = 0 ∨ present = 1) →
    s.changeover.phase = .idle → s.look s.liveBank (word n1 n0) = some l →
    let p := pb.toNat
    let up := if present = 0 then l.header.upTime else word t1 t0
    let down := if present = 0 then l.header.downTime else word t1 t0
    ∃ u, s.SlotSecured u ∧
    let rises (e : LookEntry) : Bool := decide ((u.entry p e.channel).level ≤ e.level)
    let total := max (if l.entries.any rises then l.header.upDelay + up else 0)
      (if l.entries.any fun e => !rises e then l.header.downDelay + down else 0)
    let lost (f : Fade) : Nat := l.entries.countP fun e => (u.entry p e.channel).owner == some f.number
    let kept := u.fades.filterMap fun f =>
      if f.playback ≠ p then some f
      else if f.owned ≤ lost f then none else some { f with held := false, owned := f.owned - lost f }
    let others (t : State) : Prop :=
      (∀ q, q ≠ p → t.playback q = (u.playback q).settled (t.hasFade q)) ∧
      ∀ ch, (∀ e ∈ l.entries, e.channel ≠ ch) → t.entry p ch = u.entry p ch
    let stands (t : State) (w : Option PendingFollow) : Prop := others t ∧ t.fades = kept ∧
      (∀ e ∈ l.entries, (t.entry p e.channel).level = e.level ∧ (t.entry p e.channel).owner = none) ∧
      t.playback p = { u.playback p with
        pendingFollow := w, lastLook := some (word n1 n0), entries := (t.playback p).entries
        state := if kept.any (fun f => f.playback == p) || w.isSome then .running else .idle }
    let answer := Reply.done l.entries.length ([0, 0, 0, 0] ++ s.forcedAnswer)
    (total = 0 → (∀ w, l.header.follow = some w → 0 < w.delay) →
      s.Serves .go .go [pb, n1, n0, present, t1, t0] answer fun t =>
        s.SameButFadeEngine t ∧ stands t (l.header.follow.map fun w => ⟨w.look, w.delay⟩)) ∧
    (total = 0 → ∀ k, l.header.follow = some ⟨k, 0⟩ → lookOk k = true →
      ∃ v, v = { u with playbacks := v.playbacks, fades := v.fades } ∧ stands v none ∧
        s.Serves .go .go [pb, n1, n0, present, t1, t0] answer fun t =>
          s.SameButFadeEngine t ∧ v.FollowFires { v with playbacks := t.playbacks, fades := t.fades } p k) ∧
    (0 < total → ∃ n, 1 ≤ n ∧ n ≤ 48 ∧ (∀ f ∈ u.fades, f.number ≠ n) ∧ (∀ m, 1 ≤ m → m < n → ∃ f ∈ u.fades, f.number = m) ∧
      s.Serves .go .go [pb, n1, n0, present, t1, t0]
        (.done l.entries.length (encOpt1 (some n) ++ enc2 total ++ s.forcedAnswer)) fun t =>
        s.SameButFadeEngine t ∧ others t ∧
        t.fades = kept ++ [⟨n, p, some (word n1 n0), up, down, l.header.upDelay, l.header.downDelay, l.header.follow,
          l.header.loop, 0, false, l.entries.length, total⟩] ∧
        (∀ e ∈ l.entries, t.entry p e.channel = ⟨(u.entry p e.channel).level, some n, (u.entry p e.channel).level, e.level,
          if rises e then .up else .down⟩) ∧
        t.playback p = { u.playback p with
          pendingFollow := none, lastLook := some (word n1 n0), state := .running, entries := (t.playback p).entries })

/-- With 48 fades the slot a new fade needs is secured by fast completion of the oldest, and with fewer nothing is done (R72). In fast
completion every entry it owns takes its target and loses its owner, every other entry stays, its playback's forced flag is set, its slot is
freed, and the pending follow, master, last look and follow missed of every playback stay (R83). -/
def Obligations.Oldest_fade_is_fast_completed : Prop :=
  (∀ s : State, s.secureSlot = if 48 ≤ s.fades.length then s.fastComplete else (s, none)) ∧
  ∀ (s : State) (f : Fade) (rest : List Fade), s.fades = f :: rest →
    let t := s.fastComplete.1
    s.fastComplete.2 = some (f.number, f.playback) ∧ t = { s with playbacks := t.playbacks, fades := rest } ∧
    (∀ p ch, t.entry p ch = if p = f.playback ∧ (s.entry p ch).owner = some f.number then
      { s.entry p ch with level := (s.entry p ch).target, owner := none } else s.entry p ch) ∧
    ∀ p, (t.playback p).forced = ((s.playback p).forced || p == f.playback) ∧
      (t.playback p).pendingFollow = (s.playback p).pendingFollow ∧ (t.playback p).master = (s.playback p).master ∧
      (t.playback p).lastLook = (s.playback p).lastLook ∧ (t.playback p).followMissed = (s.playback p).followMissed

/-- RELEASE of a playback outside 1 to 8 is refused with RANGE (R63). Else it cancels the playback's pending follow and makes its last look absent. With no entry above 0 or owned nothing is created. Else a slot
is secured, with 48 fades by fast completion of the oldest (R83), and the entries are found again: at time 0, or with none left, every entry
of the playback stands at 0 with no owner at once; at a time above 0 every entry that is above 0 or owned is taken over with target 0 and part
DOWN from where it stands, by a release fade in the lowest free slot at the end of the creation list, held exactly if the playback was HELD; its
other fades retire superseded. No other playback's entries change but those fast-completed, every other playback's state is derived again, and
the answer counts the entries taken and names the fade and the one fast-completed with its playback (R85, R86). That a fade's number stands
in one byte is the model's choice (assumption log 4), and that the release fade is held where the slot was secured by fast-completing the
HELD playback's own last fade is its reading (assumption log 9). -/
def Obligations.Release_takes_down : Prop :=
  ∀ (s : State) (pb t1 t0 : Byte),
    (playbackOk pb.toNat = false → s.Serves .release .release [pb, t1, t0] (.refuse .range) s.SameButPorts) ∧
    (s.Canonical → s.FadesOk → playbackOk pb.toNat = true →
    let p := pb.toNat
    let left (u t : State) (st : PlayState) : Prop := s.SameButFadeEngine t ∧
      (∀ q, q ≠ p → t.playback q = (u.playback q).settled (t.hasFade q)) ∧
      t.playback p = { u.playback p with
        pendingFollow := none, lastLook := none, state := st, entries := (t.playback p).entries }
    let down (t : State) : Prop := ∀ ch, (t.entry p ch).level = 0 ∧ (t.entry p ch).owner = none
    (s.qualifying p = [] →
      s.Serves .release .release [pb, t1, t0] (.done 0 [0, 0, 0, 0, 0]) fun t => left s t .idle ∧ down t ∧ t.fades = s.fades) ∧
    (s.qualifying p ≠ [] → ∃ u, s.SlotSecured u ∧
      let taken := u.qualifying p
      let rest := u.fades.filter fun f => f.playback ≠ p
      (word t1 t0 = 0 ∨ taken = [] →
        s.Serves .release .release [pb, t1, t0] (.done taken.length ([0, 0] ++ s.forcedAnswer)) fun t =>
          left u t .idle ∧ down t ∧ t.fades = rest) ∧
      (0 < word t1 t0 → taken ≠ [] →
        ∃ n, 1 ≤ n ∧ n ≤ 48 ∧ (∀ f ∈ u.fades, f.number ≠ n) ∧ (∀ m, 1 ≤ m → m < n → ∃ f ∈ u.fades, f.number = m) ∧
          s.Serves .release .release [pb, t1, t0] (.done taken.length (encOpt1 (some n) ++ s.forcedAnswer)) fun t =>
            left u t (if (s.playback p).state = .held then .held else .running) ∧
            t.fades = rest ++ [⟨n, p, none, word t1 t0, word t1 t0, 0, 0, none, .absent, 0,
              (s.playback p).state == .held, taken.length, word t1 t0⟩] ∧
            ∀ ch, t.entry p ch = if 0 < (u.entry p ch).level ∨ (u.entry p ch).owner ≠ none then
              ⟨(u.entry p ch).level, some n, (u.entry p ch).level, 0, .down⟩ else u.entry p ch)))

/-- HOLD of a playback that is not IDLE sets its state HELD and the held flag of its fades and of no other; RESUME of a HELD one clears them and sets
RUNNING; each counts the playback's fades; HOLD of an IDLE and RESUME of a playback that is not HELD change nothing but the ports and count
0 (R87, R88).
STOP-LOOP makes the loop of every looping fade of the playback absent and counts them; nothing else of any fade or playback changes (R89).
MASTER sets the playback's master, clamped to 4096, and answers it; nothing else changes (R91). Each of the four that names a playback
outside 1 to 8 is refused with RANGE (R63). -/
def Obligations.Hold_resume_stop_loop_master : Prop :=
  (∀ (s : State) (pb : Byte), s.FadesOk → playbackOk pb.toNat = true →
      let p := pb.toNat
      let frozen (on : Bool) (st : PlayState) (t : State) : Prop := s.SameButFadeEngine t ∧
        t.fades = s.fades.map (fun f => if f.playback = p then { f with held := on } else f) ∧
        ∀ p', t.playback p' = if p' = p then { s.playback p with state := st } else s.playback p'
      let count := s.fades.countP fun f => f.playback == p
      ((s.playback p).state = .idle → s.Serves .hold .hold [pb] (.done 0 []) s.SameButPorts) ∧
      ((s.playback p).state ≠ .idle → s.Serves .hold .hold [pb] (.done count []) (frozen true .held)) ∧
      ((s.playback p).state ≠ .held → s.Serves .resume .resume [pb] (.done 0 []) s.SameButPorts) ∧
      ((s.playback p).state = .held → s.Serves .resume .resume [pb] (.done count []) (frozen false .running))) ∧
  (∀ (s : State) (pb l1 l0 : Byte), playbackOk pb.toNat = true →
      let loops (f : Fade) : Bool := f.playback == pb.toNat && f.loop.looping
      s.Serves .stopLoop .stopLoop [pb] (.done (s.fades.countP loops) []) (fun t =>
        s.SameButFadeEngine t ∧ t.playbacks = s.playbacks ∧
          t.fades = s.fades.map fun f => if loops f then { f with loop := .absent } else f) ∧
      s.Serves .master .master [pb, l1, l0] (.done 0 (enc2 (min (word l1 l0) 4096))) (fun t => s.SameButFadeEngine t ∧
        t.fades = s.fades ∧ ∀ p, t.playback p = if p = pb.toNat then { s.playback p with master := min (word l1 l0) 4096 }
          else s.playback p)) ∧
  (∀ (s : State) (pb l1 l0 : Byte), playbackOk pb.toNat = false →
      s.Serves .hold .hold [pb] (.refuse .range) s.SameButPorts ∧
      s.Serves .resume .resume [pb] (.refuse .range) s.SameButPorts ∧
      s.Serves .stopLoop .stopLoop [pb] (.refuse .range) s.SameButPorts ∧
      s.Serves .master .master [pb, l1, l0] (.refuse .range) s.SameButPorts)

/-- What desk clear changes (R92): no fade and no capture is left, every playback is IDLE with no pending follow and no owner, every level stands where it
was, and masters, last looks and flags stay.
A DESK-CLEAR taken in DARKENING is held at the head of its queue, unperformed and unanswered; an open transfer of the port is closed early and the
port is recorded as served last; nothing else changes, and a held DESK-CLEAR stays held while DARKENING lasts (R93, R130, R190).
That performing a held DESK-CLEAR leaves the port served last as it was is the model's reading (assumption log 8);
that the event changes nothing where it cannot occur is its choice (assumption log 2). -/
def Obligations.Desk_clear : Prop :=
  (∀ s : State, s.changeover.phase = .idle →
      let cleared (t : State) : Prop :=
        t = { s with playbacks := t.playbacks, fades := [], captures := [], ports := t.ports, servedLast := t.servedLast } ∧
        (∀ p, (t.playback p).state = .idle ∧ (t.playback p).pendingFollow = none ∧
          (t.playback p).master = (s.playback p).master ∧ (t.playback p).lastLook = (s.playback p).lastLook ∧
          (t.playback p).followMissed = (s.playback p).followMissed ∧ (t.playback p).forced = (s.playback p).forced) ∧
        ∀ p ch, (t.entry p ch).level = (s.entry p ch).level ∧ (t.entry p ch).owner = none
      s.Serves .deskClear .deskClear [] (.done s.fades.length []) cleared ∧
      ∀ p r rest, (s.port p).queue = r :: rest → (s.port p).headHeld = true → r.params = [] →
        ((s.port (otherPort p)).queue = [] ∨ (s.port (otherPort p)).headHeld = false ∨ s.servedLast = some (otherPort p)) →
        ∃ t, exec .heldDeskClearPerformed s = .next t ∧ cleared t ∧ t.servedLast = s.servedLast ∧
          t.port (otherPort p) = s.port (otherPort p) ∧
          t.port p = { (s.port p).answering (r.answered (.done s.fades.length [])) with queue := rest, headHeld := false }) ∧
  (∀ (s : State) (p : Port) (sq : Byte), s.changeover.phase = .darkening →
      (s.nextRequest = some (p, ⟨sq, .deskClear, []⟩) →
        ∃ t, exec .deskClear s = .next t ∧ s.SameButPorts t ∧ t.servedLast = some p ∧
          t.port (otherPort p) = s.port (otherPort p) ∧ t.port p = { (s.port p).closed with headHeld := true }) ∧
      exec .heldDeskClearPerformed s = .next s)

/-- At a fade interval event in which no fade reaches its completion count, every fade that is not held gains 1 elapsed, every entry it owns
takes the level of the interpolation rule at the new count, held fades and all other entries stay, and the changeover controller takes
its step (R76, R101, R126). A pending follow with more than 1 left counts down by 1, and one of a HELD playback is frozen, even at 0 (R77).
One whose delay is out fires: of several, in ascending playback number, the last of them on the state the event leaves without it. It
performs a GO of its look, or in DARKENING, or with no such look in the live bank, is dropped with *follow missed* (R77, R80, R81, R128). -/
def Obligations.Fade_interval_moves_running_fades : Prop :=
  ∀ s : State, s.FadesOk → s.fadeTimer = .running → (∀ f ∈ s.fades, f.held = true ∨ f.elapsed + 1 < f.completion) →
    (s.NoneDue (fun _ => True) →
      ∃ t, exec .fadeInterval s = .next t ∧
        t = { s with playbacks := t.playbacks, fades := t.fades, changeover := t.changeover } ∧
        t.fades = s.fades.map (fun f => if f.held then f else { f with elapsed := f.elapsed + 1 }) ∧
        (∀ p ch, (s.entry p ch).owner = none → t.entry p ch = s.entry p ch) ∧
        (∀ f ∈ s.fades, ∀ ch, (s.entry f.playback ch).owner = some f.number →
          let e := s.entry f.playback ch
          let times := match e.part with
            | .up => (f.upDelay, f.upTime)
            | .down => (f.downDelay, f.downTime)
          t.entry f.playback ch = if f.held then e else
            { e with level := interpolate e.start e.target times.1 times.2 (f.elapsed + 1) }) ∧
        (∀ p, t.playback p = { s.playback p with
          pendingFollow := s.countedFollow p, entries := (t.playback p).entries }) ∧
        t.changeover = if s.changeover.phase = .darkening ∧ s.changeover.switchDue = false then
            { s.changeover with
              elapsed := s.changeover.elapsed + 1
              scale := 4096 - (4096 * (s.changeover.elapsed + 1) + s.changeover.darkTime / 2) / s.changeover.darkTime
              switchDue := decide (s.changeover.darkTime ≤ s.changeover.elapsed + 1) }
          else s.changeover) ∧
    ∀ p w, s.Canonical → playbackOk p = true → (s.playback p).pendingFollow = some w → (s.playback p).state ≠ .held → w.remaining ≤ 1 →
      lookOk w.look = true → s.NoneDue (fun q => p < q) →
      ∃ u t, exec .fadeInterval (s.setPlayback p { s.playback p with pendingFollow := none }) = .next u ∧
        exec .fadeInterval s = .next t ∧ u.FollowFires t p w.look

/-- What a fade interval event does where any number of fades reach their completion counts. Those that do not move on, held ones and entries
without an owner stay (R76, R101). Where a fade with a loop reaches its count it bounces: its entries turn round where they stand with their
parts recomputed, elapsed returns to 0, the completion count is recomputed over the turned parts, a count of passes falls by 1 to absent
after 1, and it keeps its number, place and follow; a recomputed count of 0 completes it, its entries at their new targets (R70, R78). Without
a loop it completes: its entries stand at their targets with no owner and its slot is free (R79). A playback then waits for the follow of the
last of its completed fades, in creation order, that carries one, in place of one already pending, which otherwise counts down; with no
fade and no pending follow it is IDLE (R64, R76, R77). A follow whose delay is out, the one just scheduled with delay 0 among them, fires: of
several, in ascending playback number, the last of them on the state the event leaves without it (R77, R80, R81). -/
def Obligations.Fade_interval_ends_passes : Prop :=
  ∀ (s : State) (up down : Nat → Bool), s.FadesOk → s.fadeTimer = .running →
    let mine (f : Fade) (ch : Nat) : Prop := (s.entry f.playback ch).owner = some f.number
    (∀ f ∈ s.fades,
      (up f.number = true ↔ ∃ ch, mine f ch ∧ (s.entry f.playback ch).target ≤ (s.entry f.playback ch).start) ∧
      (down f.number = true ↔ ∃ ch, mine f ch ∧ (s.entry f.playback ch).start < (s.entry f.playback ch).target)) →
    let reaches (f : Fade) : Bool := !f.held && f.elapsed + 1 == f.completion
    let count (f : Fade) : Nat :=
      max (if up f.number then f.upDelay + f.upTime else 0) (if down f.number then f.downDelay + f.downTime else 0)
    let completes (f : Fade) : Bool := reaches f && (!f.loop.looping || count f == 0)
    let next (f : Fade) : Fade :=
      if f.held then f
      else if reaches f then
        { f with
          elapsed := 0, completion := count f
          loop := match f.loop with
            | .absent => .absent
            | .endless => .endless
            | .passes n => if n ≤ 1 then .absent else .passes (n - 1) }
      else { f with elapsed := f.elapsed + 1 }
    let waits (p : Nat) : Option PendingFollow :=
      match ((s.fades.filter fun f => f.playback == p && completes f).filterMap Fade.follow).getLast? with
      | some w => some ⟨w.look, w.delay⟩
      | none => s.countedFollow p
    let fires (p k : Nat) : Prop := playbackOk p = true ∧ (s.playback p).state ≠ .held ∧ waits p = some ⟨k, 0⟩
    ((∀ p k, ¬ fires p k) → ∃ t, exec .fadeInterval s = .next t ∧
      t = { s with playbacks := t.playbacks, fades := t.fades, changeover := s.changeover.tick } ∧
      t.fades = (s.fades.filter fun f => !completes f).map next ∧
      (∀ p ch, (s.entry p ch).owner = none → t.entry p ch = s.entry p ch) ∧
      (∀ f ∈ s.fades, ∀ ch, mine f ch →
        let e := s.entry f.playback ch
        let e' := t.entry f.playback ch
        (reaches f = false → e' = s.carriedEntry f.playback ch) ∧
        (reaches f = true → f.loop.looping = false → e' = { e with level := e.target, owner := none }) ∧
        (reaches f = true → f.loop.looping = true →
          (0 < count f → e' = ⟨e.target, some f.number, e.target, e.start, if e.target ≤ e.start then .up else .down⟩) ∧
          (count f = 0 → e'.level = e.start ∧ e'.owner = none))) ∧
      ∀ p, t.playback p =
        ({ s.playback p with pendingFollow := waits p, entries := (t.playback p).entries } : Playback).settled (t.hasFade p)) ∧
    ∀ p k, s.Canonical → fires p k → (∀ q j, p < q → ¬ fires q j) → lookOk k = true →
      let silent : State := { s with
        fades := s.fades.map fun f => if f.playback = p ∧ completes f = true then { f with follow := none } else f }
      ∃ u t, exec .fadeInterval (silent.setPlayback p
          (({ s.playback p with pendingFollow := none } : Playback).settled (s.hasFade p))) = .next u ∧
        exec .fadeInterval s = .next t ∧ u.FollowFires t p k

/-! ### From channel to slot -/

/-- The level chain: a playback's level scaled by its master (R102), the composite as the capture or else the greatest of the eight (R104), a
record's contribution (R109), the merge as the greatest contribution of the live bank's records for the circuit, 0 with none (R110), the
grandmaster and the changeover scale (R111, R112); and with every stored level in range every slot lies in 0 to 255 (R98). -/
def Obligations.Level_chain : Prop :=
  ∀ (s : State) (p ch n : Nat),
    (s.scaled p ch = ((s.entry p ch).level * (s.playback p).master + 2048) / 4096 ∧
      ((s.playback p).master = 4096 → s.scaled p ch = (s.entry p ch).level) ∧
      ((s.playback p).master ≤ 4096 → s.scaled p ch ≤ (s.entry p ch).level)) ∧
    (∀ l, s.captureOf ch = some l → s.composite ch = l) ∧
    (s.captureOf ch = none → (∀ q, 1 ≤ q → q ≤ 8 → s.scaled q ch ≤ s.composite ch) ∧
      ∃ q, 1 ≤ q ∧ q ≤ 8 ∧ s.composite ch = s.scaled q ch) ∧
    (let here : List PatchRec := List.filter (fun r => r.circuit == n) (s.records s.liveBank);
      (here = [] → s.merge n = 0) ∧
      (∀ r ∈ here, (s.composite r.channel * r.proportion + 50) / 100 ≤ s.merge n) ∧
      (here ≠ [] → ∃ r ∈ here, s.merge n = (s.composite r.channel * r.proportion + 50) / 100)) ∧
    s.afterGrand n = (s.merge n * s.grandmaster + 2048) / 4096 ∧
    s.afterScale n = (s.afterGrand n * s.changeover.scale + 2048) / 4096 ∧
    (s.LevelsOk → s.slot n ≤ 255)

/-- The curve (R115) and the slot value (R116): P16 at 4096 and else the interpolation between two points, which it never leaves and which is the
lower point where nothing is left over; a higher level never gives a lower output or slot; the identity curve gives the level itself; 0 gives
P0; outputs to 8 give slot 0 and 4096 gives 255. A DIMMED circuit's slot is that; a SWITCHED one's is 255 from its threshold and else 0
(R114). -/
def Obligations.Curve_and_slot_conversion : Prop :=
  (∀ (pts : List Nat) (v : Nat), CurveOk pts → v ≤ 4096 →
    (v = 4096 → curveOutput pts v = pointOf pts 16) ∧
    (v < 4096 →
      curveOutput pts v = pointOf pts (v / 256) + ((pointOf pts (v / 256 + 1) - pointOf pts (v / 256)) * (v % 256) + 128) / 256 ∧
      pointOf pts (v / 256) ≤ curveOutput pts v ∧ curveOutput pts v ≤ pointOf pts (v / 256 + 1) ∧
      (v % 256 = 0 → curveOutput pts v = pointOf pts (v / 256)) ∧
      curveOutput pts v ≤ curveOutput pts (v + 1)) ∧
    curveOutput pts v ≤ 4096) ∧
  (∀ v, v ≤ 4096 → curveOutput identityCurve v = v) ∧ (∀ pts, curveOutput pts 0 = pointOf pts 0) ∧
  (∀ out, slotValue out = (out * 255 + 2048) / 4096 ∧ slotValue out ≤ slotValue (out + 1) ∧
    (out ≤ 8 → slotValue out = 0)) ∧ slotValue 9 = 1 ∧ slotValue 4096 = 255 ∧
  ∀ (s : State) (n : Nat),
    ((s.circuit n).mode = .dimmed → s.computedSlot n =
      slotValue (curveOutput (s.curve (s.circuit n).curve) (s.afterScale n))) ∧
    ((s.circuit n).mode = .switched → s.computedSlot n = if (s.circuit n).threshold ≤ s.afterScale n then 255 else 0)

/-- The guards, in their order, and the ceiling (R117, R118, R119): the first guard that applies decides the slot, and in a WARM rack it is capped at the
thermal ceiling. -/
def Obligations.Guards_decide_the_slot : Prop :=
  ∀ (s : State) (n : Nat),
    let c := s.circuit n
    let rack := (s.row (linkOf n) (rackOf n)).thermal
    let one := c.mode = .off ∨ c.role = .retired ∨ c.role = .spareFree ∨ c.role = .spareHeld
    let three := c.short.isSet = true ∧ c.shortDetect = true
    let four := c.role = .failed ∧ ∃ m, c.pairing = .confirmed m ∨ c.pairing = .restoring m
    let capped (v : Nat) : Nat := if rack = .warm then min v s.rig.ceiling else v
    (one → s.guardOf n = 1 ∧ s.slot n = 0) ∧
    (¬ one → rack = .hot → s.guardOf n = 2 ∧ s.slot n = 0) ∧
    (¬ one → rack ≠ .hot → three → s.guardOf n = 3 ∧ s.slot n = 0) ∧
    (¬ one → rack ≠ .hot → ¬ three → four → s.guardOf n = 4 ∧ s.slot n = 0) ∧
    (¬ one → rack ≠ .hot → ¬ three → ¬ four →
      (∀ v, c.park = some v → s.guardOf n = 5 ∧ s.slot n = capped v) ∧
      (c.park = none → s.blackout = true → s.guardOf n = 6 ∧ s.slot n = 0) ∧
      (c.park = none → s.blackout = false → s.guardOf n = 7 ∧ s.slot n = capped (s.computedSlot n)))

/-- CAPTURE captures its channel at the level, clamped to 4096, counting 1 for a channel that was not captured, and refuses a channel outside
1 to 1024 with RANGE; UNCAPTURE releases its channel with
the level it held, is ABSENT for one not captured, and releases all for channel 0; GRAND sets the grandmaster, clamped; BLACKOUT sets blackout, or
is refused with RANGE. Nothing else but the ports changes (R105, R106, R111, R113). -/
def Obligations.Mixer_requests : Prop :=
  ∀ (s : State) (h l l1 l0 : Byte),
    let ch := word h l
    let level := min (word l1 l0) 4096
    (channelOk ch = true →
      s.Serves .capture .capture [h, l, l1, l0] (.done (if s.captureOf ch = none then 1 else 0) (enc2 level)) (fun t =>
        s.SameButCaptures t ∧ ∀ c, t.captureOf c = if c = ch then some level else s.captureOf c) ∧
      match s.captureOf ch with
      | none => s.Serves .uncapture .uncapture [h, l] (.refuse .absent) s.SameButPorts
      | some v => s.Serves .uncapture .uncapture [h, l] (.done 1 (enc2 v)) fun t =>
          s.SameButCaptures t ∧ ∀ c, t.captureOf c = if c = ch then none else s.captureOf c) ∧
    (channelOk ch = false → s.Serves .capture .capture [h, l, l1, l0] (.refuse .range) s.SameButPorts) ∧
    s.Serves .uncapture .uncapture [0, 0] (.done s.captures.length []) (fun t =>
      s.SameButCaptures t ∧ ∀ c, t.captureOf c = none) ∧
    (1024 < ch → s.Serves .uncapture .uncapture [h, l] (.refuse .range) s.SameButPorts) ∧
    s.Serves .grand .grand [l1, l0] (.done 0 (enc2 level)) (fun t =>
      t = { s with grandmaster := level, ports := t.ports, servedLast := t.servedLast }) ∧
    (l = 0 ∨ l = 1 → s.Serves .blackout .blackout [l] (.done 0 [l]) fun t =>
      t = { s with blackout := l == 1, ports := t.ports, servedLast := t.servedLast }) ∧
    (l ≠ 0 → l ≠ 1 → s.Serves .blackout .blackout [l] (.refuse .range) s.SameButPorts)

/-! ### Changeover -/

/-- An accepted CHANGEOVER darkens from full scale with elapsed 0 over the dark time, changing nothing else, and answers the target, the time and the
bank live at acceptance; with a dark time of 0 it makes the target live in the same event, with every change of the switch event (R123, R124,
R131). A CHANGEOVER is refused with RANGE, CHANGING or CONFLICT, and a GO with RANGE, CHANGING or ABSENT, in the order of their checks, and
then nothing but the ports changes: no slot is freed, no hold lifted, no follow cancelled (R71, R123, R129). -/
def Obligations.Changeover_and_go_checks : Prop :=
  ∀ (s : State) (b t1 t0 n1 n0 present : Byte),
    (bankOk b.toNat = true → s.changeover.phase = .idle → b.toNat ≠ s.liveBank →
      s.Serves .changeover .changeover [b, t1, t0] (.done 0 (b :: (enc2 (word t1 t0) ++ enc1 s.liveBank))) fun t =>
        (0 < word t1 t0 → t = { s with changeover := ⟨.darkening, some b.toNat, word t1 t0, 0, 4096, false⟩, ports := t.ports,
                                       servedLast := t.servedLast }) ∧
        (word t1 t0 = 0 → s.SwitchedTo t b.toNat)) ∧
    (bankOk b.toNat = false → s.Serves .changeover .changeover [b, t1, t0] (.refuse .range) s.SameButPorts) ∧
    (bankOk b.toNat = true → s.changeover.phase = .darkening →
      s.Serves .changeover .changeover [b, t1, t0] (.refuse .changing) s.SameButPorts) ∧
    (bankOk b.toNat = true → s.changeover.phase = .idle → b.toNat = s.liveBank →
      s.Serves .changeover .changeover [b, t1, t0] (.refuse .conflict) s.SameButPorts) ∧
    (let inRange : Prop := playbackOk b.toNat = true ∧ lookOk (word n1 n0) = true ∧ (present = 0 ∨ present = 1);
      (¬ inRange → s.Serves .go .go [b, n1, n0, present, t1, t0] (.refuse .range) s.SameButPorts) ∧
      (inRange → s.changeover.phase = .darkening →
        s.Serves .go .go [b, n1, n0, present, t1, t0] (.refuse .changing) s.SameButPorts) ∧
      (inRange → s.changeover.phase = .idle → s.look s.liveBank (word n1 n0) = none →
        s.Serves .go .go [b, n1, n0, present, t1, t0] (.refuse .absent) s.SameButPorts))

/-- With switch due set, the switch event makes the target live, with every change of R131 and nothing answered; and the live bank is changed by no
command but a switch event, a CHANGEOVER of dark time 0 and a power-on with retention lost (R1, R97, R131, R132). -/
def Obligations.Switch_event_makes_target_live : Prop :=
  (∀ (s : State) (b : Nat), s.changeover.switchDue = true → s.changeover.target = some b →
    ∃ t, exec .switchEvent s = .next t ∧ s.SwitchedTo t b ∧ t.ports = s.ports ∧ t.servedLast = s.servedLast) ∧
  ∀ (s t : State) (c : Instr), exec c s = .next t → t.liveBank ≠ s.liveBank →
    (c = .switchEvent ∧ s.changeover.switchDue = true) ∨
    (c = .changeover ∧ ∃ p sq b, s.nextRequest = some (p, ⟨sq, .changeover, [b, 0, 0]⟩)) ∨
    ∃ x y, c = .powerOn x y ∧ (x && y) = false

/-! ### Dimmer links -/

/-- A frame-due event with no window open sends the level frame of the link's 512 slots, and polls the rack the arbiter chooses (R139, R141, R144): the
last polled rack, if in the poll order with a wait count of 1 to 7; else the first other rack of the order with a pending order or news; else the head.
Its pending order is carried, it is last polled and moves to the end. With an empty order nothing is polled. With a window open the event
first counts that poll silent. Nothing but the link changes.
The bytes on the link and the rack whose poll frame is being sent are fields of the model's own (assumption log 6); that the event while a
poll frame is still being sent replaces that poll, and counts no silent one for it, is its reading (assumption log 12). -/
def Obligations.Frame_due_sends_and_polls : Prop :=
  ∀ (s : State) (l : LinkId), (s.link l).frameTimer = .running →
    (∀ r, (s.link l).window = some r → exec (.frameDue l) s = exec (.frameDue l) (s.windowSilent l)) ∧
    ((s.link l).window = none →
      ∃ t, exec (.frameDue l) s = .next t ∧ s.SameButLink t l ∧
        (t.link l).levelOut = levelFrame ((List.range' 1 512).map fun i => s.slot ((linkNumber l - 1) * 512 + i)) ∧
        (t.link l).rows = (s.link l).rows ∧ (t.link l).window = none ∧
        let order := (s.link l).pollOrder
        let waits (r : Nat) : Prop := (s.link l).lastPolled = some r ∧ r ∈ order ∧ 1 ≤ (s.row l r).wait ∧ (s.row l r).wait ≤ 7
        let promoted (r : Nat) : Bool := decide ((s.link l).lastPolled ≠ some r) &&
          ((s.row l r).pendingOrder.isSome || (s.row l r).news)
        let polls (r : Nat) : Prop :=
          (t.link l).lastPolled = some r ∧ (t.link l).polling = some r ∧
          (t.link l).carried = (s.row l r).pendingOrder.map PendingOrder.order ∧
          (t.link l).pollOrder = order.filter (fun x => x ≠ r) ++ [r] ∧
          (t.link l).pollOut = pollFrame r ((s.row l r).pendingOrder.map PendingOrder.order)
        (order = [] → (t.link l).lastPolled = (s.link l).lastPolled ∧ (t.link l).pollOrder = [] ∧ (t.link l).pollOut = []) ∧
        (∀ r, waits r → polls r) ∧
        ((∀ r, ¬ waits r) → ∀ r, order.find? promoted = some r → polls r) ∧
        ((∀ r, ¬ waits r) → order.find? promoted = none → ∀ r, order.head? = some r → polls r))

/-- The end of a poll frame opens the window for the polled rack (R146). A window expiry, a malformed reply and a reply from another rack close the window
and count the poll silent (R146, R153): the wait count becomes 0; a rack not LOST gains 1 silent, and at 3 is LOST with its lost notice; a LOST one stays.
A WAIT reply raises the wait count, and the eighth is a silent poll (R152). A frame with no window open is discarded. Nothing but that row and the
window changes.
The rack whose poll frame is being sent is a field of the model's own (assumption log 6); that the expiry of a window
that is not open changes nothing is its choice (assumption log 2), and so is the carried order's becoming absent as the window closes
(assumption log 24). -/
def Obligations.Silent_polls_and_waits : Prop :=
  ∀ (s : State) (l : LinkId) (r : Nat) (bytes : List Byte),
    let closed (row : RackRow) (t : State) : Prop := s.SameButLink t l ∧
      t.link l = { s.link l with window := none, carried := none, rows := (t.link l).rows } ∧
      ∀ r', t.row l r' = if r' = r then row else s.row l r'
    let w := s.row l r
    let silent : RackRow := if w.state = .lost then { w with wait := 0 }
      else if w.silent + 1 < 3 then { w with wait := 0, silent := w.silent + 1 }
      else { w with wait := 0, silent := 3, state := .lost, lostNotice := true }
    ((s.link l).polling = some r → ∃ t, exec (.pollFrameEnd l) s = .next t ∧ s.SameButLink t l ∧
      t.link l = { s.link l with window := some r, polling := none }) ∧
    ((s.link l).window = some r →
      (∃ t, exec (.windowExpiry l) s = .next t ∧ closed silent t) ∧
      (parseReply bytes = none → ∃ t, exec (.replyArrival l bytes) s = .next t ∧ closed silent t) ∧
      ∀ y, parseReply bytes = some y →
        (y.address ≠ r → ∃ t, exec (.replyArrival l bytes) s = .next t ∧ closed silent t) ∧
        (y.address = r → y.ready = false → ∃ t, exec (.replyArrival l bytes) s = .next t ∧
          closed (if w.wait + 1 < 8 then { w with wait := w.wait + 1 } else silent) t)) ∧
    ((s.link l).window = none → exec (.replyArrival l bytes) s = .next s ∧ exec (.windowExpiry l) s = .next s)

/-- A READY reply from the polled rack, to a poll that carried no order, with auto-transfer off: the row becomes ONLINE with its counts 0 and the reply's
thermal state, with the returned notice if it was LOST; each reported flag a detection mask lets through is set, with its new mark if it was
clear; each ORDINARY circuit of the rack moves from OK to SUSPECT, from SUSPECT to FAILED with role FAILED, or from SUSPECT to OK, by whether a
DIMMER-FAIL report names it; no other circuit changes, and nothing but the circuits and the link (R147, R148, R150, R151, R161).
With auto-transfer on or off: all flags are set first, then the circuits of the rack are judged in ascending index, each on what the ones before
it left, and one whose health reaches FAILED seeks its spare at its turn (R161 to R163). That the flags come before every judging is the
model's reading (assumption log 11); that the carried order becomes absent as the window closes is its choice (assumption log 24). -/
def Obligations.Ready_reply_updates_rack : Prop :=
  ∀ (s : State) (l : LinkId) (r : Nat) (y : ReplyFrame) (bytes : List Byte), rackOk r = true →
    (s.link l).window = some r → (s.link l).carried = none →
    parseReply bytes = some y → y.address = r → y.ready = true →
    let reported (i : Nat) (c : Circuit) (k : ReportKind) : FaultFlag :=
      if ⟨i, k⟩ ∈ y.reports ∧ c.takes k = true ∧ (c.flag k).isSet = false then ⟨true, true⟩ else c.flag k
    let linkAfter (t : State) (pending : Option PendingOrder) : Prop :=
      t = { s with circuits := t.circuits, links := t.links } ∧
      (∀ m, m ≠ l → t.link m = s.link m) ∧
      t.link l = { s.link l with window := none, carried := none, rows := (t.link l).rows } ∧
      (∀ r', r' ≠ r → t.row l r' = s.row l r') ∧
      t.row l r = { s.row l r with
        state := .online, silent := 0, wait := 0, thermal := y.thermal, news := (t.row l r).news, pendingOrder := pending
        returnedNotice := (s.row l r).returnedNotice || (s.row l r).state == .lost } ∧
      ((t.row l r).news = true ↔ (s.row l r).thermal ≠ y.thermal ∨
        ∃ i, 1 ≤ i ∧ i ≤ 32 ∧ ((t.circuit (circuitAt l r i)).health ≠ (s.circuit (circuitAt l r i)).health ∨
          ∃ k, ((s.circuit (circuitAt l r i)).flag k).isSet = false ∧ ((t.circuit (circuitAt l r i)).flag k).isSet = true)) ∧
      ∀ n, (∀ i, 1 ≤ i → i ≤ 32 → n ≠ circuitAt l r i) → t.circuit n = s.circuit n
    (s.rig.autoTransfer = false → ∃ t, exec (.replyArrival l bytes) s = .next t ∧ linkAfter t (s.row l r).pendingOrder ∧
      ∀ i, 1 ≤ i → i ≤ 32 →
        let c := s.circuit (circuitAt l r i)
        let c' := t.circuit (circuitAt l r i)
        let failing := (⟨i, .dimmerFail⟩ : Report) ∈ y.reports
        (∀ k, c'.flag k = reported i c k) ∧
        c'.health = (if c.role = .ordinary then
            match c.health with
            | .ok => if failing then .suspect else .ok
            | .suspect => if failing then .failed else .ok
            | .failed => .failed
          else c.health) ∧
        c'.role = (if c.role = .ordinary ∧ c.health = .suspect ∧ failing then .failed else c.role) ∧
        c'.pairing = c.pairing ∧ c'.resend = c.resend) ∧
    (s.Canonical → ∃ (t : State) (at_ : Nat → State), exec (.replyArrival l bytes) s = .next t ∧
      at_ 0 = { s with circuits := (at_ 0).circuits } ∧
      (∀ n, (∀ i, 1 ≤ i → i ≤ 32 → n ≠ circuitAt l r i) → (at_ 0).circuit n = s.circuit n) ∧
      (∀ i, 1 ≤ i → i ≤ 32 →
        let c := s.circuit (circuitAt l r i)
        (at_ 0).circuit (circuitAt l r i) = { c with
          openLoad := reported i c .openLoad, short := reported i c .short, dimmerFail := reported i c .dimmerFail }) ∧
      (∀ i, 1 ≤ i → i ≤ 32 →
        let u := at_ (i - 1)
        let n := circuitAt l r i
        let c := u.circuit n
        let judged (h : Health) : Prop := at_ i = { u with circuits := (at_ i).circuits } ∧
          ∀ m, (at_ i).circuit m = if m = n then { c with health := h } else u.circuit m
        let failing := (⟨i, .dimmerFail⟩ : Report) ∈ y.reports
        if c.role = .ordinary ∧ c.health = .suspect ∧ failing then u.Fails (at_ i) n
        else if c.role = .ordinary ∧ c.health ≠ .failed then judged (if failing then .suspect else .ok)
        else judged c.health) ∧
      linkAfter t ((at_ 32).row l r).pendingOrder ∧ ∀ n, t.circuit n = (at_ 32).circuit n)

/-- What a READY reply to a poll that carried an order does with that order while it is still pending (R149, R167, R168, R169, R177): acknowledged, the
order is removed and its changes are made at both ends and in the records of every bank; unacknowledged, the count rises, and the third time the
order is abandoned with its notice and the pairing goes back; a removed order makes room for the rack's owed order of lowest circuit index. From
there on, whatever it reports and whether auto-transfer is on, the reply does what the same reply does to a poll that carried no order, and an
acknowledged UNDO of a circuit whose health was not OK is news besides (R148). A reply whose poll carried an order that is no longer pending changes
no order (R170, R172). That the carried and the pending order are compared by value is the model's reading (assumption log 11); that the
carried order becomes absent as the window closes, on which both equalities rest, is its choice (assumption log 24). -/
def Obligations.Orders_are_acknowledged_or_abandoned : Prop :=
  ∀ (s : State) (l : LinkId) (r : Nat) (w : PendingOrder) (y : ReplyFrame) (bytes : List Byte), rackOk r = true →
    (s.link l).window = some r → parseReply bytes = some y → y.address = r → y.ready = true →
    let uncarried (u : State) : State := u.setLink l { u.link l with carried := none }
    ((s.row l r).pendingOrder.map PendingOrder.order ≠ (s.link l).carried ∨ (s.row l r).pendingOrder = none →
      exec (.replyArrival l bytes) s = exec (.replyArrival l bytes) (uncarried s)) ∧
    ((s.row l r).pendingOrder = some w → (s.link l).carried = some w.order →
      let failed := circuitAt l r w.order.circuitIndex
      let spare := circuitAt l r w.order.spareIndex
      failed ≠ spare →
      let f := s.circuit failed
      let p := s.circuit spare
      let acked := y.ack = some w.order
      ∃ u t t',
        u = { s with banks := u.banks, circuits := u.circuits, links := u.links } ∧ (∀ m, m ≠ l → u.link m = s.link m) ∧
        u.link l = { s.link l with rows := (u.link l).rows } ∧ (∀ r', r' ≠ r → u.row l r' = s.row l r') ∧
        (let ends (c c' : Circuit) : Prop :=
            ∀ n, u.circuit n = if n = failed then c else if n = spare then c' else s.circuit n
          let records (g : PatchRec → PatchRec) : Prop := ∀ b, u.bank b = (s.rewriteRecords g).bank b
          let next : Option PendingOrder := (u.owedOrders l r).head?.map fun o => ⟨o, 0⟩
          (acked → u.row l r = { s.row l r with pendingOrder := next }) ∧
          (acked → w.order.kind = .transfer → records (PatchRec.ontoSpare failed spare) ∧
            (f.pairing = .ordered spare →
              ends { f with pairing := .confirmed spare } { p with role := .spareInUse, pairing := .confirmed failed }) ∧
            (f.pairing = .confirmed spare → ends { f with resend := false } p)) ∧
          (acked → w.order.kind = .undo → records (PatchRec.backTo failed spare) ∧
            ends { f with role := .ordinary, health := .ok, pairing := .unpaired } { p with role := .spareFree, pairing := .unpaired }) ∧
          (¬ acked → u.banks = s.banks) ∧
          (¬ acked → w.unacknowledged + 1 < 3 → u.circuits = s.circuits ∧
            u.row l r = { s.row l r with pendingOrder := some { w with unacknowledged := w.unacknowledged + 1 } }) ∧
          (¬ acked → 3 ≤ w.unacknowledged + 1 →
            u.row l r = { s.row l r with pendingOrder := next, abandonedNotice := true } ∧
            (w.order.kind = .transfer → f.pairing = .ordered spare →
              ends { f with pairing := .unpaired } { p with role := .spareFree, pairing := .unpaired }) ∧
            (w.order.kind = .transfer → f.pairing = .confirmed spare → ends { f with resend := false } p) ∧
            (w.order.kind = .undo → ends { f with pairing := .confirmed spare } { p with pairing := .confirmed failed }))) ∧
        exec (.replyArrival l bytes) s = .next t ∧ exec (.replyArrival l bytes) (uncarried u) = .next t' ∧
        t = { t' with links := t.links } ∧ (∀ m, m ≠ l → t.link m = t'.link m) ∧
        t.link l = { t'.link l with rows := (t.link l).rows } ∧
        ∀ r', t.row l r' = if r' = r then { t'.row l r with
          news := (t'.row l r).news || (decide acked && w.order.kind == .undo && f.health != .ok) } else t'.row l r')

/-- RACK-SET with the rig lock clear makes a rack present at the end of the poll order, or not present where it owes no order, with its state, counts,
thermal state and news set back and its notices and pending order kept; a rack taken out is last polled and windowed no more; the present
value again changes nothing; with an order owed, taking out is refused with CONFLICT. A link outside 1 to 4, a rack outside 1 to 16 and a
present byte other than 0 and 1 are refused with RANGE, locked or not (R154).
That a poll frame still being sent to a rack taken out opens no window is the model's reading (assumption log 7); the
widths of the data are in part its choice (assumption log 4), and so is the carried order's becoming absent with the window (assumption
log 24). -/
def Obligations.Rack_set_configures : Prop :=
  ∀ (s : State) (ln rk v : Byte),
    (ln = 0 ∨ 4 < ln.toNat ∨ rackOk rk.toNat = false ∨ 1 < v.toNat →
      s.Serves .rackSet .rackSet [ln, rk, v] (.refuse .range) s.SameButPorts) ∧
    ∀ l : LinkId, linkOfNumber ln.toNat = some l → rackOk rk.toNat = true → s.rig.locked = false →
    let r := rk.toNat
    let fresh (on : Bool) : RackRow := { s.row l r with
      present := on, state := .unpolled, silent := 0, wait := 0, thermal := .normal, news := false }
    let sets (k : Link) (row : RackRow) (t : State) : Prop :=
      t = { s with links := t.links, ports := t.ports, servedLast := t.servedLast } ∧ (∀ m, m ≠ l → t.link m = s.link m) ∧
      t.link l = { k with rows := (t.link l).rows } ∧ ∀ r', t.row l r' = if r' = r then row else s.row l r'
    (v = 1 → (s.row l r).present = false →
      let k : Link := { s.link l with pollOrder := (s.link l).pollOrder ++ [r] }
      s.Serves .rackSet .rackSet [ln, rk, v] (.done 0 (rackData { k with rows := [(r, fresh true)] } r)) (sets k (fresh true))) ∧
    (v = 0 → (s.row l r).present = true → s.owedOrders l r = [] →
      let k : Link := { s.link l with
        pollOrder := (s.link l).pollOrder.filter fun x => x ≠ r
        lastPolled := if (s.link l).lastPolled = some r then none else (s.link l).lastPolled
        window := if (s.link l).window = some r then none else (s.link l).window
        carried := if (s.link l).window = some r ∨ (s.link l).polling = some r then none else (s.link l).carried
        polling := if (s.link l).polling = some r then none else (s.link l).polling }
      s.Serves .rackSet .rackSet [ln, rk, v] (.done 0 (rackData { k with rows := [(r, fresh false)] } r)) (sets k (fresh false))) ∧
    (v = 0 → s.owedOrders l r ≠ [] → s.Serves .rackSet .rackSet [ln, rk, v] (.refuse .conflict) s.SameButPorts) ∧
    ((v = 1 ∧ (s.row l r).present = true) ∨ (v = 0 ∧ (s.row l r).present = false ∧ s.owedOrders l r = []) →
      s.Serves .rackSet .rackSet [ln, rk, v] (.done 0 (rackData (s.link l) r)) s.SameButPorts)

/-! ### Spares, faults, status -/

/-- REASSIGN pairs an ORDINARY circuit, or a FAILED one with no pairing, with a SPARE-FREE circuit of its rack, the circuit FAILED and the spare SPARE-HELD,
whatever the reserve; the automatic choice takes the rack's lowest eligible spare while the rig-wide count exceeds the reserve, and else sets the
DIMMER-FAIL new mark; the TRANSFER is placed if the rack has no pending order (R160 to R165). REASSIGN of a circuit that is neither of the two, to one
that is not SPARE-FREE, or to one of another rack is refused with CONFLICT, and of or to a circuit outside 1 to 2048 with RANGE (R164), as
is RESTORE of one (R171). RESTORE of a FAILED circuit with a CONFIRMED pairing makes the
pairing RESTORING at both ends, and its UNDO replaces the circuit's own pending re-send, is placed, or waits; of any other circuit it is refused
with CONFLICT (R171, R172). The answers name the order and whether it was placed, and else its position among the rack's waiting orders,
which counts those of lower circuit index before it (R165, R172); the bytes of that data are the model's choice (assumption log 4). -/
def Obligations.Pairing_requests : Prop :=
  ∀ (s : State) (c1 c0 p1 p0 : Byte),
    let n := word c1 c0
    let sp := word p1 p0
    let c := s.circuit n
    let order (kind : OrderKind) (m : Nat) : Order := ⟨kind, indexOf n, indexOf m⟩
    let pending := (s.row (linkOf n) (rackOf n)).pendingOrder
    let changes (f p : Circuit) (m : Nat) (w : Option PendingOrder) (t : State) : Prop :=
      t = { s with circuits := t.circuits, links := t.links, ports := t.ports, servedLast := t.servedLast } ∧
      (∀ x, t.circuit x = if x = n then f else if x = m then p else s.circuit x) ∧
      (∀ l, t.link l = { s.link l with rows := (t.link l).rows }) ∧
      ∀ l r, t.row l r = if l = linkOf n ∧ r = rackOf n then { s.row l r with pendingOrder := w } else s.row l r
    let placed (o : Order) : Option PendingOrder := if pending = none then some ⟨o, 0⟩ else pending
    let answer (o : Order) (w : Option PendingOrder) : List Byte :=
      enc1 o.kind.code ++ enc1 o.circuitIndex ++ enc1 o.spareIndex ++
        (if w = some ⟨o, 0⟩ then [1]
        else 0 :: enc2 (1 + (s.waitingOrders (linkOf n) (rackOf n)).countP fun x => decide (x.circuitIndex < indexOf n)))
    (circuitOk n = false ∨ circuitOk sp = false →
      s.Serves .reassign .reassign [c1, c0, p1, p0] (.refuse .range) s.SameButPorts) ∧
    (circuitOk n = false → s.Serves .restore .restore [c1, c0] (.refuse .range) s.SameButPorts) ∧
    (circuitOk n = true → circuitOk sp = true → s.rig.locked = false →
      (c.role = .ordinary ∨ (c.role = .failed ∧ c.pairing = .unpaired)) → (s.circuit sp).role = .spareFree →
      linkOf n = linkOf sp → rackOf n = rackOf sp →
      ∃ y, ((∀ w, pending = some w → w.order.circuitIndex ≠ indexOf n) →
          y = answer (order .transfer sp) (placed (order .transfer sp))) ∧
        s.Serves .reassign .reassign [c1, c0, p1, p0] (.done 0 y) (changes { c with role := .failed, pairing := .ordered sp, health := if c.role = .ordinary then .failed else c.health }
          { s.circuit sp with role := .spareHeld, pairing := .ordered n } sp (placed (order .transfer sp)))) ∧
    (circuitOk n = true → circuitOk sp = true → s.rig.locked = false →
      ¬ ((c.role = .ordinary ∨ (c.role = .failed ∧ c.pairing = .unpaired)) ∧ (s.circuit sp).role = .spareFree ∧
        linkOf n = linkOf sp ∧ rackOf n = rackOf sp) →
      s.Serves .reassign .reassign [c1, c0, p1, p0] (.refuse .conflict) s.SameButPorts) ∧
    (circuitOk n = true → s.rig.locked = false → ¬ (c.role = .failed ∧ ∃ m, c.pairing = .confirmed m) →
      s.Serves .restore .restore [c1, c0] (.refuse .conflict) s.SameButPorts) ∧
    (∀ m, circuitOk n = true → s.rig.locked = false → c.role = .failed → c.pairing = .confirmed m → m ≠ n →
      let next : Option PendingOrder := match pending with
        | none => some ⟨order .undo m, 0⟩
        | some w => if w.order.kind = .transfer ∧ w.order.circuitIndex = indexOf n then some ⟨order .undo m, 0⟩ else some w
      ∃ y, ((∀ w, pending = some w → w.order.circuitIndex = indexOf n → w.order.kind = .transfer) →
          (s.circuit m).role ≠ .failed → y = answer (order .undo m) next) ∧
        s.Serves .restore .restore [c1, c0] (.done 0 y)
          (changes { c with pairing := .restoring m, resend := false } { s.circuit m with pairing := .restoring n } m next)) ∧
    (s.Canonical → s.rig.autoTransfer = true → c.role = .ordinary ∨ c.role = .failed →
      let candidate := ((List.range' 1 32).map (circuitAt (linkOf n) (rackOf n))).find? fun x =>
        (s.circuit x).role == .spareFree && !(s.circuit x).dimmerFail.isSet
      (∀ m, candidate = some m → s.rig.spareReserve < s.eligibleSpares →
        changes { c with role := .failed, health := .failed, pairing := .ordered m }
          { s.circuit m with role := .spareHeld, pairing := .ordered n } m (placed (order .transfer m)) (s.confirmFailure n)) ∧
      (candidate = none ∨ s.eligibleSpares ≤ s.rig.spareReserve →
        changes { c with role := .failed, health := .failed, dimmerFail := { c.dimmerFail with isNew := true } } c n pending
          (s.confirmFailure n)))

/-- FAULT-CLEAR clears the three flags and marks of its circuit, or of every circuit for 0, and counts the circuits that had a flag; a circuit
above 2048 is refused with RANGE. STATUS-ACK clears the restart flag, every rack notice, every playback flag and every new mark, and no fault
flag or other field; it counts the racks that had a notice, and its data gives, as they stood, the restart flag, the racks with each notice,
the circuits with new marks and both flags of each playback. The attention line, asserted while the restart flag, a new mark or a notice
stands, falls with it (R35, R156, R193, R194). The widths in that data and the order of the three counts are the model's choice
(assumption log 4). -/
def Obligations.Faults_status_and_attention : Prop :=
  ∀ (s : State) (c1 c0 : Byte), s.Canonical →
    let n := word c1 c0
    let marked (c : Circuit) (mark : FaultFlag → FaultFlag) : Circuit :=
      { c with openLoad := mark c.openLoad, short := mark c.short, dimmerFail := mark c.dimmerFail }
    let clear (c : Circuit) : Circuit := marked c fun _ => ⟨false, false⟩
    let racks (has : RackRow → Bool) : Nat :=
      ([LinkId.a, .b, .c, .d].map fun l => (List.range' 1 16).countP fun r => has (s.row l r)).sum
    (circuitOk n = true → s.Serves .faultClear .faultClear [c1, c0] (.done (if (s.circuit n).anyFlag then 1 else 0) []) fun t =>
      s.SameButCircuits t ∧ ∀ m, t.circuit m = if m = n then clear (s.circuit m) else s.circuit m) ∧
    s.Serves .faultClear .faultClear [0, 0] (.done ((List.range' 1 2048).countP fun m => (s.circuit m).anyFlag) []) (fun t =>
      s.SameButCircuits t ∧ ∀ m, t.circuit m = clear (s.circuit m)) ∧
    (2048 < n → s.Serves .faultClear .faultClear [c1, c0] (.refuse .range) s.SameButPorts) ∧
    s.Serves .statusAck .statusAck []
      (.done (racks fun w => w.lostNotice || w.returnedNotice || w.abandonedNotice)
        (encBool s.restartFlag ++ enc2 (racks RackRow.lostNotice) ++ enc2 (racks RackRow.returnedNotice) ++
          enc2 (racks RackRow.abandonedNotice) ++
          enc2 ((List.range' 1 2048).countP fun m =>
            (s.circuit m).openLoad.isNew || (s.circuit m).short.isNew || (s.circuit m).dimmerFail.isNew) ++
          ((List.range' 1 8).map fun p => encBool (s.playback p).followMissed ++ encBool (s.playback p).forced).flatten))
      (fun t =>
        t = { s with playbacks := t.playbacks, circuits := t.circuits, links := t.links, restartFlag := false, ports := t.ports,
                     servedLast := t.servedLast } ∧
        (∀ p, t.playback p = { s.playback p with followMissed := false, forced := false }) ∧
        (∀ m, t.circuit m = marked (s.circuit m) fun f => { f with isNew := false }) ∧
        (∀ l, t.link l = { s.link l with rows := (t.link l).rows }) ∧
        (∀ l r, t.row l r = { s.row l r with lostNotice := false, returnedNotice := false, abandonedNotice := false }) ∧
        t.attention = false) ∧
    (s.attention = true ↔ s.restartFlag = true ∨ (∃ m k, circuitOk m = true ∧ ((s.circuit m).flag k).isNew = true) ∨
      ∃ l r, rackOk r = true ∧ ((s.row l r).lostNotice = true ∨ (s.row l r).returnedNotice = true ∨
        (s.row l r).abandonedNotice = true))

/-- Power-on with retention lost leaves the state of a new part but for the reset line's level. With retention kept, the records, looks, live bank, circuits,
curves, rig settings and present fields stand, every bank and the rig are locked, every CONFIRMED FAILED circuit has its re-send mark, the racks present
stand in the poll order in rising number, each rack holds its owed order of lowest circuit index, and all else is as at reset (R2, R3, R43, R48, R62, R96,
R103, R122, R134, R137, R138, R159, R176, R183, R195).
Of the values after it these are the model's choice: the reset line's level, which stands, and the links' empty bytes (assumption log 1),
with no poll frame being sent (assumption log 6); start, target and part of every entry (assumption log 15); the carried order's being
absent (assumption log 24); and the queue of commands, which stands (assumption log 16). -/
def Obligations.Power_on : Prop :=
  (∀ (s : State) (held agrees : Bool), (held && agrees) = false →
    exec (.powerOn held agrees) s = .next { State.reset with resetLine := s.resetLine, pending := s.pending }) ∧
  ∀ s : State, ∃ t, exec (.powerOn true true) s = .next t ∧
    t = { State.reset with
      banks := t.banks, liveBank := s.liveBank, circuits := t.circuits, rig := { s.rig with locked := true }, curves := s.curves,
      links := t.links, resetLine := s.resetLine, retention := .retained, pending := s.pending } ∧
    (∀ b, t.bank b = { s.bank b with locked := true }) ∧
    (∀ n, t.circuit n = { s.circuit n with resend := (t.circuit n).resend }) ∧
    (∀ n, (t.circuit n).resend = true ↔ (s.circuit n).role = .failed ∧ ∃ m, (s.circuit n).pairing = .confirmed m) ∧
    (∀ l, t.link l = { Link.initial with
      pollOrder := (List.range' 1 16).filter (fun r => (s.row l r).present), rows := (t.link l).rows }) ∧
    ∀ l r, rackOk r = true → t.row l r = { RackRow.initial with
      present := (s.row l r).present, pendingOrder := (t.owedOrders l r).head?.map fun o => ⟨o, 0⟩ }
end

