-- ==== Sys2Proof/Laws/Table.lean ====
section
/-!
SUPPORT. What reading and writing a sparse table do, each said once: a read after a write, a read after a change of
every listed value, and that every write gives the canonical form.
-/

namespace Sys2Proof

variable {α : Type}

theorem Tbl.get_insert_self (d : α) (t : Tbl α) (k : Nat) (v : α) (h : ∀ e ∈ t, e.1 ≠ k) :
    Tbl.get d (t.insert k v) k = v := by
  induction t with
  | nil => simp [Tbl.insert, Tbl.get]
  | cons e t ih =>
    obtain ⟨n, w⟩ := e
    have hn : n ≠ k := h (n, w) List.mem_cons_self
    have := ih fun e he => h e (by simp [he])
    by_cases hk : k < n <;> simp [Tbl.insert, Tbl.get, hk, hn, this]

theorem Tbl.get_insert_other (d : α) (t : Tbl α) {k j : Nat} (v : α) (h : k ≠ j) :
    Tbl.get d (t.insert k v) j = Tbl.get d t j := by
  induction t with
  | nil => simp [Tbl.insert, Tbl.get, h]
  | cons e t ih =>
    obtain ⟨n, w⟩ := e
    by_cases hk : k < n <;> simp [Tbl.insert, Tbl.get, hk, h, ih]

theorem Tbl.get_erase_self (d : α) (t : Tbl α) (k : Nat) : Tbl.get d (t.erase k) k = d := by
  induction t with
  | nil => simp [Tbl.erase, Tbl.get]
  | cons e t ih =>
    obtain ⟨n, w⟩ := e
    by_cases hn : n = k
    · simpa [Tbl.erase, hn] using ih
    · simpa [Tbl.erase, Tbl.get, hn] using ih

theorem Tbl.get_erase_other (d : α) (t : Tbl α) {k j : Nat} (h : k ≠ j) :
    Tbl.get d (t.erase k) j = Tbl.get d t j := by
  induction t with
  | nil => simp [Tbl.erase, Tbl.get]
  | cons e t ih =>
    obtain ⟨n, w⟩ := e
    by_cases hn : n = k
    · have hj : n ≠ j := fun e => h (hn.symm.trans e)
      simpa [Tbl.erase, Tbl.get, hn, hj, h] using ih
    · simp only [Tbl.erase, ne_eq, List.filter_cons, hn, not_false_eq_true, decide_true, ite_true, Tbl.get]
      split
      · rfl
      · simpa [Tbl.erase] using ih

theorem Tbl.ne_of_mem_erase {t : Tbl α} {k : Nat} {e : Nat × α} (h : e ∈ t.erase k) : e.1 ≠ k := by
  simpa using (List.mem_filter.mp h).2

/-- A read after a write: the value written at its number, the old value at every other. -/
@[simp] theorem Tbl.get_set [DecidableEq α] (d : α) (t : Tbl α) (k j : Nat) (v : α) :
    Tbl.get d (t.set d k v) j = if k = j then v else Tbl.get d t j := by
  unfold Tbl.set
  by_cases hv : v = d <;> by_cases hk : k = j
  · subst hk; simp [hv, Tbl.get_erase_self]
  · simp [hv, hk, Tbl.get_erase_other]
  · subst hk; simp [hv, Tbl.get_insert_self d _ k v fun e he => Tbl.ne_of_mem_erase he]
  · simp [hv, hk, Tbl.get_insert_other, Tbl.get_erase_other]

/-- A read gives what an unlisted number holds, or a listed value. -/
theorem Tbl.get_cases (d : α) (t : Tbl α) (k : Nat) : t.get d k = d ∨ (k, t.get d k) ∈ t := by
  induction t with
  | nil => exact .inl rfl
  | cons e t ih =>
    obtain ⟨n, v⟩ := e
    unfold Tbl.get
    split
    · rename_i h; exact .inr (h ▸ List.mem_cons_self)
    · exact ih.imp_right (List.mem_cons_of_mem _)

@[simp] theorem Tbl.get_nil (d : α) (k : Nat) : Tbl.get d [] k = d := rfl

@[simp] theorem Tbl.get_canon [DecidableEq α] (d : α) (t : Tbl α) (k : Nat) :
    Tbl.get d (t.canon d) k = Tbl.get d t k := by
  induction t with
  | nil => rfl
  | cons e t ih => obtain ⟨n, w⟩ := e; simp [Tbl.canon, Tbl.get, ih]

theorem Tbl.get_map (d : α) (f : Nat → α → α) (t : Tbl α) (k : Nat) (h : f k d = d) :
    Tbl.get d (t.map fun e => (e.1, f e.1 e.2)) k = f k (Tbl.get d t k) := by
  induction t with
  | nil => simp [Tbl.get, h]
  | cons e t ih =>
    obtain ⟨n, w⟩ := e
    by_cases hn : n = k
    · simp [Tbl.get, hn]
    · simpa [Tbl.get, hn] using ih

/-- A read after a change of every listed value, for a change that leaves an unlisted number as it is. -/
theorem Tbl.get_mapVals [DecidableEq α] (d : α) (f : Nat → α → α) (t : Tbl α) (k : Nat) (h : f k d = d) :
    Tbl.get d (t.mapVals d f) k = f k (Tbl.get d t k) := by
  simp [Tbl.mapVals, Tbl.get_map d f t k h]

theorem Tbl.mem_insert {t : Tbl α} {k : Nat} {v : α} {e : Nat × α} (h : e ∈ t.insert k v) :
    e = (k, v) ∨ e ∈ t := by
  induction t with
  | nil => simpa [Tbl.insert] using h
  | cons x t ih =>
    obtain ⟨n, w⟩ := x
    by_cases hk : k < n
    · simpa [Tbl.insert, hk] using h
    · simp only [Tbl.insert, hk, ite_false, List.mem_cons] at h ⊢
      rcases h with h | h
      · exact .inr (.inl h)
      · rcases ih h with h | h
        · exact .inl h
        · exact .inr (.inr h)

theorem Tbl.sorted_insert {t : Tbl α} {k : Nat} (v : α) (hs : t.Pairwise fun e e' => e.1 < e'.1)
    (hk : ∀ e ∈ t, e.1 ≠ k) : (t.insert k v).Pairwise fun e e' => e.1 < e'.1 := by
  induction t with
  | nil => simp [Tbl.insert]
  | cons x t ih =>
    obtain ⟨n, w⟩ := x
    have hn : n ≠ k := hk (n, w) List.mem_cons_self
    rw [List.pairwise_cons] at hs
    by_cases h : k < n
    · simp only [Tbl.insert, h, ite_true, List.pairwise_cons, List.mem_cons]
      exact ⟨fun e he => by
        rcases he with rfl | he
        · exact h
        · exact h.trans (hs.1 e he), hs⟩
    · simp only [Tbl.insert, h, ite_false, List.pairwise_cons]
      refine ⟨fun e he => ?_, ih hs.2 fun e he => hk e (by simp [he])⟩
      rcases Tbl.mem_insert he with rfl | he
      · show n < k; omega
      · exact hs.1 e he

/-- A write keeps the canonical form. -/
theorem Tbl.Canonical.set [DecidableEq α] {d : α} {t : Tbl α} (h : t.Canonical d) (k : Nat) (v : α) :
    (t.set d k v).Canonical d := by
  have he : (t.erase k).Canonical d :=
    ⟨h.1.filter _, fun e he => h.2 e (List.mem_filter.mp he).1⟩
  unfold Tbl.set
  by_cases hv : v = d
  · simpa [hv] using he
  · simp only [hv, ite_false]
    refine ⟨Tbl.sorted_insert v he.1 fun e he => Tbl.ne_of_mem_erase he, fun e hm => ?_⟩
    rcases Tbl.mem_insert hm with rfl | hm
    · exact hv
    · exact he.2 e hm

theorem Tbl.Canonical.nil [DecidableEq α] (d : α) : Tbl.Canonical d ([] : Tbl α) := by simp [Tbl.Canonical]

/-- The canonical listing is canonical, whatever was listed. -/
theorem Tbl.canonical_canon [DecidableEq α] (d : α) (t : Tbl α) : (t.canon d).Canonical d := by
  induction t with
  | nil => exact Tbl.Canonical.nil d
  | cons e t ih => exact ih.set _ _

theorem Tbl.canonical_mapVals [DecidableEq α] (d : α) (f : Nat → α → α) (t : Tbl α) :
    (t.mapVals d f).Canonical d := Tbl.canonical_canon d _

end Sys2Proof
end

