-- ==== Sys2Proof/Laws/State.lean ====
section
/-!
SUPPORT. Every field after every write of the state, and every collection's read after every write: one lemma for each, so that no later
proof unfolds a record update.
-/

namespace Sys2Proof.Machine

variable (s : State)

/-! ### Fields -/

@[simp] theorem State.setBank_liveBank (b : Nat) (v : Bank) : (s.setBank b v).liveBank = s.liveBank := rfl
@[simp] theorem State.setBank_circuits (b : Nat) (v : Bank) : (s.setBank b v).circuits = s.circuits := rfl
@[simp] theorem State.setBank_rig (b : Nat) (v : Bank) : (s.setBank b v).rig = s.rig := rfl
@[simp] theorem State.setBank_curves (b : Nat) (v : Bank) : (s.setBank b v).curves = s.curves := rfl
@[simp] theorem State.setBank_playbacks (b : Nat) (v : Bank) : (s.setBank b v).playbacks = s.playbacks := rfl
@[simp] theorem State.setBank_fades (b : Nat) (v : Bank) : (s.setBank b v).fades = s.fades := rfl
@[simp] theorem State.setBank_fadeTimer (b : Nat) (v : Bank) : (s.setBank b v).fadeTimer = s.fadeTimer := rfl
@[simp] theorem State.setBank_captures (b : Nat) (v : Bank) : (s.setBank b v).captures = s.captures := rfl
@[simp] theorem State.setBank_grandmaster (b : Nat) (v : Bank) : (s.setBank b v).grandmaster = s.grandmaster := rfl
@[simp] theorem State.setBank_blackout (b : Nat) (v : Bank) : (s.setBank b v).blackout = s.blackout := rfl
@[simp] theorem State.setBank_changeover (b : Nat) (v : Bank) : (s.setBank b v).changeover = s.changeover := rfl
@[simp] theorem State.setBank_links (b : Nat) (v : Bank) : (s.setBank b v).links = s.links := rfl
@[simp] theorem State.setBank_ports (b : Nat) (v : Bank) : (s.setBank b v).ports = s.ports := rfl
@[simp] theorem State.setBank_servedLast (b : Nat) (v : Bank) : (s.setBank b v).servedLast = s.servedLast := rfl
@[simp] theorem State.setBank_resetLine (b : Nat) (v : Bank) : (s.setBank b v).resetLine = s.resetLine := rfl
@[simp] theorem State.setBank_restartFlag (b : Nat) (v : Bank) : (s.setBank b v).restartFlag = s.restartFlag := rfl
@[simp] theorem State.setBank_retention (b : Nat) (v : Bank) : (s.setBank b v).retention = s.retention := rfl
@[simp] theorem State.setBank_pending (b : Nat) (v : Bank) : (s.setBank b v).pending = s.pending := rfl
@[simp] theorem State.setCircuit_banks (n : Nat) (v : Circuit) : (s.setCircuit n v).banks = s.banks := rfl
@[simp] theorem State.setCircuit_liveBank (n : Nat) (v : Circuit) : (s.setCircuit n v).liveBank = s.liveBank := rfl
@[simp] theorem State.setCircuit_rig (n : Nat) (v : Circuit) : (s.setCircuit n v).rig = s.rig := rfl
@[simp] theorem State.setCircuit_curves (n : Nat) (v : Circuit) : (s.setCircuit n v).curves = s.curves := rfl
@[simp] theorem State.setCircuit_playbacks (n : Nat) (v : Circuit) : (s.setCircuit n v).playbacks = s.playbacks := rfl
@[simp] theorem State.setCircuit_fades (n : Nat) (v : Circuit) : (s.setCircuit n v).fades = s.fades := rfl
@[simp] theorem State.setCircuit_fadeTimer (n : Nat) (v : Circuit) : (s.setCircuit n v).fadeTimer = s.fadeTimer := rfl
@[simp] theorem State.setCircuit_captures (n : Nat) (v : Circuit) : (s.setCircuit n v).captures = s.captures := rfl
@[simp] theorem State.setCircuit_grandmaster (n : Nat) (v : Circuit) : (s.setCircuit n v).grandmaster = s.grandmaster := rfl
@[simp] theorem State.setCircuit_blackout (n : Nat) (v : Circuit) : (s.setCircuit n v).blackout = s.blackout := rfl
@[simp] theorem State.setCircuit_changeover (n : Nat) (v : Circuit) : (s.setCircuit n v).changeover = s.changeover := rfl
@[simp] theorem State.setCircuit_links (n : Nat) (v : Circuit) : (s.setCircuit n v).links = s.links := rfl
@[simp] theorem State.setCircuit_ports (n : Nat) (v : Circuit) : (s.setCircuit n v).ports = s.ports := rfl
@[simp] theorem State.setCircuit_servedLast (n : Nat) (v : Circuit) : (s.setCircuit n v).servedLast = s.servedLast := rfl
@[simp] theorem State.setCircuit_resetLine (n : Nat) (v : Circuit) : (s.setCircuit n v).resetLine = s.resetLine := rfl
@[simp] theorem State.setCircuit_restartFlag (n : Nat) (v : Circuit) : (s.setCircuit n v).restartFlag = s.restartFlag := rfl
@[simp] theorem State.setCircuit_retention (n : Nat) (v : Circuit) : (s.setCircuit n v).retention = s.retention := rfl
@[simp] theorem State.setCircuit_pending (n : Nat) (v : Circuit) : (s.setCircuit n v).pending = s.pending := rfl
@[simp] theorem State.setCurve_banks (n : Nat) (v : List Nat) : (s.setCurve n v).banks = s.banks := rfl
@[simp] theorem State.setCurve_liveBank (n : Nat) (v : List Nat) : (s.setCurve n v).liveBank = s.liveBank := rfl
@[simp] theorem State.setCurve_circuits (n : Nat) (v : List Nat) : (s.setCurve n v).circuits = s.circuits := rfl
@[simp] theorem State.setCurve_rig (n : Nat) (v : List Nat) : (s.setCurve n v).rig = s.rig := rfl
@[simp] theorem State.setCurve_playbacks (n : Nat) (v : List Nat) : (s.setCurve n v).playbacks = s.playbacks := rfl
@[simp] theorem State.setCurve_fades (n : Nat) (v : List Nat) : (s.setCurve n v).fades = s.fades := rfl
@[simp] theorem State.setCurve_fadeTimer (n : Nat) (v : List Nat) : (s.setCurve n v).fadeTimer = s.fadeTimer := rfl
@[simp] theorem State.setCurve_captures (n : Nat) (v : List Nat) : (s.setCurve n v).captures = s.captures := rfl
@[simp] theorem State.setCurve_grandmaster (n : Nat) (v : List Nat) : (s.setCurve n v).grandmaster = s.grandmaster := rfl
@[simp] theorem State.setCurve_blackout (n : Nat) (v : List Nat) : (s.setCurve n v).blackout = s.blackout := rfl
@[simp] theorem State.setCurve_changeover (n : Nat) (v : List Nat) : (s.setCurve n v).changeover = s.changeover := rfl
@[simp] theorem State.setCurve_links (n : Nat) (v : List Nat) : (s.setCurve n v).links = s.links := rfl
@[simp] theorem State.setCurve_ports (n : Nat) (v : List Nat) : (s.setCurve n v).ports = s.ports := rfl
@[simp] theorem State.setCurve_servedLast (n : Nat) (v : List Nat) : (s.setCurve n v).servedLast = s.servedLast := rfl
@[simp] theorem State.setCurve_resetLine (n : Nat) (v : List Nat) : (s.setCurve n v).resetLine = s.resetLine := rfl
@[simp] theorem State.setCurve_restartFlag (n : Nat) (v : List Nat) : (s.setCurve n v).restartFlag = s.restartFlag := rfl
@[simp] theorem State.setCurve_retention (n : Nat) (v : List Nat) : (s.setCurve n v).retention = s.retention := rfl
@[simp] theorem State.setCurve_pending (n : Nat) (v : List Nat) : (s.setCurve n v).pending = s.pending := rfl
@[simp] theorem State.setRig_banks (v : Rig) : (s.setRig v).banks = s.banks := rfl
@[simp] theorem State.setRig_liveBank (v : Rig) : (s.setRig v).liveBank = s.liveBank := rfl
@[simp] theorem State.setRig_circuits (v : Rig) : (s.setRig v).circuits = s.circuits := rfl
@[simp] theorem State.setRig_rig (v : Rig) : (s.setRig v).rig = v := rfl
@[simp] theorem State.setRig_curves (v : Rig) : (s.setRig v).curves = s.curves := rfl
@[simp] theorem State.setRig_playbacks (v : Rig) : (s.setRig v).playbacks = s.playbacks := rfl
@[simp] theorem State.setRig_fades (v : Rig) : (s.setRig v).fades = s.fades := rfl
@[simp] theorem State.setRig_fadeTimer (v : Rig) : (s.setRig v).fadeTimer = s.fadeTimer := rfl
@[simp] theorem State.setRig_captures (v : Rig) : (s.setRig v).captures = s.captures := rfl
@[simp] theorem State.setRig_grandmaster (v : Rig) : (s.setRig v).grandmaster = s.grandmaster := rfl
@[simp] theorem State.setRig_blackout (v : Rig) : (s.setRig v).blackout = s.blackout := rfl
@[simp] theorem State.setRig_changeover (v : Rig) : (s.setRig v).changeover = s.changeover := rfl
@[simp] theorem State.setRig_links (v : Rig) : (s.setRig v).links = s.links := rfl
@[simp] theorem State.setRig_ports (v : Rig) : (s.setRig v).ports = s.ports := rfl
@[simp] theorem State.setRig_servedLast (v : Rig) : (s.setRig v).servedLast = s.servedLast := rfl
@[simp] theorem State.setRig_resetLine (v : Rig) : (s.setRig v).resetLine = s.resetLine := rfl
@[simp] theorem State.setRig_restartFlag (v : Rig) : (s.setRig v).restartFlag = s.restartFlag := rfl
@[simp] theorem State.setRig_retention (v : Rig) : (s.setRig v).retention = s.retention := rfl
@[simp] theorem State.setRig_pending (v : Rig) : (s.setRig v).pending = s.pending := rfl
@[simp] theorem State.setPlayback_banks (p : Nat) (v : Playback) : (s.setPlayback p v).banks = s.banks := rfl
@[simp] theorem State.setPlayback_liveBank (p : Nat) (v : Playback) : (s.setPlayback p v).liveBank = s.liveBank := rfl
@[simp] theorem State.setPlayback_circuits (p : Nat) (v : Playback) : (s.setPlayback p v).circuits = s.circuits := rfl
@[simp] theorem State.setPlayback_rig (p : Nat) (v : Playback) : (s.setPlayback p v).rig = s.rig := rfl
@[simp] theorem State.setPlayback_curves (p : Nat) (v : Playback) : (s.setPlayback p v).curves = s.curves := rfl
@[simp] theorem State.setPlayback_fades (p : Nat) (v : Playback) : (s.setPlayback p v).fades = s.fades := rfl
@[simp] theorem State.setPlayback_fadeTimer (p : Nat) (v : Playback) : (s.setPlayback p v).fadeTimer = s.fadeTimer := rfl
@[simp] theorem State.setPlayback_captures (p : Nat) (v : Playback) : (s.setPlayback p v).captures = s.captures := rfl
@[simp] theorem State.setPlayback_grandmaster (p : Nat) (v : Playback) : (s.setPlayback p v).grandmaster = s.grandmaster := rfl
@[simp] theorem State.setPlayback_blackout (p : Nat) (v : Playback) : (s.setPlayback p v).blackout = s.blackout := rfl
@[simp] theorem State.setPlayback_changeover (p : Nat) (v : Playback) : (s.setPlayback p v).changeover = s.changeover := rfl
@[simp] theorem State.setPlayback_links (p : Nat) (v : Playback) : (s.setPlayback p v).links = s.links := rfl
@[simp] theorem State.setPlayback_ports (p : Nat) (v : Playback) : (s.setPlayback p v).ports = s.ports := rfl
@[simp] theorem State.setPlayback_servedLast (p : Nat) (v : Playback) : (s.setPlayback p v).servedLast = s.servedLast := rfl
@[simp] theorem State.setPlayback_resetLine (p : Nat) (v : Playback) : (s.setPlayback p v).resetLine = s.resetLine := rfl
@[simp] theorem State.setPlayback_restartFlag (p : Nat) (v : Playback) : (s.setPlayback p v).restartFlag = s.restartFlag := rfl
@[simp] theorem State.setPlayback_retention (p : Nat) (v : Playback) : (s.setPlayback p v).retention = s.retention := rfl
@[simp] theorem State.setPlayback_pending (p : Nat) (v : Playback) : (s.setPlayback p v).pending = s.pending := rfl
@[simp] theorem State.setFades_banks (v : List Fade) : (s.setFades v).banks = s.banks := rfl
@[simp] theorem State.setFades_liveBank (v : List Fade) : (s.setFades v).liveBank = s.liveBank := rfl
@[simp] theorem State.setFades_circuits (v : List Fade) : (s.setFades v).circuits = s.circuits := rfl
@[simp] theorem State.setFades_rig (v : List Fade) : (s.setFades v).rig = s.rig := rfl
@[simp] theorem State.setFades_curves (v : List Fade) : (s.setFades v).curves = s.curves := rfl
@[simp] theorem State.setFades_playbacks (v : List Fade) : (s.setFades v).playbacks = s.playbacks := rfl
@[simp] theorem State.setFades_fades (v : List Fade) : (s.setFades v).fades = v := rfl
@[simp] theorem State.setFades_fadeTimer (v : List Fade) : (s.setFades v).fadeTimer = s.fadeTimer := rfl
@[simp] theorem State.setFades_captures (v : List Fade) : (s.setFades v).captures = s.captures := rfl
@[simp] theorem State.setFades_grandmaster (v : List Fade) : (s.setFades v).grandmaster = s.grandmaster := rfl
@[simp] theorem State.setFades_blackout (v : List Fade) : (s.setFades v).blackout = s.blackout := rfl
@[simp] theorem State.setFades_changeover (v : List Fade) : (s.setFades v).changeover = s.changeover := rfl
@[simp] theorem State.setFades_links (v : List Fade) : (s.setFades v).links = s.links := rfl
@[simp] theorem State.setFades_ports (v : List Fade) : (s.setFades v).ports = s.ports := rfl
@[simp] theorem State.setFades_servedLast (v : List Fade) : (s.setFades v).servedLast = s.servedLast := rfl
@[simp] theorem State.setFades_resetLine (v : List Fade) : (s.setFades v).resetLine = s.resetLine := rfl
@[simp] theorem State.setFades_restartFlag (v : List Fade) : (s.setFades v).restartFlag = s.restartFlag := rfl
@[simp] theorem State.setFades_retention (v : List Fade) : (s.setFades v).retention = s.retention := rfl
@[simp] theorem State.setFades_pending (v : List Fade) : (s.setFades v).pending = s.pending := rfl
@[simp] theorem State.setCaptures_banks (v : Tbl (Option Nat)) : (s.setCaptures v).banks = s.banks := rfl
@[simp] theorem State.setCaptures_liveBank (v : Tbl (Option Nat)) : (s.setCaptures v).liveBank = s.liveBank := rfl
@[simp] theorem State.setCaptures_circuits (v : Tbl (Option Nat)) : (s.setCaptures v).circuits = s.circuits := rfl
@[simp] theorem State.setCaptures_rig (v : Tbl (Option Nat)) : (s.setCaptures v).rig = s.rig := rfl
@[simp] theorem State.setCaptures_curves (v : Tbl (Option Nat)) : (s.setCaptures v).curves = s.curves := rfl
@[simp] theorem State.setCaptures_playbacks (v : Tbl (Option Nat)) : (s.setCaptures v).playbacks = s.playbacks := rfl
@[simp] theorem State.setCaptures_fades (v : Tbl (Option Nat)) : (s.setCaptures v).fades = s.fades := rfl
@[simp] theorem State.setCaptures_fadeTimer (v : Tbl (Option Nat)) : (s.setCaptures v).fadeTimer = s.fadeTimer := rfl
@[simp] theorem State.setCaptures_captures (v : Tbl (Option Nat)) : (s.setCaptures v).captures = v := rfl
@[simp] theorem State.setCaptures_grandmaster (v : Tbl (Option Nat)) : (s.setCaptures v).grandmaster = s.grandmaster := rfl
@[simp] theorem State.setCaptures_blackout (v : Tbl (Option Nat)) : (s.setCaptures v).blackout = s.blackout := rfl
@[simp] theorem State.setCaptures_changeover (v : Tbl (Option Nat)) : (s.setCaptures v).changeover = s.changeover := rfl
@[simp] theorem State.setCaptures_links (v : Tbl (Option Nat)) : (s.setCaptures v).links = s.links := rfl
@[simp] theorem State.setCaptures_ports (v : Tbl (Option Nat)) : (s.setCaptures v).ports = s.ports := rfl
@[simp] theorem State.setCaptures_servedLast (v : Tbl (Option Nat)) : (s.setCaptures v).servedLast = s.servedLast := rfl
@[simp] theorem State.setCaptures_resetLine (v : Tbl (Option Nat)) : (s.setCaptures v).resetLine = s.resetLine := rfl
@[simp] theorem State.setCaptures_restartFlag (v : Tbl (Option Nat)) : (s.setCaptures v).restartFlag = s.restartFlag := rfl
@[simp] theorem State.setCaptures_retention (v : Tbl (Option Nat)) : (s.setCaptures v).retention = s.retention := rfl
@[simp] theorem State.setCaptures_pending (v : Tbl (Option Nat)) : (s.setCaptures v).pending = s.pending := rfl
@[simp] theorem State.setChangeover_banks (v : Changeover) : (s.setChangeover v).banks = s.banks := rfl
@[simp] theorem State.setChangeover_liveBank (v : Changeover) : (s.setChangeover v).liveBank = s.liveBank := rfl
@[simp] theorem State.setChangeover_circuits (v : Changeover) : (s.setChangeover v).circuits = s.circuits := rfl
@[simp] theorem State.setChangeover_rig (v : Changeover) : (s.setChangeover v).rig = s.rig := rfl
@[simp] theorem State.setChangeover_curves (v : Changeover) : (s.setChangeover v).curves = s.curves := rfl
@[simp] theorem State.setChangeover_playbacks (v : Changeover) : (s.setChangeover v).playbacks = s.playbacks := rfl
@[simp] theorem State.setChangeover_fades (v : Changeover) : (s.setChangeover v).fades = s.fades := rfl
@[simp] theorem State.setChangeover_fadeTimer (v : Changeover) : (s.setChangeover v).fadeTimer = s.fadeTimer := rfl
@[simp] theorem State.setChangeover_captures (v : Changeover) : (s.setChangeover v).captures = s.captures := rfl
@[simp] theorem State.setChangeover_grandmaster (v : Changeover) : (s.setChangeover v).grandmaster = s.grandmaster := rfl
@[simp] theorem State.setChangeover_blackout (v : Changeover) : (s.setChangeover v).blackout = s.blackout := rfl
@[simp] theorem State.setChangeover_changeover (v : Changeover) : (s.setChangeover v).changeover = v := rfl
@[simp] theorem State.setChangeover_links (v : Changeover) : (s.setChangeover v).links = s.links := rfl
@[simp] theorem State.setChangeover_ports (v : Changeover) : (s.setChangeover v).ports = s.ports := rfl
@[simp] theorem State.setChangeover_servedLast (v : Changeover) : (s.setChangeover v).servedLast = s.servedLast := rfl
@[simp] theorem State.setChangeover_resetLine (v : Changeover) : (s.setChangeover v).resetLine = s.resetLine := rfl
@[simp] theorem State.setChangeover_restartFlag (v : Changeover) : (s.setChangeover v).restartFlag = s.restartFlag := rfl
@[simp] theorem State.setChangeover_retention (v : Changeover) : (s.setChangeover v).retention = s.retention := rfl
@[simp] theorem State.setChangeover_pending (v : Changeover) : (s.setChangeover v).pending = s.pending := rfl
@[simp] theorem State.setLink_banks (l : LinkId) (v : Link) : (s.setLink l v).banks = s.banks := by cases l <;> rfl
@[simp] theorem State.setLink_liveBank (l : LinkId) (v : Link) : (s.setLink l v).liveBank = s.liveBank := by cases l <;> rfl
@[simp] theorem State.setLink_circuits (l : LinkId) (v : Link) : (s.setLink l v).circuits = s.circuits := by cases l <;> rfl
@[simp] theorem State.setLink_rig (l : LinkId) (v : Link) : (s.setLink l v).rig = s.rig := by cases l <;> rfl
@[simp] theorem State.setLink_curves (l : LinkId) (v : Link) : (s.setLink l v).curves = s.curves := by cases l <;> rfl
@[simp] theorem State.setLink_playbacks (l : LinkId) (v : Link) : (s.setLink l v).playbacks = s.playbacks := by cases l <;> rfl
@[simp] theorem State.setLink_fades (l : LinkId) (v : Link) : (s.setLink l v).fades = s.fades := by cases l <;> rfl
@[simp] theorem State.setLink_fadeTimer (l : LinkId) (v : Link) : (s.setLink l v).fadeTimer = s.fadeTimer := by cases l <;> rfl
@[simp] theorem State.setLink_captures (l : LinkId) (v : Link) : (s.setLink l v).captures = s.captures := by cases l <;> rfl
@[simp] theorem State.setLink_grandmaster (l : LinkId) (v : Link) : (s.setLink l v).grandmaster = s.grandmaster := by cases l <;> rfl
@[simp] theorem State.setLink_blackout (l : LinkId) (v : Link) : (s.setLink l v).blackout = s.blackout := by cases l <;> rfl
@[simp] theorem State.setLink_changeover (l : LinkId) (v : Link) : (s.setLink l v).changeover = s.changeover := by cases l <;> rfl
@[simp] theorem State.setLink_ports (l : LinkId) (v : Link) : (s.setLink l v).ports = s.ports := by cases l <;> rfl
@[simp] theorem State.setLink_servedLast (l : LinkId) (v : Link) : (s.setLink l v).servedLast = s.servedLast := by cases l <;> rfl
@[simp] theorem State.setLink_resetLine (l : LinkId) (v : Link) : (s.setLink l v).resetLine = s.resetLine := by cases l <;> rfl
@[simp] theorem State.setLink_restartFlag (l : LinkId) (v : Link) : (s.setLink l v).restartFlag = s.restartFlag := by cases l <;> rfl
@[simp] theorem State.setLink_retention (l : LinkId) (v : Link) : (s.setLink l v).retention = s.retention := by cases l <;> rfl
@[simp] theorem State.setLink_pending (l : LinkId) (v : Link) : (s.setLink l v).pending = s.pending := by cases l <;> rfl
@[simp] theorem State.setPort_banks (p : Port) (v : PortState) : (s.setPort p v).banks = s.banks := by cases p <;> rfl
@[simp] theorem State.setPort_liveBank (p : Port) (v : PortState) : (s.setPort p v).liveBank = s.liveBank := by cases p <;> rfl
@[simp] theorem State.setPort_circuits (p : Port) (v : PortState) : (s.setPort p v).circuits = s.circuits := by cases p <;> rfl
@[simp] theorem State.setPort_rig (p : Port) (v : PortState) : (s.setPort p v).rig = s.rig := by cases p <;> rfl
@[simp] theorem State.setPort_curves (p : Port) (v : PortState) : (s.setPort p v).curves = s.curves := by cases p <;> rfl
@[simp] theorem State.setPort_playbacks (p : Port) (v : PortState) : (s.setPort p v).playbacks = s.playbacks := by cases p <;> rfl
@[simp] theorem State.setPort_fades (p : Port) (v : PortState) : (s.setPort p v).fades = s.fades := by cases p <;> rfl
@[simp] theorem State.setPort_fadeTimer (p : Port) (v : PortState) : (s.setPort p v).fadeTimer = s.fadeTimer := by cases p <;> rfl
@[simp] theorem State.setPort_captures (p : Port) (v : PortState) : (s.setPort p v).captures = s.captures := by cases p <;> rfl
@[simp] theorem State.setPort_grandmaster (p : Port) (v : PortState) : (s.setPort p v).grandmaster = s.grandmaster := by cases p <;> rfl
@[simp] theorem State.setPort_blackout (p : Port) (v : PortState) : (s.setPort p v).blackout = s.blackout := by cases p <;> rfl
@[simp] theorem State.setPort_changeover (p : Port) (v : PortState) : (s.setPort p v).changeover = s.changeover := by cases p <;> rfl
@[simp] theorem State.setPort_links (p : Port) (v : PortState) : (s.setPort p v).links = s.links := by cases p <;> rfl
@[simp] theorem State.setPort_servedLast (p : Port) (v : PortState) : (s.setPort p v).servedLast = s.servedLast := by cases p <;> rfl
@[simp] theorem State.setPort_resetLine (p : Port) (v : PortState) : (s.setPort p v).resetLine = s.resetLine := by cases p <;> rfl
@[simp] theorem State.setPort_restartFlag (p : Port) (v : PortState) : (s.setPort p v).restartFlag = s.restartFlag := by cases p <;> rfl
@[simp] theorem State.setPort_retention (p : Port) (v : PortState) : (s.setPort p v).retention = s.retention := by cases p <;> rfl
@[simp] theorem State.setPort_pending (p : Port) (v : PortState) : (s.setPort p v).pending = s.pending := by cases p <;> rfl
@[simp] theorem State.serving_banks (p : Port) : (s.serving p).banks = s.banks := rfl
@[simp] theorem State.serving_liveBank (p : Port) : (s.serving p).liveBank = s.liveBank := rfl
@[simp] theorem State.serving_circuits (p : Port) : (s.serving p).circuits = s.circuits := rfl
@[simp] theorem State.serving_rig (p : Port) : (s.serving p).rig = s.rig := rfl
@[simp] theorem State.serving_curves (p : Port) : (s.serving p).curves = s.curves := rfl
@[simp] theorem State.serving_playbacks (p : Port) : (s.serving p).playbacks = s.playbacks := rfl
@[simp] theorem State.serving_fades (p : Port) : (s.serving p).fades = s.fades := rfl
@[simp] theorem State.serving_fadeTimer (p : Port) : (s.serving p).fadeTimer = s.fadeTimer := rfl
@[simp] theorem State.serving_captures (p : Port) : (s.serving p).captures = s.captures := rfl
@[simp] theorem State.serving_grandmaster (p : Port) : (s.serving p).grandmaster = s.grandmaster := rfl
@[simp] theorem State.serving_blackout (p : Port) : (s.serving p).blackout = s.blackout := rfl
@[simp] theorem State.serving_changeover (p : Port) : (s.serving p).changeover = s.changeover := rfl
@[simp] theorem State.serving_links (p : Port) : (s.serving p).links = s.links := rfl
@[simp] theorem State.serving_ports (p : Port) : (s.serving p).ports = s.ports := rfl
@[simp] theorem State.serving_servedLast (p : Port) : (s.serving p).servedLast = some p := rfl
@[simp] theorem State.serving_resetLine (p : Port) : (s.serving p).resetLine = s.resetLine := rfl
@[simp] theorem State.serving_restartFlag (p : Port) : (s.serving p).restartFlag = s.restartFlag := rfl
@[simp] theorem State.serving_retention (p : Port) : (s.serving p).retention = s.retention := rfl
@[simp] theorem State.serving_pending (p : Port) : (s.serving p).pending = s.pending := rfl

/-! ### Reads of the collections a write does not reach -/

@[simp] theorem State.circuit_setBank (b : Nat) (v : Bank) (n' : Nat) : (s.setBank b v).circuit n' = s.circuit n' := rfl
@[simp] theorem State.curve_setBank (b : Nat) (v : Bank) (n' : Nat) : (s.setBank b v).curve n' = s.curve n' := rfl
@[simp] theorem State.playback_setBank (b : Nat) (v : Bank) (p' : Nat) : (s.setBank b v).playback p' = s.playback p' := rfl
@[simp] theorem State.entry_setBank (b : Nat) (v : Bank) (p' ch : Nat) : (s.setBank b v).entry p' ch = s.entry p' ch := rfl
@[simp] theorem State.fade_setBank (b : Nat) (v : Bank) (n' : Nat) : (s.setBank b v).fade n' = s.fade n' := rfl
@[simp] theorem State.captureOf_setBank (b : Nat) (v : Bank) (ch : Nat) : (s.setBank b v).captureOf ch = s.captureOf ch := rfl
@[simp] theorem State.link_setBank (b : Nat) (v : Bank) (l' : LinkId) : (s.setBank b v).link l' = s.link l' := rfl
@[simp] theorem State.row_setBank (b : Nat) (v : Bank) (l' : LinkId) (r : Nat) : (s.setBank b v).row l' r = s.row l' r := rfl
@[simp] theorem State.port_setBank (b : Nat) (v : Bank) (p' : Port) : (s.setBank b v).port p' = s.port p' := rfl
@[simp] theorem State.darkening_setBank (b : Nat) (v : Bank) : (s.setBank b v).darkening = s.darkening := rfl
@[simp] theorem State.changingBank_setBank (b : Nat) (v : Bank) (b' : Nat) : (s.setBank b v).changingBank b' = s.changingBank b' := rfl
@[simp] theorem State.bank_setCircuit (n : Nat) (v : Circuit) (b' : Nat) : (s.setCircuit n v).bank b' = s.bank b' := rfl
@[simp] theorem State.records_setCircuit (n : Nat) (v : Circuit) (b' : Nat) : (s.setCircuit n v).records b' = s.records b' := rfl
@[simp] theorem State.look_setCircuit (n : Nat) (v : Circuit) (b' n' : Nat) : (s.setCircuit n v).look b' n' = s.look b' n' := rfl
@[simp] theorem State.curve_setCircuit (n : Nat) (v : Circuit) (n' : Nat) : (s.setCircuit n v).curve n' = s.curve n' := rfl
@[simp] theorem State.playback_setCircuit (n : Nat) (v : Circuit) (p' : Nat) : (s.setCircuit n v).playback p' = s.playback p' := rfl
@[simp] theorem State.entry_setCircuit (n : Nat) (v : Circuit) (p' ch : Nat) : (s.setCircuit n v).entry p' ch = s.entry p' ch := rfl
@[simp] theorem State.fade_setCircuit (n : Nat) (v : Circuit) (n' : Nat) : (s.setCircuit n v).fade n' = s.fade n' := rfl
@[simp] theorem State.captureOf_setCircuit (n : Nat) (v : Circuit) (ch : Nat) : (s.setCircuit n v).captureOf ch = s.captureOf ch := rfl
@[simp] theorem State.link_setCircuit (n : Nat) (v : Circuit) (l' : LinkId) : (s.setCircuit n v).link l' = s.link l' := rfl
@[simp] theorem State.row_setCircuit (n : Nat) (v : Circuit) (l' : LinkId) (r : Nat) : (s.setCircuit n v).row l' r = s.row l' r := rfl
@[simp] theorem State.port_setCircuit (n : Nat) (v : Circuit) (p' : Port) : (s.setCircuit n v).port p' = s.port p' := rfl
@[simp] theorem State.darkening_setCircuit (n : Nat) (v : Circuit) : (s.setCircuit n v).darkening = s.darkening := rfl
@[simp] theorem State.changingBank_setCircuit (n : Nat) (v : Circuit) (b' : Nat) : (s.setCircuit n v).changingBank b' = s.changingBank b' := rfl
@[simp] theorem State.bank_setCurve (n : Nat) (v : List Nat) (b' : Nat) : (s.setCurve n v).bank b' = s.bank b' := rfl
@[simp] theorem State.records_setCurve (n : Nat) (v : List Nat) (b' : Nat) : (s.setCurve n v).records b' = s.records b' := rfl
@[simp] theorem State.look_setCurve (n : Nat) (v : List Nat) (b' n' : Nat) : (s.setCurve n v).look b' n' = s.look b' n' := rfl
@[simp] theorem State.circuit_setCurve (n : Nat) (v : List Nat) (n' : Nat) : (s.setCurve n v).circuit n' = s.circuit n' := rfl
@[simp] theorem State.playback_setCurve (n : Nat) (v : List Nat) (p' : Nat) : (s.setCurve n v).playback p' = s.playback p' := rfl
@[simp] theorem State.entry_setCurve (n : Nat) (v : List Nat) (p' ch : Nat) : (s.setCurve n v).entry p' ch = s.entry p' ch := rfl
@[simp] theorem State.fade_setCurve (n : Nat) (v : List Nat) (n' : Nat) : (s.setCurve n v).fade n' = s.fade n' := rfl
@[simp] theorem State.captureOf_setCurve (n : Nat) (v : List Nat) (ch : Nat) : (s.setCurve n v).captureOf ch = s.captureOf ch := rfl
@[simp] theorem State.link_setCurve (n : Nat) (v : List Nat) (l' : LinkId) : (s.setCurve n v).link l' = s.link l' := rfl
@[simp] theorem State.row_setCurve (n : Nat) (v : List Nat) (l' : LinkId) (r : Nat) : (s.setCurve n v).row l' r = s.row l' r := rfl
@[simp] theorem State.port_setCurve (n : Nat) (v : List Nat) (p' : Port) : (s.setCurve n v).port p' = s.port p' := rfl
@[simp] theorem State.darkening_setCurve (n : Nat) (v : List Nat) : (s.setCurve n v).darkening = s.darkening := rfl
@[simp] theorem State.changingBank_setCurve (n : Nat) (v : List Nat) (b' : Nat) : (s.setCurve n v).changingBank b' = s.changingBank b' := rfl
@[simp] theorem State.bank_setRig (v : Rig) (b' : Nat) : (s.setRig v).bank b' = s.bank b' := rfl
@[simp] theorem State.records_setRig (v : Rig) (b' : Nat) : (s.setRig v).records b' = s.records b' := rfl
@[simp] theorem State.look_setRig (v : Rig) (b' n' : Nat) : (s.setRig v).look b' n' = s.look b' n' := rfl
@[simp] theorem State.circuit_setRig (v : Rig) (n' : Nat) : (s.setRig v).circuit n' = s.circuit n' := rfl
@[simp] theorem State.curve_setRig (v : Rig) (n' : Nat) : (s.setRig v).curve n' = s.curve n' := rfl
@[simp] theorem State.playback_setRig (v : Rig) (p' : Nat) : (s.setRig v).playback p' = s.playback p' := rfl
@[simp] theorem State.entry_setRig (v : Rig) (p' ch : Nat) : (s.setRig v).entry p' ch = s.entry p' ch := rfl
@[simp] theorem State.fade_setRig (v : Rig) (n' : Nat) : (s.setRig v).fade n' = s.fade n' := rfl
@[simp] theorem State.captureOf_setRig (v : Rig) (ch : Nat) : (s.setRig v).captureOf ch = s.captureOf ch := rfl
@[simp] theorem State.link_setRig (v : Rig) (l' : LinkId) : (s.setRig v).link l' = s.link l' := rfl
@[simp] theorem State.row_setRig (v : Rig) (l' : LinkId) (r : Nat) : (s.setRig v).row l' r = s.row l' r := rfl
@[simp] theorem State.port_setRig (v : Rig) (p' : Port) : (s.setRig v).port p' = s.port p' := rfl
@[simp] theorem State.darkening_setRig (v : Rig) : (s.setRig v).darkening = s.darkening := rfl
@[simp] theorem State.changingBank_setRig (v : Rig) (b' : Nat) : (s.setRig v).changingBank b' = s.changingBank b' := rfl
@[simp] theorem State.bank_setPlayback (p : Nat) (v : Playback) (b' : Nat) : (s.setPlayback p v).bank b' = s.bank b' := rfl
@[simp] theorem State.records_setPlayback (p : Nat) (v : Playback) (b' : Nat) : (s.setPlayback p v).records b' = s.records b' := rfl
@[simp] theorem State.look_setPlayback (p : Nat) (v : Playback) (b' n' : Nat) : (s.setPlayback p v).look b' n' = s.look b' n' := rfl
@[simp] theorem State.circuit_setPlayback (p : Nat) (v : Playback) (n' : Nat) : (s.setPlayback p v).circuit n' = s.circuit n' := rfl
@[simp] theorem State.curve_setPlayback (p : Nat) (v : Playback) (n' : Nat) : (s.setPlayback p v).curve n' = s.curve n' := rfl
@[simp] theorem State.fade_setPlayback (p : Nat) (v : Playback) (n' : Nat) : (s.setPlayback p v).fade n' = s.fade n' := rfl
@[simp] theorem State.captureOf_setPlayback (p : Nat) (v : Playback) (ch : Nat) : (s.setPlayback p v).captureOf ch = s.captureOf ch := rfl
@[simp] theorem State.link_setPlayback (p : Nat) (v : Playback) (l' : LinkId) : (s.setPlayback p v).link l' = s.link l' := rfl
@[simp] theorem State.row_setPlayback (p : Nat) (v : Playback) (l' : LinkId) (r : Nat) : (s.setPlayback p v).row l' r = s.row l' r := rfl
@[simp] theorem State.port_setPlayback (p : Nat) (v : Playback) (p' : Port) : (s.setPlayback p v).port p' = s.port p' := rfl
@[simp] theorem State.darkening_setPlayback (p : Nat) (v : Playback) : (s.setPlayback p v).darkening = s.darkening := rfl
@[simp] theorem State.changingBank_setPlayback (p : Nat) (v : Playback) (b' : Nat) : (s.setPlayback p v).changingBank b' = s.changingBank b' := rfl
@[simp] theorem State.bank_setFades (v : List Fade) (b' : Nat) : (s.setFades v).bank b' = s.bank b' := rfl
@[simp] theorem State.records_setFades (v : List Fade) (b' : Nat) : (s.setFades v).records b' = s.records b' := rfl
@[simp] theorem State.look_setFades (v : List Fade) (b' n' : Nat) : (s.setFades v).look b' n' = s.look b' n' := rfl
@[simp] theorem State.circuit_setFades (v : List Fade) (n' : Nat) : (s.setFades v).circuit n' = s.circuit n' := rfl
@[simp] theorem State.curve_setFades (v : List Fade) (n' : Nat) : (s.setFades v).curve n' = s.curve n' := rfl
@[simp] theorem State.playback_setFades (v : List Fade) (p' : Nat) : (s.setFades v).playback p' = s.playback p' := rfl
@[simp] theorem State.entry_setFades (v : List Fade) (p' ch : Nat) : (s.setFades v).entry p' ch = s.entry p' ch := rfl
@[simp] theorem State.captureOf_setFades (v : List Fade) (ch : Nat) : (s.setFades v).captureOf ch = s.captureOf ch := rfl
@[simp] theorem State.link_setFades (v : List Fade) (l' : LinkId) : (s.setFades v).link l' = s.link l' := rfl
@[simp] theorem State.row_setFades (v : List Fade) (l' : LinkId) (r : Nat) : (s.setFades v).row l' r = s.row l' r := rfl
@[simp] theorem State.port_setFades (v : List Fade) (p' : Port) : (s.setFades v).port p' = s.port p' := rfl
@[simp] theorem State.darkening_setFades (v : List Fade) : (s.setFades v).darkening = s.darkening := rfl
@[simp] theorem State.changingBank_setFades (v : List Fade) (b' : Nat) : (s.setFades v).changingBank b' = s.changingBank b' := rfl
@[simp] theorem State.bank_setCaptures (v : Tbl (Option Nat)) (b' : Nat) : (s.setCaptures v).bank b' = s.bank b' := rfl
@[simp] theorem State.records_setCaptures (v : Tbl (Option Nat)) (b' : Nat) : (s.setCaptures v).records b' = s.records b' := rfl
@[simp] theorem State.look_setCaptures (v : Tbl (Option Nat)) (b' n' : Nat) : (s.setCaptures v).look b' n' = s.look b' n' := rfl
@[simp] theorem State.circuit_setCaptures (v : Tbl (Option Nat)) (n' : Nat) : (s.setCaptures v).circuit n' = s.circuit n' := rfl
@[simp] theorem State.curve_setCaptures (v : Tbl (Option Nat)) (n' : Nat) : (s.setCaptures v).curve n' = s.curve n' := rfl
@[simp] theorem State.playback_setCaptures (v : Tbl (Option Nat)) (p' : Nat) : (s.setCaptures v).playback p' = s.playback p' := rfl
@[simp] theorem State.entry_setCaptures (v : Tbl (Option Nat)) (p' ch : Nat) : (s.setCaptures v).entry p' ch = s.entry p' ch := rfl
@[simp] theorem State.fade_setCaptures (v : Tbl (Option Nat)) (n' : Nat) : (s.setCaptures v).fade n' = s.fade n' := rfl
@[simp] theorem State.link_setCaptures (v : Tbl (Option Nat)) (l' : LinkId) : (s.setCaptures v).link l' = s.link l' := rfl
@[simp] theorem State.row_setCaptures (v : Tbl (Option Nat)) (l' : LinkId) (r : Nat) : (s.setCaptures v).row l' r = s.row l' r := rfl
@[simp] theorem State.port_setCaptures (v : Tbl (Option Nat)) (p' : Port) : (s.setCaptures v).port p' = s.port p' := rfl
@[simp] theorem State.darkening_setCaptures (v : Tbl (Option Nat)) : (s.setCaptures v).darkening = s.darkening := rfl
@[simp] theorem State.changingBank_setCaptures (v : Tbl (Option Nat)) (b' : Nat) : (s.setCaptures v).changingBank b' = s.changingBank b' := rfl
@[simp] theorem State.bank_setChangeover (v : Changeover) (b' : Nat) : (s.setChangeover v).bank b' = s.bank b' := rfl
@[simp] theorem State.records_setChangeover (v : Changeover) (b' : Nat) : (s.setChangeover v).records b' = s.records b' := rfl
@[simp] theorem State.look_setChangeover (v : Changeover) (b' n' : Nat) : (s.setChangeover v).look b' n' = s.look b' n' := rfl
@[simp] theorem State.circuit_setChangeover (v : Changeover) (n' : Nat) : (s.setChangeover v).circuit n' = s.circuit n' := rfl
@[simp] theorem State.curve_setChangeover (v : Changeover) (n' : Nat) : (s.setChangeover v).curve n' = s.curve n' := rfl
@[simp] theorem State.playback_setChangeover (v : Changeover) (p' : Nat) : (s.setChangeover v).playback p' = s.playback p' := rfl
@[simp] theorem State.entry_setChangeover (v : Changeover) (p' ch : Nat) : (s.setChangeover v).entry p' ch = s.entry p' ch := rfl
@[simp] theorem State.fade_setChangeover (v : Changeover) (n' : Nat) : (s.setChangeover v).fade n' = s.fade n' := rfl
@[simp] theorem State.captureOf_setChangeover (v : Changeover) (ch : Nat) : (s.setChangeover v).captureOf ch = s.captureOf ch := rfl
@[simp] theorem State.link_setChangeover (v : Changeover) (l' : LinkId) : (s.setChangeover v).link l' = s.link l' := rfl
@[simp] theorem State.row_setChangeover (v : Changeover) (l' : LinkId) (r : Nat) : (s.setChangeover v).row l' r = s.row l' r := rfl
@[simp] theorem State.port_setChangeover (v : Changeover) (p' : Port) : (s.setChangeover v).port p' = s.port p' := rfl
@[simp] theorem State.bank_setLink (l : LinkId) (v : Link) (b' : Nat) : (s.setLink l v).bank b' = s.bank b' := by cases l <;> rfl
@[simp] theorem State.records_setLink (l : LinkId) (v : Link) (b' : Nat) : (s.setLink l v).records b' = s.records b' := by cases l <;> rfl
@[simp] theorem State.look_setLink (l : LinkId) (v : Link) (b' n' : Nat) : (s.setLink l v).look b' n' = s.look b' n' := by cases l <;> rfl
@[simp] theorem State.circuit_setLink (l : LinkId) (v : Link) (n' : Nat) : (s.setLink l v).circuit n' = s.circuit n' := by cases l <;> rfl
@[simp] theorem State.curve_setLink (l : LinkId) (v : Link) (n' : Nat) : (s.setLink l v).curve n' = s.curve n' := by cases l <;> rfl
@[simp] theorem State.playback_setLink (l : LinkId) (v : Link) (p' : Nat) : (s.setLink l v).playback p' = s.playback p' := by cases l <;> rfl
@[simp] theorem State.entry_setLink (l : LinkId) (v : Link) (p' ch : Nat) : (s.setLink l v).entry p' ch = s.entry p' ch := by cases l <;> rfl
@[simp] theorem State.fade_setLink (l : LinkId) (v : Link) (n' : Nat) : (s.setLink l v).fade n' = s.fade n' := by cases l <;> rfl
@[simp] theorem State.captureOf_setLink (l : LinkId) (v : Link) (ch : Nat) : (s.setLink l v).captureOf ch = s.captureOf ch := by cases l <;> rfl
@[simp] theorem State.port_setLink (l : LinkId) (v : Link) (p' : Port) : (s.setLink l v).port p' = s.port p' := by cases l <;> rfl
@[simp] theorem State.darkening_setLink (l : LinkId) (v : Link) : (s.setLink l v).darkening = s.darkening := by cases l <;> rfl
@[simp] theorem State.changingBank_setLink (l : LinkId) (v : Link) (b' : Nat) : (s.setLink l v).changingBank b' = s.changingBank b' := by cases l <;> rfl
@[simp] theorem State.bank_setPort (p : Port) (v : PortState) (b' : Nat) : (s.setPort p v).bank b' = s.bank b' := by cases p <;> rfl
@[simp] theorem State.records_setPort (p : Port) (v : PortState) (b' : Nat) : (s.setPort p v).records b' = s.records b' := by cases p <;> rfl
@[simp] theorem State.look_setPort (p : Port) (v : PortState) (b' n' : Nat) : (s.setPort p v).look b' n' = s.look b' n' := by cases p <;> rfl
@[simp] theorem State.circuit_setPort (p : Port) (v : PortState) (n' : Nat) : (s.setPort p v).circuit n' = s.circuit n' := by cases p <;> rfl
@[simp] theorem State.curve_setPort (p : Port) (v : PortState) (n' : Nat) : (s.setPort p v).curve n' = s.curve n' := by cases p <;> rfl
@[simp] theorem State.playback_setPort (p : Port) (v : PortState) (p' : Nat) : (s.setPort p v).playback p' = s.playback p' := by cases p <;> rfl
@[simp] theorem State.entry_setPort (p : Port) (v : PortState) (p' ch : Nat) : (s.setPort p v).entry p' ch = s.entry p' ch := by cases p <;> rfl
@[simp] theorem State.fade_setPort (p : Port) (v : PortState) (n' : Nat) : (s.setPort p v).fade n' = s.fade n' := by cases p <;> rfl
@[simp] theorem State.captureOf_setPort (p : Port) (v : PortState) (ch : Nat) : (s.setPort p v).captureOf ch = s.captureOf ch := by cases p <;> rfl
@[simp] theorem State.link_setPort (p : Port) (v : PortState) (l' : LinkId) : (s.setPort p v).link l' = s.link l' := by cases p <;> rfl
@[simp] theorem State.row_setPort (p : Port) (v : PortState) (l' : LinkId) (r : Nat) : (s.setPort p v).row l' r = s.row l' r := by cases p <;> rfl
@[simp] theorem State.darkening_setPort (p : Port) (v : PortState) : (s.setPort p v).darkening = s.darkening := by cases p <;> rfl
@[simp] theorem State.changingBank_setPort (p : Port) (v : PortState) (b' : Nat) : (s.setPort p v).changingBank b' = s.changingBank b' := by cases p <;> rfl
@[simp] theorem State.bank_serving (p : Port) (b' : Nat) : (s.serving p).bank b' = s.bank b' := rfl
@[simp] theorem State.records_serving (p : Port) (b' : Nat) : (s.serving p).records b' = s.records b' := rfl
@[simp] theorem State.look_serving (p : Port) (b' n' : Nat) : (s.serving p).look b' n' = s.look b' n' := rfl
@[simp] theorem State.circuit_serving (p : Port) (n' : Nat) : (s.serving p).circuit n' = s.circuit n' := rfl
@[simp] theorem State.curve_serving (p : Port) (n' : Nat) : (s.serving p).curve n' = s.curve n' := rfl
@[simp] theorem State.playback_serving (p : Port) (p' : Nat) : (s.serving p).playback p' = s.playback p' := rfl
@[simp] theorem State.entry_serving (p : Port) (p' ch : Nat) : (s.serving p).entry p' ch = s.entry p' ch := rfl
@[simp] theorem State.fade_serving (p : Port) (n' : Nat) : (s.serving p).fade n' = s.fade n' := rfl
@[simp] theorem State.captureOf_serving (p : Port) (ch : Nat) : (s.serving p).captureOf ch = s.captureOf ch := rfl
@[simp] theorem State.link_serving (p : Port) (l' : LinkId) : (s.serving p).link l' = s.link l' := rfl
@[simp] theorem State.row_serving (p : Port) (l' : LinkId) (r : Nat) : (s.serving p).row l' r = s.row l' r := rfl
@[simp] theorem State.port_serving (p : Port) (p' : Port) : (s.serving p).port p' = s.port p' := rfl
@[simp] theorem State.darkening_serving (p : Port) : (s.serving p).darkening = s.darkening := rfl
@[simp] theorem State.changingBank_serving (p : Port) (b' : Nat) : (s.serving p).changingBank b' = s.changingBank b' := rfl

/-! ### Reads of the collection a write changes -/

@[simp] theorem State.bank_setBank (b b' : Nat) (v : Bank) :
    (s.setBank b v).bank b' = if b = b' then v else s.bank b' := by simp [State.setBank, State.bank]

@[simp] theorem State.records_setBank (b b' : Nat) (v : Bank) :
    (s.setBank b v).records b' = if b = b' then v.records else s.records b' := by
  simp only [State.records, State.bank_setBank]; split <;> rfl

@[simp] theorem State.look_setBank (b b' n : Nat) (v : Bank) :
    (s.setBank b v).look b' n = if b = b' then v.looks.get none n else s.look b' n := by
  simp only [State.look, State.bank_setBank]; split <;> rfl

/-- Writing a bank's records changes those records and nothing else of any bank. -/
@[simp] theorem State.bank_setRecords (b b' : Nat) (rs : List PatchRec) :
    (s.setRecords b rs).bank b' = if b = b' then { s.bank b with records := rs } else s.bank b' := by
  simp [State.setRecords]

@[simp] theorem State.records_setRecords (b b' : Nat) (rs : List PatchRec) :
    (s.setRecords b rs).records b' = if b = b' then rs else s.records b' := by
  simp only [State.records, State.bank_setRecords]; split <;> rfl

/-- Writing a look changes that look and nothing else of any bank. -/
@[simp] theorem State.look_setLook (b b' n n' : Nat) (v : Option Look) :
    (s.setLook b n v).look b' n' = if b = b' ∧ n = n' then v else s.look b' n' := by
  simp only [State.setLook, State.look_setBank]
  by_cases hb : b = b'
  · subst hb; simp [State.look]
  · simp [hb]

@[simp] theorem State.records_setLook (b b' n : Nat) (v : Option Look) :
    (s.setLook b n v).records b' = s.records b' := by
  simp only [State.setLook, State.records_setBank]
  split
  · rename_i h; subst h; rfl
  · rfl

@[simp] theorem State.circuit_setCircuit (n n' : Nat) (v : Circuit) :
    (s.setCircuit n v).circuit n' = if n = n' then v else s.circuit n' := by simp [State.setCircuit, State.circuit]

@[simp] theorem State.curve_setCurve (n n' : Nat) (v : List Nat) (h : n ≠ 0) :
    (s.setCurve n v).curve n' = if n = n' then v else s.curve n' := by
  by_cases h0 : n' = 0
  · subst h0; simp [State.curve, h]
  · simp [State.setCurve, State.curve, h0]

@[simp] theorem State.playback_setPlayback (p p' : Nat) (v : Playback) :
    (s.setPlayback p v).playback p' = if p = p' then v else s.playback p' := by
  simp [State.setPlayback, State.playback]

@[simp] theorem State.entry_setPlayback (p p' ch : Nat) (v : Playback) :
    (s.setPlayback p v).entry p' ch = if p = p' then v.entries.get Entry.initial ch else s.entry p' ch := by
  simp only [State.entry, State.playback_setPlayback]; split <;> rfl

/-- Writing an entry changes that entry and no other. -/
@[simp] theorem State.entry_setEntry (p p' ch ch' : Nat) (v : Entry) :
    (s.setEntry p ch v).entry p' ch' = if p = p' ∧ ch = ch' then v else s.entry p' ch' := by
  simp only [State.setEntry, State.entry_setPlayback]
  by_cases hp : p = p'
  · subst hp; simp [State.entry]
  · simp [hp]

/-- Changing the entries of one playback by a change that leaves a standing entry at 0 as it is. -/
theorem State.entry_mapEntries (p p' ch : Nat) (f : Entry → Entry) (h : f Entry.initial = Entry.initial) :
    (s.mapEntries p f).entry p' ch = if p = p' then f (s.entry p' ch) else s.entry p' ch := by
  simp only [State.mapEntries, State.entry_setPlayback]
  split
  · rename_i hp; subst hp; exact Tbl.get_mapVals _ _ _ _ h
  · rfl

@[simp] theorem State.link_setLink (l l' : LinkId) (v : Link) :
    (s.setLink l v).link l' = if l = l' then v else s.link l' := by cases l <;> cases l' <;> rfl

@[simp] theorem Link.row_setRow (k : Link) (r r' : Nat) (v : RackRow) :
    (k.setRow r v).row r' = if r = r' then v else k.row r' := by simp [Link.setRow, Link.row]

/-- Writing a rack row changes that row and no other. -/
@[simp] theorem State.row_setRow (l l' : LinkId) (r r' : Nat) (v : RackRow) :
    (s.setRow l r v).row l' r' = if l = l' ∧ r = r' then v else s.row l' r' := by
  simp only [State.setRow, State.row, State.link_setLink]
  by_cases hl : l = l'
  · subst hl; simp
  · simp [hl]

@[simp] theorem State.port_setPort (p p' : Port) (v : PortState) :
    (s.setPort p v).port p' = if p = p' then v else s.port p' := by cases p <;> cases p' <;> rfl

end Sys2Proof.Machine
end

