-- ==== Sys2Proof/Laws/Fades.lean ====
section
/-!
SUPPORT. What the fade engine's operations can do, each said once: they change the playbacks and the fade list alone, and what taking
over an entry, advancing an entry and freeing a slot leave.
-/

namespace Sys2Proof.Machine

/-- Nothing but the playbacks and the fade list differs. -/
def State.FadeEngineOnly (s t : State) : Prop := t = { s with playbacks := t.playbacks, fades := t.fades }

namespace State.FadeEngineOnly

theorem refl (s : State) : s.FadeEngineOnly s := rfl

theorem trans {s t u : State} (h : s.FadeEngineOnly t) (h' : t.FadeEngineOnly u) : s.FadeEngineOnly u := by
  unfold State.FadeEngineOnly at *
  rw [h'] ; rw [h]

/-- The console ports, the port served last and the queue of commands, as the service of a request asks for them. -/
theorem kept {s t : State} (h : s.FadeEngineOnly t) :
    t.ports = s.ports ∧ t.servedLast = s.servedLast ∧ t.pending = s.pending := by
  rw [h]; exact ⟨rfl, rfl, rfl⟩

theorem look {s t : State} (h : s.FadeEngineOnly t) (b n : Nat) : t.look b n = s.look b n := by rw [h]; rfl
theorem circuit {s t : State} (h : s.FadeEngineOnly t) (n : Nat) : t.circuit n = s.circuit n := by rw [h]; rfl
theorem liveBank {s t : State} (h : s.FadeEngineOnly t) : t.liveBank = s.liveBank := by rw [h]
theorem darkening {s t : State} (h : s.FadeEngineOnly t) : t.darkening = s.darkening := by rw [h]; rfl

/-- A fold whose every step is such a change is one. -/
theorem foldl {α : Type} (f : State → α → State) (h : ∀ (s : State) a, s.FadeEngineOnly (f s a)) (xs : List α) (s : State) :
    s.FadeEngineOnly (xs.foldl f s) := by
  induction xs generalizing s with
  | nil => exact refl s
  | cons a t ih => exact (h s a).trans (ih _)

end State.FadeEngineOnly

variable (s : State)

theorem State.setPlayback_only (p : Nat) (v : Playback) : s.FadeEngineOnly (s.setPlayback p v) := rfl
theorem State.setEntry_only (p ch : Nat) (v : Entry) : s.FadeEngineOnly (s.setEntry p ch v) := rfl
theorem State.mapEntries_only (p : Nat) (f : Entry → Entry) : s.FadeEngineOnly (s.mapEntries p f) := rfl
theorem State.setFades_only (v : List Fade) : s.FadeEngineOnly (s.setFades v) := rfl
theorem State.updateFade_only (f : Fade) : s.FadeEngineOnly (s.updateFade f) := rfl
theorem State.removeFade_only (n : Nat) : s.FadeEngineOnly (s.removeFade n) := rfl
theorem State.rederive_only (p : Nat) : s.FadeEngineOnly (s.rederive p) := rfl
theorem State.dropClaim_only (n : Nat) : s.FadeEngineOnly (s.dropClaim n) := rfl
theorem State.addClaim_only (n : Nat) : s.FadeEngineOnly (s.addClaim n) := rfl
theorem State.cancelFollow_only (p : Nat) : s.FadeEngineOnly (s.cancelFollow p) := rfl
theorem State.missFollow_only (p : Nat) : s.FadeEngineOnly (s.missFollow p) := rfl
theorem State.mapPlaybacks_only (f : Playback → Playback) : s.FadeEngineOnly (s.mapPlaybacks f) := rfl

theorem State.takeEntry_only (n p ch target : Nat) (part : Part) : s.FadeEngineOnly (s.takeEntry n p ch target part) := by
  unfold State.takeEntry
  dsimp only
  split <;> rfl

theorem State.takeLook_only (n p : Nat) (es : List LookEntry) : s.FadeEngineOnly (s.takeLook n p es) :=
  State.FadeEngineOnly.foldl _ (fun s _ => s.takeEntry_only ..) es s

theorem State.takeDown_only (n p : Nat) (chs : List Nat) : s.FadeEngineOnly (s.takeDown n p chs) :=
  State.FadeEngineOnly.foldl _ (fun s _ => s.takeEntry_only ..) chs s

theorem State.fastComplete_only : s.FadeEngineOnly s.fastComplete.1 := by
  unfold State.fastComplete
  cases s.fades <;> rfl

theorem State.secureSlot_only : s.FadeEngineOnly s.secureSlot.1 := by
  unfold State.secureSlot
  split
  · exact s.fastComplete_only
  · exact .refl s

theorem State.rederiveForced_only (x : Option (Nat × Nat)) : s.FadeEngineOnly (s.rederiveForced x) := by cases x <;> rfl

theorem State.complete_only (f : Fade) : s.FadeEngineOnly (s.complete f) := by
  unfold State.complete
  cases f.follow <;> rfl

theorem State.resumePlayback_only (p : Nat) : s.FadeEngineOnly (s.resumePlayback p) := by
  unfold State.resumePlayback
  split <;> rfl

theorem State.launch_only (p num : Nat) (t : Option Nat) (l : Look) : s.FadeEngineOnly (s.launch p num t l).1 := by
  unfold State.launch
  dsimp only
  have h := (s.secureSlot_only.trans (State.resumePlayback_only _ p)).trans (State.cancelFollow_only _ p)
  generalize (s.secureSlot.1.resumePlayback p).cancelFollow p = s1 at h ⊢
  replace h := (h.trans (s1.setFades_only (s1.fades ++ [newFade s1.freeSlot p num t l]))).trans
    (State.takeLook_only _ s1.freeSlot p l.entries)
  generalize (s1.setFades (s1.fades ++ [newFade s1.freeSlot p num t l])).takeLook s1.freeSlot p l.entries = s2 at h ⊢
  split
  · exact h.trans (((((State.updateFade_only ..).trans (State.setPlayback_only ..)).trans (State.complete_only ..)).trans
      (State.rederive_only ..)).trans (State.rederiveForced_only ..))
  · exact h.trans ((((State.updateFade_only ..).trans (State.setPlayback_only ..)).trans (State.rederive_only ..)).trans
      (State.rederiveForced_only ..))

theorem State.fireFollow_only (p num : Nat) : s.FadeEngineOnly (s.fireFollow p num) := by
  unfold State.fireFollow
  dsimp only
  split
  · rfl
  · split
    · rfl
    · exact (s.cancelFollow_only p).trans (State.launch_only ..)

theorem State.fireDue_only (p : Nat) : s.FadeEngineOnly (s.fireDue p) := by
  unfold State.fireDue
  split
  · rfl
  · split
    · exact s.fireFollow_only ..
    · rfl

theorem State.countFollow_only (p : Nat) (b : Bool) : s.FadeEngineOnly (s.countFollow p b) := by
  unfold State.countFollow
  split
  · rfl
  · split <;> rfl

theorem followStep_only (fresh : List Nat) (p : Nat) : s.FadeEngineOnly (followStep fresh s p) := by
  unfold followStep
  split
  · exact .refl s
  · exact (s.countFollow_only ..).trans (State.fireDue_only ..)

theorem State.bounce_only (f : Fade) : s.FadeEngineOnly (s.bounce f).1 := by
  unfold State.bounce
  dsimp only
  split
  · exact (s.mapEntries_only ..).trans (State.complete_only ..)
  · exact (s.mapEntries_only ..).trans (State.updateFade_only ..)

theorem advanceFade_only (fresh : List Nat) (n : Nat) : s.FadeEngineOnly (advanceFade (s, fresh) n).1 := by
  unfold advanceFade
  dsimp only
  split
  · exact .refl s
  · rename_i f _
    split
    · exact .refl s
    · have h := (s.updateFade_only { f with elapsed := f.elapsed + 1 }).trans
        (State.mapEntries_only _ f.playback (Fade.move { f with elapsed := f.elapsed + 1 }))
      generalize (s.updateFade { f with elapsed := f.elapsed + 1 }).mapEntries f.playback
        (Fade.move { f with elapsed := f.elapsed + 1 }) = s1 at h ⊢
      split
      · exact h
      · split
        · split
          · exact (h.trans (s1.bounce_only _)).trans (State.rederive_only _ f.playback)
          · exact h.trans (s1.bounce_only _)
        · exact (h.trans (s1.complete_only _)).trans (State.rederive_only _ f.playback)

/-- The fade engine's whole work at a fade interval event changes the playbacks and the fade list alone. -/
theorem State.fadeTick_only : s.FadeEngineOnly s.fadeTick := by
  have h (ns : List Nat) : ∀ x : State × List Nat, x.1.FadeEngineOnly (ns.foldl advanceFade x).1 := by
    induction ns with
    | nil => exact fun x => .refl x.1
    | cons n t ih => exact fun x => (advanceFade_only x.1 x.2 n).trans (ih _)
  exact (h _ (s, [])).trans (State.FadeEngineOnly.foldl _ (fun s p => followStep_only s _ p) _ _)

/-! ### Entries -/

theorem Fade.move_initial (f : Fade) : f.move Entry.initial = Entry.initial := rfl
theorem Entry.finish_initial (n : Nat) : Entry.finish n Entry.initial = Entry.initial := rfl
theorem Entry.turn_initial (n : Nat) : Entry.turn n Entry.initial = Entry.initial := rfl

/-- Advancing an entry changes its level alone. -/
theorem Fade.move_fields (f : Fade) (e : Entry) :
    (f.move e).owner = e.owner ∧ (f.move e).start = e.start ∧ (f.move e).target = e.target ∧ (f.move e).part = e.part := by
  unfold Fade.move
  split <;> exact ⟨rfl, rfl, rfl, rfl⟩

/-- A finished entry of the fade stands at its target with no owner, and any other is as it was. -/
theorem Entry.finish_cases (n : Nat) (e : Entry) :
    (e.owner = some n ∧ Entry.finish n e = { e with level := e.target, owner := none }) ∨
    (e.owner ≠ some n ∧ Entry.finish n e = e) := by
  unfold Entry.finish
  by_cases h : e.owner = some n <;> simp [h]

/-- No entry is owned by a fade after it finished. -/
theorem Entry.finish_owner (n : Nat) (e : Entry) : (Entry.finish n e).owner ≠ some n := by
  rcases Entry.finish_cases n e with ⟨-, h⟩ | ⟨h', h⟩ <;> simp [h]
  exact h'

/-- A takeover writes the one entry, from the level at which it stands, and no other. -/
theorem State.entry_takeEntry (n p ch target : Nat) (part : Part) (p' ch' : Nat) :
    (s.takeEntry n p ch target part).entry p' ch' =
      if p = p' ∧ ch = ch' then
        { s.entry p ch with owner := some n, start := (s.entry p ch).level, target := target, part := part }
      else s.entry p' ch' := by
  unfold State.takeEntry
  dsimp only
  split
  · exact State.entry_setEntry s p p' ch ch' _
  · exact State.entry_setEntry (s.dropClaim _) p p' ch ch' _

/-! ### Slots -/

theorem State.fade_some {n : Nat} {f : Fade} (h : s.fade n = some f) : f ∈ s.fades ∧ f.number = n := by
  unfold State.fade at h
  exact ⟨List.mem_of_find?_eq_some h, by simpa using List.find?_some h⟩

theorem State.fade_none {n : Nat} : s.fade n = none ↔ ∀ f ∈ s.fades, f.number ≠ n := by simp [State.fade]

/-- The slot taken lies in the range of the fade numbers. -/
theorem State.freeSlot_range : 1 ≤ s.freeSlot ∧ s.freeSlot ≤ Config.fadeSlots := by
  unfold State.freeSlot
  cases h : (List.range' 1 Config.fadeSlots).find? fun n => (s.fade n).isNone with
  | none => decide
  | some n =>
    have := List.mem_range'_1.mp (List.mem_of_find?_eq_some h)
    exact ⟨this.1, by simpa using Nat.lt_succ_iff.mp (by omega : n < Config.fadeSlots + 1)⟩

/-- With fewer fades than slots the slot taken is free. -/
theorem State.freeSlot_free (h : s.fades.length < Config.fadeSlots) : s.fade s.freeSlot = none := by
  unfold State.freeSlot
  cases hf : (List.range' 1 Config.fadeSlots).find? fun n => (s.fade n).isNone with
  | some n => simpa using List.find?_some hf
  | none =>
    exfalso
    have hall : List.range' 1 Config.fadeSlots ⊆ s.fades.map Fade.number := fun n hn => by
      have := List.find?_eq_none.mp hf n hn
      obtain ⟨f, e⟩ : ∃ f, s.fade n = some f := by
        cases e : s.fade n with
        | none => simp [e] at this
        | some f => exact ⟨f, rfl⟩
      exact List.mem_map.mpr ⟨f, s.fade_some e⟩
    have := (List.nodup_range' (s := 1) (n := Config.fadeSlots) (step := 1)).subperm hall |>.length_le
    simp at this
    omega

end Sys2Proof.Machine
end

