-- ==== Sys2Proof/Laws/Links.lean ====
section
/-!
SUPPORT. What the operations of the link controllers and of the transfer controller can do, each said once: they change the banks, the
circuits and the links alone, and what placing an order, pairing, acknowledging and abandoning leave.
-/

namespace Sys2Proof.Machine

/-- Nothing but the banks, the circuit records and the link controllers differs. -/
def State.RigOnly (s t : State) : Prop := t = { s with banks := t.banks, circuits := t.circuits, links := t.links }

namespace State.RigOnly

theorem refl (s : State) : s.RigOnly s := rfl

theorem trans {s t u : State} (h : s.RigOnly t) (h' : t.RigOnly u) : s.RigOnly u := by
  unfold State.RigOnly at *
  rw [h'] ; rw [h]

/-- The console ports, the port served last and the queue of commands, as the service of a request asks for them. -/
theorem kept {s t : State} (h : s.RigOnly t) : t.ports = s.ports ∧ t.servedLast = s.servedLast ∧ t.pending = s.pending := by
  rw [h]; exact ⟨rfl, rfl, rfl⟩

theorem rig {s t : State} (h : s.RigOnly t) : t.rig = s.rig := by rw [h]
theorem liveBank {s t : State} (h : s.RigOnly t) : t.liveBank = s.liveBank := by rw [h]
theorem playback {s t : State} (h : s.RigOnly t) (p : Nat) : t.playback p = s.playback p := by rw [h]; rfl
theorem fades {s t : State} (h : s.RigOnly t) : t.fades = s.fades := by rw [h]

/-- A fold whose every step is such a change is one. -/
theorem foldl {α : Type} (f : State → α → State) (h : ∀ (s : State) a, s.RigOnly (f s a)) (xs : List α) (s : State) :
    s.RigOnly (xs.foldl f s) := by
  induction xs generalizing s with
  | nil => exact refl s
  | cons a t ih => exact (h s a).trans (ih _)

/-- The same for a fold that carries a second value. -/
theorem foldlPair {α β : Type} (f : State × β → α → State × β) (h : ∀ (x : State × β) a, x.1.RigOnly (f x a).1) (xs : List α)
    (x : State × β) : x.1.RigOnly (xs.foldl f x).1 := by
  induction xs generalizing x with
  | nil => exact refl x.1
  | cons a t ih => exact (h x a).trans (ih _)

end State.RigOnly

variable (s : State)

theorem State.setCircuit_only (n : Nat) (v : Circuit) : s.RigOnly (s.setCircuit n v) := rfl
theorem State.setLink_only (l : LinkId) (v : Link) : s.RigOnly (s.setLink l v) := by cases l <;> rfl
theorem State.setRow_only (l : LinkId) (r : Nat) (v : RackRow) : s.RigOnly (s.setRow l r v) := s.setLink_only l _
theorem State.rewriteRecords_only (f : PatchRec → PatchRec) : s.RigOnly (s.rewriteRecords f) := rfl
theorem State.mapCircuits_only (f : Circuit → Circuit) : s.RigOnly (s.mapCircuits f) := rfl
theorem State.setPending_only (l : LinkId) (r : Nat) (w : Option PendingOrder) : s.RigOnly (s.setPending l r w) :=
  s.setRow_only l r _

/-! ### Orders -/

/-- Writing a rack's pending order changes that rack's pending order and no other row. -/
@[simp] theorem State.row_setPending (l l' : LinkId) (r r' : Nat) (w : Option PendingOrder) :
    (s.setPending l r w).row l' r' = if l = l' ∧ r = r' then { s.row l r with pendingOrder := w } else s.row l' r' :=
  State.row_setRow s l l' r r' _

@[simp] theorem State.circuit_setPending (l : LinkId) (r n : Nat) (w : Option PendingOrder) :
    (s.setPending l r w).circuit n = s.circuit n := by simp [State.setPending, State.setRow]

/-- An order is placed where the rack holds none, and else nothing changes. -/
theorem State.placeOrder_cases (l : LinkId) (r : Nat) (o : Order) :
    ((s.row l r).pendingOrder = none ∧ s.placeOrder l r o = s.setPending l r (some ⟨o, 0⟩)) ∨
    ((s.row l r).pendingOrder ≠ none ∧ s.placeOrder l r o = s) := by
  unfold State.placeOrder
  cases h : (s.row l r).pendingOrder <;> simp

theorem State.placeOrder_only (l : LinkId) (r : Nat) (o : Order) : s.RigOnly (s.placeOrder l r o) := by
  rcases s.placeOrder_cases l r o with ⟨-, h⟩ | ⟨-, h⟩ <;> rw [h]
  · exact s.setPending_only ..
  · exact .refl s

@[simp] theorem State.circuit_placeOrder (l : LinkId) (r n : Nat) (o : Order) :
    (s.placeOrder l r o).circuit n = s.circuit n := by
  rcases s.placeOrder_cases l r o with ⟨-, h⟩ | ⟨-, h⟩ <;> simp [h]

/-- The next waiting order is placed where one is owed and none is pending, and else nothing changes. -/
theorem State.placeNext_cases (l : LinkId) (r : Nat) :
    (∃ o rest, s.owedOrders l r = o :: rest ∧ (s.row l r).pendingOrder = none ∧
      s.placeNext l r = s.setPending l r (some ⟨o, 0⟩)) ∨
    ((s.owedOrders l r = [] ∨ (s.row l r).pendingOrder ≠ none) ∧ s.placeNext l r = s) := by
  unfold State.placeNext
  cases h : s.owedOrders l r with
  | nil => exact .inr ⟨.inl rfl, rfl⟩
  | cons o rest =>
    rcases s.placeOrder_cases l r o with ⟨h1, h2⟩ | ⟨h1, h2⟩
    · exact .inl ⟨o, rest, rfl, h1, h2⟩
    · exact .inr ⟨.inr h1, h2⟩

theorem State.placeNext_only (l : LinkId) (r : Nat) : s.RigOnly (s.placeNext l r) := by
  rcases s.placeNext_cases l r with ⟨_, _, -, -, h⟩ | ⟨-, h⟩ <;> rw [h]
  · exact s.setPending_only ..
  · exact .refl s

@[simp] theorem State.circuit_placeNext (l : LinkId) (r n : Nat) : (s.placeNext l r).circuit n = s.circuit n := by
  rcases s.placeNext_cases l r with ⟨_, _, -, -, h⟩ | ⟨-, h⟩ <;> simp [h]

/-- Owed orders are read from the circuit records alone. -/
theorem State.owedOrders_congr {s t : State} (h : ∀ n, t.circuit n = s.circuit n) (l : LinkId) (r : Nat) :
    t.owedOrders l r = s.owedOrders l r := by
  unfold State.owedOrders State.owedOrder
  simp only [h]

/-! ### Pairing, acknowledgement, abandonment -/

/-- A pairing writes the two circuits it joins and no other. -/
theorem State.circuit_pairUp {failed spare : Nat} (h : failed ≠ spare) (n : Nat) :
    (s.pairUp failed spare).circuit n =
      if n = failed then { s.circuit failed with pairing := .ordered spare }
      else if n = spare then { s.circuit spare with role := .spareHeld, pairing := .ordered failed }
      else s.circuit n := by
  unfold State.pairUp
  simp only [State.circuit_placeOrder, State.circuit_setCircuit, h, if_false, eq_comm (b := n)]
  by_cases h1 : n = failed <;> by_cases h2 : n = spare <;> simp [h1, h2, h, Ne.symm h]

theorem State.pairUp_only (failed spare : Nat) : s.RigOnly (s.pairUp failed spare) :=
  ((s.setCircuit_only ..).trans (State.setCircuit_only ..)).trans (State.placeOrder_only ..)

theorem State.seekSpare_only (n : Nat) : s.RigOnly (s.seekSpare n) := by
  unfold State.seekSpare
  split
  · split
    · exact s.pairUp_only ..
    · exact s.setCircuit_only ..
  · exact s.setCircuit_only ..

theorem State.confirmFailure_only (n : Nat) : s.RigOnly (s.confirmFailure n) := by
  unfold State.confirmFailure
  dsimp only
  split
  · exact (s.setCircuit_only ..).trans (State.seekSpare_only ..)
  · exact s.setCircuit_only ..

theorem State.ackTransfer_only (failed spare : Nat) : s.RigOnly (s.ackTransfer failed spare) := by
  unfold State.ackTransfer
  dsimp only
  split
  · exact (s.setCircuit_only ..).trans (State.rewriteRecords_only ..)
  · exact ((s.setCircuit_only ..).trans (State.setCircuit_only ..)).trans (State.rewriteRecords_only ..)

theorem State.ackUndo_only (failed spare : Nat) : s.RigOnly (s.ackUndo failed spare) :=
  ((s.rewriteRecords_only ..).trans (State.setCircuit_only ..)).trans (State.setCircuit_only ..)

theorem State.acknowledge_only (l : LinkId) (r : Nat) (o : Order) : s.RigOnly (s.acknowledge l r o) := by
  unfold State.acknowledge
  dsimp only
  split
  · exact ((s.setPending_only ..).trans (State.ackTransfer_only ..)).trans (State.placeNext_only ..)
  · exact ((s.setPending_only ..).trans (State.ackUndo_only ..)).trans (State.placeNext_only ..)

theorem State.revertPairing_only (k : OrderKind) (failed spare : Nat) : s.RigOnly (s.revertPairing k failed spare) := by
  unfold State.revertPairing
  split
  · exact s.setCircuit_only ..
  · exact (s.setCircuit_only ..).trans (State.setCircuit_only ..)
  · exact (s.setCircuit_only ..).trans (State.setCircuit_only ..)

theorem State.abandon_only (l : LinkId) (r : Nat) (o : Order) : s.RigOnly (s.abandon l r o) :=
  ((s.setRow_only ..).trans (State.revertPairing_only ..)).trans (State.placeNext_only ..)

theorem State.oweUndo_only (l : LinkId) (r : Nat) (o : Order) : s.RigOnly (s.oweUndo l r o) := by
  unfold State.oweUndo
  split
  · split
    · exact s.setPending_only ..
    · exact .refl s
  · exact s.setPending_only ..

/-! ### Polls and replies -/

theorem State.closeWindow_only (l : LinkId) : s.RigOnly (s.closeWindow l) := s.setLink_only ..

theorem State.windowSilent_only (l : LinkId) : s.RigOnly (s.windowSilent l) := by
  unfold State.windowSilent
  split
  · exact .refl s
  · exact (s.closeWindow_only l).trans (State.setRow_only ..)

/-- A silent poll changes its own link alone. -/
theorem State.link_windowSilent {l m : LinkId} (h : m ≠ l) : (s.windowSilent l).link m = s.link m := by
  unfold State.windowSilent
  split
  · rfl
  · simp [State.closeWindow, State.setRow, h.symm]

theorem State.takeAck_only (l : LinkId) (r : Nat) (c a : Option Order) : s.RigOnly (s.takeAck l r c a).1 := by
  unfold State.takeAck
  split
  · exact .refl s
  · split
    · split
      · exact s.acknowledge_only ..
      · split
        · exact s.setPending_only ..
        · exact s.abandon_only ..
    · exact .refl s

theorem takeReport_only (l : LinkId) (r : Nat) (x : State × Bool) (p : Report) : x.1.RigOnly (takeReport l r x p).1 := rfl

theorem takeHealth_only (l : LinkId) (r : Nat) (ps : List Report) (x : State × Bool) (i : Nat) :
    x.1.RigOnly (takeHealth l r ps x i).1 := by
  unfold takeHealth
  dsimp only
  split
  · split
    · exact x.1.setCircuit_only ..
    · exact x.1.confirmFailure_only _
    · exact x.1.setCircuit_only ..
    · exact .refl x.1
  · exact .refl x.1

/-- A READY reply changes the banks, the circuits and the links alone. -/
theorem State.takeReady_only (l : LinkId) (r : Nat) (c : Option Order) (y : ReplyFrame) : s.RigOnly (s.takeReady l r c y) := by
  unfold State.takeReady
  dsimp only
  exact (((s.setRow_only ..).trans (State.takeAck_only ..)).trans
    (State.RigOnly.foldlPair _ (takeReport_only l r) y.reports (_, false))).trans
    ((State.RigOnly.foldlPair _ (takeHealth_only l r y.reports) (List.range' 1 32) (_, false)).trans (State.setRow_only ..))

theorem State.placeAll_only (l : LinkId) : s.RigOnly (s.placeAll l) :=
  State.RigOnly.foldl _ (fun s r => s.placeNext_only l r) _ s

/-- The rack polled next is in the poll order. -/
theorem Link.choose_mem {k : Link} {r : Nat} (h : k.choose = some r) : r ∈ k.pollOrder := by
  unfold Link.choose at h
  split at h
  · rename_i q hq
    unfold Link.repeats at hq
    split at hq
    · cases hq
    · split at hq
      · rename_i hc
        simp only [Bool.and_eq_true, List.contains_iff_mem] at hc
        simp only [Option.some.injEq] at hq h
        exact h ▸ hq ▸ hc.1.1
      · cases hq
  · split at h
    · rename_i q hq
      exact Option.some.inj h ▸ List.mem_of_find?_eq_some hq
    · exact List.mem_of_mem_head? h

/-- With racks in the poll order one is polled. -/
theorem Link.choose_none {k : Link} : k.choose = none ↔ k.pollOrder = [] := by
  constructor
  · intro h
    unfold Link.choose at h
    split at h
    · cases h
    · split at h
      · cases h
      · simpa using h
  · intro h
    cases hc : k.choose with
    | none => rfl
    | some r => simpa [h] using Link.choose_mem hc

end Sys2Proof.Machine
end

