-- ==== Sys2Proof/Laws/Ops.lean ====
section
/-!
SUPPORT. What the shared operations of the request engine and the ports can do, each said once: closing a transfer early, taking
a request, serving it, and answering it.
-/

namespace Sys2Proof.Machine

variable (s : State)

/-- An early close changes its port alone, to the closed port. -/
theorem State.closeEarly_eq (p : Port) : s.closeEarly p = s.setPort p (s.port p).closed := by
  unfold State.closeEarly State.dropTransfer State.produce PortState.closed PortState.earlyAnswers
  cases h : (s.port p).transfer with
  | none => cases p <;> simp [State.setPort, State.port] at h ⊢ <;> simp [← h]
  | some t => cases p <;> simp [State.setPort, State.port]

/-- The taking of a request changes the port it is taken from and the port served last, and nothing else. -/
theorem State.taken_eq (p : Port) : s.taken p = (s.setPort p (s.port p).afterTaking).serving p := by
  unfold State.taken State.popQueue
  rw [State.closeEarly_eq]
  cases p <;> rfl

theorem State.taken_port (p : Port) : (s.taken p).port p = (s.port p).afterTaking := by
  simp [State.taken_eq]

/-- An answer joins its port's outgoing answers, and nothing else changes. -/
theorem State.answer_eq (p : Port) (r : Request) (y : Reply) :
    s.answer p r y = s.setPort p ((s.port p).answering (r.answered y)) := rfl

/-- Everything the service of a request can do: where the engine takes a request of this code it performs it on its
parameters in the state after the taking and answers it, and else nothing changes. -/
theorem State.serve_cases (code : ReqCode) (perform : List Byte → State → State × Reply) :
    (∃ p r, s.nextRequest = some (p, r) ∧ r.code = code ∧
      s.serve code perform =
        (perform r.params (s.taken p)).1.answer p r (perform r.params (s.taken p)).2) ∨
    ((∀ p r, s.nextRequest = some (p, r) → r.code ≠ code) ∧ s.serve code perform = s) := by
  unfold State.serve
  cases h : s.nextRequest with
  | none => exact .inr ⟨by simp, rfl⟩
  | some pr =>
    obtain ⟨p, r⟩ := pr
    by_cases hc : r.code = code
    · exact .inl ⟨p, r, rfl, hc, by simp [hc]⟩
    · refine .inr ⟨fun p' r' e => ?_, by simp [hc]⟩
      obtain ⟨rfl, rfl⟩ := Prod.mk.injEq .. ▸ Option.some.inj e
      exact hc

/-- The service of the request the engine takes next, when it has this code. -/
theorem State.serve_next {code : ReqCode} {p : Port} {r : Request} (perform : List Byte → State → State × Reply)
    (h : s.nextRequest = some (p, r)) (hc : r.code = code) :
    s.serve code perform = (perform r.params (s.taken p)).1.answer p r (perform r.params (s.taken p)).2 := by
  simp [State.serve, h, hc]

/-- The same for an announcing request. -/
theorem State.serveOpening_next {code : ReqCode} {p : Port} {r : Request}
    (opening : Request → State → Except ReqOutcome Transfer) (h : s.nextRequest = some (p, r)) (hc : r.code = code) :
    s.serveOpening code opening =
      match opening r (s.taken p) with
      | .ok t => (s.taken p).setPort p { (s.taken p).port p with transfer := some t, inactivityTimer := .running }
      | .error o => ((s.taken p).setPort p { (s.taken p).port p with dataHold := [] }).answer p r (.refuse o) := by
  simp [State.serveOpening, h, hc] <;> rfl

/-- A request performed by a change that leaves the ports, the port served last and the queue of commands as the taking left them is
served: its port has the answer. -/
theorem State.served_of_kept {p : Port} {r : Request} {t : State} (y : Reply)
    (hp : t.ports = (s.taken p).ports) (hl : t.servedLast = (s.taken p).servedLast) (hq : t.pending = (s.taken p).pending) :
    s.Served (t.answer p r y) p r y := by
  have hport : ∀ q, t.port q = (s.taken p).port q := fun q => by cases q <;> simp [State.port, hp]
  refine ⟨?_, ?_, ?_, ?_⟩
  · simp [State.answer_eq, hport, State.taken_port, PortState.afterServing]
  · have hne : p ≠ otherPort p := by cases p <;> simp [otherPort]
    simp [State.answer_eq, hport, State.taken_eq, hne]
  · simp [State.answer_eq, hl, State.taken_eq]
  · simp [State.answer_eq, hq, State.taken_eq]

/-- The state after the taking of a request is the state before with other ports and another port served last. -/
theorem State.taken_form (p : Port) : ∃ q, s.taken p = { s with ports := q, servedLast := some p } := by
  refine ⟨(s.taken p).ports, ?_⟩
  rw [State.taken_eq]
  cases p <;> rfl

/-- A request row completes with a reply, if performing the request leaves the ports, the port served last and the queue of commands as
the taking left them. -/
theorem State.serves_of {s : State} {c : Instr} {code : ReqCode} {perform : List Byte → State → State × Reply} {ps : List Byte}
    {y : Reply} {after : State → Prop} (hexec : exec c s = .next (s.serve code perform))
    (h : ∀ p sq, (perform ps (s.taken p)).2 = y ∧ (perform ps (s.taken p)).1.ports = (s.taken p).ports ∧
      (perform ps (s.taken p)).1.servedLast = (s.taken p).servedLast ∧
      (perform ps (s.taken p)).1.pending = (s.taken p).pending ∧
      after ((perform ps (s.taken p)).1.answer p ⟨sq, code, ps⟩ y)) : s.Serves c code ps y after := by
  intro p sq hn
  obtain ⟨h1, h2, h3, h4, h5⟩ := h p sq
  refine ⟨_, ?_, State.served_of_kept s y h2 h3 h4, h5⟩
  rw [hexec, State.serve_next s perform hn rfl]
  simp [h1]

/-- A request row that only answers: nothing but the ports changes. -/
theorem State.serves_same {s : State} {c : Instr} {code : ReqCode} {perform : List Byte → State → State × Reply} {ps : List Byte}
    {y : Reply} (hexec : exec c s = .next (s.serve code perform)) (h : ∀ p, perform ps (s.taken p) = (s.taken p, y)) :
    s.Serves c code ps y s.SameButPorts := by
  refine State.serves_of hexec fun p sq => ?_
  rw [h]
  refine ⟨rfl, rfl, rfl, rfl, ?_⟩
  rw [State.taken_eq, State.answer_eq]
  cases p <;> rfl

end Sys2Proof.Machine
end

