-- ==== Sys2Proof/Laws/Patch.lean ====
section
/-!
SUPPORT. What the operations on a bank's records can do, each said once: bank order, replacing and removing a record, storing one, and
rewriting every bank.
-/

namespace Sys2Proof.Machine

/-! ### Bank order -/

theorem recBefore_iff (r r' : PatchRec) :
    recBefore r r' = true ↔ r.channel < r'.channel ∨ (r.channel = r'.channel ∧ r.circuit < r'.circuit) := by
  simp [recBefore]

theorem recBefore_trans {a b c : PatchRec} (h : recBefore a b = true) (h' : recBefore b c = true) :
    recBefore a c = true := by
  simp only [recBefore_iff] at *; omega

/-- Of two records with different keys, the one that does not stand before the other stands after it. -/
theorem recBefore_of_not {a b : PatchRec} (h : ¬ recBefore a b = true)
    (hk : ¬ (b.channel = a.channel ∧ b.circuit = a.circuit)) : recBefore b a = true := by
  simp only [recBefore_iff] at *; omega

theorem PatchRec.isFor_iff (r : PatchRec) (ch ck : Nat) : r.isFor ch ck = true ↔ r.channel = ch ∧ r.circuit = ck := by
  simp [PatchRec.isFor]

/-- Putting a record in its place adds that record and moves none. -/
theorem perm_insertRec (r : PatchRec) (rs : List PatchRec) : (insertRec r rs).Perm (r :: rs) := by
  induction rs with
  | nil => exact .refl _
  | cons x t ih =>
    unfold insertRec
    split
    · exact .refl _
    · exact (ih.cons x).trans (.swap r x t)

/-- Sorting loses no record and makes none. -/
theorem perm_sortRecs (rs : List PatchRec) : (sortRecs rs).Perm rs := by
  induction rs with
  | nil => exact .refl _
  | cons r t ih => exact (perm_insertRec r _).trans (ih.cons r)

@[simp] theorem mem_insertRec {r x : PatchRec} {rs : List PatchRec} : x ∈ insertRec r rs ↔ x = r ∨ x ∈ rs := by
  simp [(perm_insertRec r rs).mem_iff]

@[simp] theorem mem_sortRecs {x : PatchRec} {rs : List PatchRec} : x ∈ sortRecs rs ↔ x ∈ rs := (perm_sortRecs rs).mem_iff

@[simp] theorem length_insertRec (r : PatchRec) (rs : List PatchRec) : (insertRec r rs).length = rs.length + 1 :=
  (perm_insertRec r rs).length_eq

@[simp] theorem length_sortRecs (rs : List PatchRec) : (sortRecs rs).length = rs.length := (perm_sortRecs rs).length_eq

/-- A record put into a bank in strict order that has none of its key leaves the bank in strict order. -/
theorem sorted_insertRec {r : PatchRec} {rs : List PatchRec} (hs : rs.Pairwise fun a b => recBefore a b = true)
    (hk : ∀ x ∈ rs, ¬ (x.channel = r.channel ∧ x.circuit = r.circuit)) :
    (insertRec r rs).Pairwise fun a b => recBefore a b = true := by
  induction rs with
  | nil => simp [insertRec]
  | cons x t ih =>
    rw [List.pairwise_cons] at hs
    unfold insertRec
    split
    · rename_i h
      refine List.pairwise_cons.mpr ⟨fun y hy => ?_, List.pairwise_cons.mpr hs⟩
      rcases List.mem_cons.mp hy with rfl | hy
      · exact h
      · exact recBefore_trans h (hs.1 y hy)
    · rename_i h
      refine List.pairwise_cons.mpr ⟨fun y hy => ?_, ih hs.2 fun y hy => hk y (by simp [hy])⟩
      rcases mem_insertRec.mp hy with rfl | hy
      · exact recBefore_of_not h (hk x (by simp))
      · exact hs.1 y hy

/-- Records of pairwise different keys stand in strict bank order once sorted. -/
theorem sorted_sortRecs {rs : List PatchRec}
    (hk : rs.Pairwise fun a b => ¬ (b.channel = a.channel ∧ b.circuit = a.circuit)) :
    (sortRecs rs).Pairwise fun a b => recBefore a b = true := by
  induction rs with
  | nil => simp [sortRecs]
  | cons r t ih =>
    rw [List.pairwise_cons] at hk
    exact sorted_insertRec (ih hk.2) fun x hx => hk.1 x (mem_sortRecs.mp hx)

/-- A bank in strict order holds no two records of one key. -/
theorem keys_of_sorted {rs : List PatchRec} (hs : rs.Pairwise fun a b => recBefore a b = true) :
    rs.Pairwise fun a b => ¬ (b.channel = a.channel ∧ b.circuit = a.circuit) :=
  hs.imp fun {a b} h => by simp only [recBefore_iff] at h; omega

/-! ### Finding, replacing and removing -/

theorem findRec_some {rs : List PatchRec} {ch ck : Nat} {r : PatchRec} (h : findRec rs ch ck = some r) :
    r ∈ rs ∧ r.channel = ch ∧ r.circuit = ck := by
  unfold findRec at h
  exact ⟨List.mem_of_find?_eq_some h, (r.isFor_iff ch ck).mp (by simpa using List.find?_some h)⟩

theorem findRec_none {rs : List PatchRec} {ch ck : Nat} :
    findRec rs ch ck = none ↔ ∀ r ∈ rs, ¬ (r.channel = ch ∧ r.circuit = ck) := by
  simp [findRec, PatchRec.isFor]

@[simp] theorem length_replaceRec (rs : List PatchRec) (ch ck prop : Nat) :
    (replaceRec rs ch ck prop).length = rs.length := by simp [replaceRec]

/-- A replacement changes proportions alone: every record after it is one of before with a proportion of its own. -/
theorem mem_replaceRec {rs : List PatchRec} {ch ck prop : Nat} {x : PatchRec} (h : x ∈ replaceRec rs ch ck prop) :
    ∃ r ∈ rs, x = if r.isFor ch ck then { r with proportion := prop } else r := by
  obtain ⟨r, hr, e⟩ := List.mem_map.mp h
  exact ⟨r, hr, e.symm⟩

/-- A replacement keeps bank order. -/
theorem sorted_replaceRec {rs : List PatchRec} (ch ck prop : Nat) (hs : rs.Pairwise fun a b => recBefore a b = true) :
    (replaceRec rs ch ck prop).Pairwise fun a b => recBefore a b = true := by
  refine List.pairwise_map.mpr (hs.imp fun {a b} h => ?_)
  simp only [recBefore_iff] at *
  split <;> split <;> exact h

/-- A removal takes out the records of the key and no other. -/
@[simp] theorem mem_removeRec {rs : List PatchRec} {ch ck : Nat} {x : PatchRec} :
    x ∈ removeRec rs ch ck ↔ x ∈ rs ∧ ¬ (x.channel = ch ∧ x.circuit = ck) := by
  simp [removeRec, PatchRec.isFor, imp_iff_not_or]

theorem sorted_removeRec {rs : List PatchRec} (ch ck : Nat) (hs : rs.Pairwise fun a b => recBefore a b = true) :
    (removeRec rs ch ck).Pairwise fun a b => recBefore a b = true := hs.filter _

/-! ### The checks and the edit -/

variable (s : State)

/-- The circuits an edit may use and what it stores with them. -/
theorem State.resolve_cases {ck used : Nat} {orig : Option Nat} (h : s.resolve ck = some (used, orig)) :
    ((s.circuit ck).role = .ordinary ∧ used = ck ∧ orig = none) ∨
    ((s.circuit ck).role = .failed ∧ ((s.circuit ck).pairing = .unpaired ∨ ∃ m, (s.circuit ck).pairing = .ordered m) ∧
      used = ck ∧ orig = none) ∨
    ((s.circuit ck).role = .failed ∧ ((s.circuit ck).pairing = .confirmed used ∨ (s.circuit ck).pairing = .restoring used) ∧
      orig = some ck) := by
  unfold State.resolve at h
  split at h
  · simp_all
  · rename_i hr
    cases hp : (s.circuit ck).pairing <;> simp_all
  · simp at h

/-- The edit may go on exactly when the operands are in range and the bank is unlocked and not the target of a darkening. -/
theorem State.editRefusal_none {inRange : Bool} {b : Nat} :
    s.editRefusal inRange b = none ↔ inRange = true ∧ s.changingBank b = false ∧ (s.bank b).locked = false := by
  unfold State.editRefusal State.bankRefusal
  cases inRange <;> cases s.changingBank b <;> cases (s.bank b).locked <;> decide

/-- Everything an edit that stores a record can do: the circuit resolves, and the record of the key has its proportion replaced, or
there is none and a new one joins with room in every limit. -/
theorem State.storeRecord_ok {b ch ck prop n : Nat} {t : State} {r : PatchRec}
    (h : s.storeRecord b ch ck prop = .ok (t, r, n)) :
    ∃ used orig, s.resolve ck = some (used, orig) ∧
      ((∃ old, findRec (s.records b) ch used = some old ∧ t = s.setRecords b (replaceRec (s.records b) ch used prop) ∧
          r = { old with proportion := prop } ∧ n = 0) ∨
        (findRec (s.records b) ch used = none ∧ s.hasRoom b ch used = true ∧
          t = s.setRecords b (insertRec ⟨ch, used, prop, orig⟩ (s.records b)) ∧ r = ⟨ch, used, prop, orig⟩ ∧ n = 1)) := by
  unfold State.storeRecord at h
  cases hr : s.resolve ck with
  | none => simp [hr] at h
  | some x =>
    obtain ⟨used, orig⟩ := x
    refine ⟨used, orig, rfl, ?_⟩
    cases hf : findRec (s.records b) ch used with
    | some old =>
      simp only [hr, hf, Except.ok.injEq, Prod.mk.injEq] at h
      exact .inl ⟨old, rfl, h.1.symm, h.2.1.symm, h.2.2.symm⟩
    | none =>
      simp only [hr, hf] at h
      split at h
      · rename_i room
        simp only [Except.ok.injEq, Prod.mk.injEq] at h
        exact .inr ⟨rfl, room, h.1.symm, h.2.1.symm, h.2.2.symm⟩
      · cases h

/-- An edit that stores a record changes the banks alone. -/
theorem State.storeRecord_frame {b ch ck prop n : Nat} {t : State} {r : PatchRec}
    (h : s.storeRecord b ch ck prop = .ok (t, r, n)) : t = { s with banks := t.banks } := by
  obtain ⟨_, _, -, ⟨_, -, rfl, -⟩ | ⟨-, -, rfl, -⟩⟩ := s.storeRecord_ok h <;> rfl

/-- The edit is refused for the role of the circuit or for want of room, and for nothing else. -/
theorem State.storeRecord_error {b ch ck prop : Nat} {o : ReqOutcome} (h : s.storeRecord b ch ck prop = .error o) :
    (s.resolve ck = none ∧ o = .conflict) ∨
    ∃ used orig, s.resolve ck = some (used, orig) ∧ findRec (s.records b) ch used = none ∧ s.hasRoom b ch used = false ∧
      o = .full := by
  unfold State.storeRecord at h
  cases hr : s.resolve ck with
  | none => simp only [hr, Except.error.injEq] at h; exact .inl ⟨rfl, h.symm⟩
  | some x =>
    obtain ⟨used, orig⟩ := x
    cases hf : findRec (s.records b) ch used with
    | some old => simp [hr, hf] at h
    | none =>
      simp only [hr, hf] at h
      split at h
      · cases h
      · rename_i room
        simp only [Except.error.injEq] at h
        exact .inr ⟨used, orig, rfl, hf, by simpa using room, h.symm⟩

/-! ### Rewriting -/

/-- A rewriting gives every bank its records rewritten and sorted, and changes no other part of any bank. -/
theorem State.bank_rewriteRecords (f : PatchRec → PatchRec) (b : Nat) :
    (s.rewriteRecords f).bank b = { s.bank b with records := sortRecs ((s.records b).map f) } :=
  Tbl.get_mapVals Bank.initial (fun _ b => { b with records := sortRecs (b.records.map f) }) s.banks b rfl

@[simp] theorem State.records_rewriteRecords (f : PatchRec → PatchRec) (b : Nat) :
    (s.rewriteRecords f).records b = sortRecs ((s.records b).map f) := by
  simp [State.records, s.bank_rewriteRecords f b]

@[simp] theorem State.circuit_rewriteRecords (f : PatchRec → PatchRec) (n : Nat) :
    (s.rewriteRecords f).circuit n = s.circuit n := rfl

@[simp] theorem State.link_rewriteRecords (f : PatchRec → PatchRec) (l : LinkId) :
    (s.rewriteRecords f).link l = s.link l := rfl

end Sys2Proof.Machine
end

