-- ==== Sys2Proof/Laws/PerInstr.lean ====
section
/-!
SUPPORT. The families of statements about every command as syntax, one lemma for each constructor.
-/

namespace Sys2Proof.Laws

open Sys2Proof.Machine

/-- A request row takes the request of one code byte of R191, which the decoding of code bytes reads back, which fits a byte and
which is not the code byte of data frames. The rows that are no request take none. -/
def RequestCodes.Statement (i : Instr) : Prop :=
  match i.requestCode with
  | none => True
  | some c => ReqCode.ofCode c.code = some c ∧ c.code ≠ dataCode.toNat ∧ c.code < 256

/-- Every request code reads back, fits a byte and is not that of data frames (R191). -/
theorem code_readback (c : ReqCode) : ReqCode.ofCode c.code = some c ∧ c.code ≠ dataCode.toNat ∧ c.code < 256 := by
  cases c <;> decide

theorem RequestCodes.powerOn (x y : Bool) : RequestCodes.Statement (.powerOn x y) := trivial
theorem RequestCodes.consoleReset : RequestCodes.Statement (.consoleReset) := trivial
theorem RequestCodes.consoleResetRelease : RequestCodes.Statement (.consoleResetRelease) := trivial
theorem RequestCodes.requestFrameArrival (p : Port) (xs : List LineSymbol) : RequestCodes.Statement (.requestFrameArrival p xs) := trivial
theorem RequestCodes.malformedFrameArrival (p : Port) (xs : List LineSymbol) : RequestCodes.Statement (.malformedFrameArrival p xs) := trivial
theorem RequestCodes.dataFrameArrival (p : Port) (xs : List LineSymbol) : RequestCodes.Statement (.dataFrameArrival p xs) := trivial
theorem RequestCodes.dataHoldDelivery (p : Port) : RequestCodes.Statement (.dataHoldDelivery p) := trivial
theorem RequestCodes.inactivityTimeout (p : Port) : RequestCodes.Statement (.inactivityTimeout p) := trivial
theorem RequestCodes.patchSet : RequestCodes.Statement (.patchSet) := code_readback _
theorem RequestCodes.patchSetIf : RequestCodes.Statement (.patchSetIf) := code_readback _
theorem RequestCodes.patchClear : RequestCodes.Statement (.patchClear) := code_readback _
theorem RequestCodes.patchClearIf : RequestCodes.Statement (.patchClearIf) := code_readback _
theorem RequestCodes.patchClearChannel : RequestCodes.Statement (.patchClearChannel) := code_readback _
theorem RequestCodes.patchSwap : RequestCodes.Statement (.patchSwap) := code_readback _
theorem RequestCodes.patchRange : RequestCodes.Statement (.patchRange) := code_readback _
theorem RequestCodes.patchLoad : RequestCodes.Statement (.patchLoad) := code_readback _
theorem RequestCodes.patchReadChannel : RequestCodes.Statement (.patchReadChannel) := code_readback _
theorem RequestCodes.patchReadCircuit : RequestCodes.Statement (.patchReadCircuit) := code_readback _
theorem RequestCodes.bankCopy : RequestCodes.Statement (.bankCopy) := code_readback _
theorem RequestCodes.bankErase : RequestCodes.Statement (.bankErase) := code_readback _
theorem RequestCodes.bankLock : RequestCodes.Statement (.bankLock) := code_readback _
theorem RequestCodes.bankUnlock : RequestCodes.Statement (.bankUnlock) := code_readback _
theorem RequestCodes.circuitSet : RequestCodes.Statement (.circuitSet) := code_readback _
theorem RequestCodes.circuitRead : RequestCodes.Statement (.circuitRead) := code_readback _
theorem RequestCodes.rigSet : RequestCodes.Statement (.rigSet) := code_readback _
theorem RequestCodes.rigRead : RequestCodes.Statement (.rigRead) := code_readback _
theorem RequestCodes.rigLock : RequestCodes.Statement (.rigLock) := code_readback _
theorem RequestCodes.rigUnlock : RequestCodes.Statement (.rigUnlock) := code_readback _
theorem RequestCodes.curveLoad : RequestCodes.Statement (.curveLoad) := code_readback _
theorem RequestCodes.curveRead : RequestCodes.Statement (.curveRead) := code_readback _
theorem RequestCodes.lookWrite : RequestCodes.Statement (.lookWrite) := code_readback _
theorem RequestCodes.lookRead : RequestCodes.Statement (.lookRead) := code_readback _
theorem RequestCodes.lookDelete : RequestCodes.Statement (.lookDelete) := code_readback _
theorem RequestCodes.go : RequestCodes.Statement (.go) := code_readback _
theorem RequestCodes.release : RequestCodes.Statement (.release) := code_readback _
theorem RequestCodes.hold : RequestCodes.Statement (.hold) := code_readback _
theorem RequestCodes.resume : RequestCodes.Statement (.resume) := code_readback _
theorem RequestCodes.stopLoop : RequestCodes.Statement (.stopLoop) := code_readback _
theorem RequestCodes.master : RequestCodes.Statement (.master) := code_readback _
theorem RequestCodes.deskClear : RequestCodes.Statement (.deskClear) := code_readback _
theorem RequestCodes.heldDeskClearPerformed : RequestCodes.Statement (.heldDeskClearPerformed) := trivial
theorem RequestCodes.playbackRead : RequestCodes.Statement (.playbackRead) := code_readback _
theorem RequestCodes.fadeRead : RequestCodes.Statement (.fadeRead) := code_readback _
theorem RequestCodes.channelRead : RequestCodes.Statement (.channelRead) := code_readback _
theorem RequestCodes.capture : RequestCodes.Statement (.capture) := code_readback _
theorem RequestCodes.uncapture : RequestCodes.Statement (.uncapture) := code_readback _
theorem RequestCodes.grand : RequestCodes.Statement (.grand) := code_readback _
theorem RequestCodes.blackout : RequestCodes.Statement (.blackout) := code_readback _
theorem RequestCodes.mixerRead : RequestCodes.Statement (.mixerRead) := code_readback _
theorem RequestCodes.outputRead : RequestCodes.Statement (.outputRead) := code_readback _
theorem RequestCodes.changeover : RequestCodes.Statement (.changeover) := code_readback _
theorem RequestCodes.switchEvent : RequestCodes.Statement (.switchEvent) := trivial
theorem RequestCodes.rackSet : RequestCodes.Statement (.rackSet) := code_readback _
theorem RequestCodes.rackRead : RequestCodes.Statement (.rackRead) := code_readback _
theorem RequestCodes.faultClear : RequestCodes.Statement (.faultClear) := code_readback _
theorem RequestCodes.reassign : RequestCodes.Statement (.reassign) := code_readback _
theorem RequestCodes.restore : RequestCodes.Statement (.restore) := code_readback _
theorem RequestCodes.transferRead : RequestCodes.Statement (.transferRead) := code_readback _
theorem RequestCodes.status : RequestCodes.Statement (.status) := code_readback _
theorem RequestCodes.statusAck : RequestCodes.Statement (.statusAck) := code_readback _
theorem RequestCodes.fadeInterval : RequestCodes.Statement (.fadeInterval) := trivial
theorem RequestCodes.frameDue (l : LinkId) : RequestCodes.Statement (.frameDue l) := trivial
theorem RequestCodes.pollFrameEnd (l : LinkId) : RequestCodes.Statement (.pollFrameEnd l) := trivial
theorem RequestCodes.windowExpiry (l : LinkId) : RequestCodes.Statement (.windowExpiry l) := trivial
theorem RequestCodes.replyArrival (l : LinkId) (bs : List Byte) : RequestCodes.Statement (.replyArrival l bs) := trivial
theorem RequestCodes.answerWhollySent (p : Port) : RequestCodes.Statement (.answerWhollySent p) := trivial

end Sys2Proof.Laws
end

