-- ==== Sys2Proof/Laws/Ports.lean ====
section
/-!
SUPPORT. What the operations of the console port events can do, each said once: what reception leaves, what an arrival does with it, which
port each touches, and what closing a transfer full and keeping it open leave.
-/

namespace Sys2Proof.Machine

variable (s : State)

/-! ### Reception -/

@[simp] theorem receive_nil (buffer : Option (List Byte)) : receive buffer [] = (buffer, []) := rfl

@[simp] theorem receive_cons (buffer : Option (List Byte)) (x : LineSymbol) (xs : List LineSymbol) :
    receive buffer (x :: xs) =
      ((receive (receiveSymbol buffer x).1 xs).1, (receiveSymbol buffer x).2.toList ++ (receive (receiveSymbol buffer x).1 xs).2) := rfl

/-- Receiving in two goes is receiving at once. -/
theorem receive_append (buffer : Option (List Byte)) (xs ys : List LineSymbol) :
    receive buffer (xs ++ ys) =
      ((receive (receive buffer xs).1 ys).1, (receive buffer xs).2 ++ (receive (receive buffer xs).1 ys).2) := by
  induction xs generalizing buffer with
  | nil => rfl
  | cons x xs ih => simp [ih]

/-- One symbol leaves no complete frame in the receive buffer. -/
theorem receiveSymbol_incomplete (buffer : Option (List Byte)) (x : LineSymbol) :
    ∀ bytes, (receiveSymbol buffer x).1 = some bytes → frameComplete bytes = false := by
  intro bytes
  unfold receiveSymbol
  split
  · rintro ⟨⟩; rfl
  · rintro ⟨⟩
  · split
    · rintro ⟨⟩
    · rintro ⟨⟩; exact Bool.not_eq_true _ ▸ ‹_›

/-- The receive buffer never holds a complete frame (R184). -/
theorem receive_incomplete (buffer : Option (List Byte)) (xs : List LineSymbol)
    (h : ∀ bytes, buffer = some bytes → frameComplete bytes = false) :
    ∀ bytes, (receive buffer xs).1 = some bytes → frameComplete bytes = false := by
  induction xs generalizing buffer with
  | nil => exact h
  | cons x xs ih => exact ih _ (receiveSymbol_incomplete buffer x)

/-! ### Arrivals -/

/-- All an arrival can do: nothing under reset, the receive buffer alone where no frame ends, the row's event where one frame of its kind
ends, and else nothing. -/
theorem State.onFrame_cases (p : Port) (symbols : List LineSymbol) (take : FrameClass → State → Option State) :
    (s.resetLine = true ∧ s.onFrame p symbols take = s) ∨
    (s.resetLine = false ∧ (receive (s.port p).receiveBuffer symbols).2 = [] ∧
      s.onFrame p symbols take = s.buffering p (receive (s.port p).receiveBuffer symbols).1) ∨
    (∃ frame t, s.resetLine = false ∧ (receive (s.port p).receiveBuffer symbols).2 = [frame] ∧
      take (classifyFrame frame) (s.buffering p (receive (s.port p).receiveBuffer symbols).1) = some t ∧
      s.onFrame p symbols take = t) ∨
    s.onFrame p symbols take = s := by
  unfold State.onFrame
  split
  · exact .inl ⟨‹_›, rfl⟩
  · rename_i hr
    have hr : s.resetLine = false := Bool.not_eq_true _ ▸ hr
    split
    · rename_i h
      exact .inr (.inl ⟨hr, by rw [h], by rw [h]⟩)
    · rename_i b f h
      rw [h]
      cases ht : take (classifyFrame f) (s.buffering p b) with
      | none => exact .inr (.inr (.inr rfl))
      | some t => exact .inr (.inr (.inl ⟨f, t, hr, rfl, ht, rfl⟩))
    · exact .inr (.inr (.inr rfl))

/-- An arrival that ends one frame is the row's event on it. -/
theorem State.onFrame_eq {p : Port} {symbols : List LineSymbol} {take : FrameClass → State → Option State}
    {buffer : Option (List Byte)} {frame : List Byte} (hr : s.resetLine = false)
    (h : receive (s.port p).receiveBuffer symbols = (buffer, [frame])) :
    s.onFrame p symbols take = (take (classifyFrame frame) (s.buffering p buffer)).getD s := by
  simp [State.onFrame, hr, h]

/-! ### Which port is touched -/

/-- Nothing but the banks and one console port differs. -/
def State.DeliveryOnly (s t : State) (p : Port) : Prop :=
  t = { s with banks := t.banks, ports := t.ports } ∧ t.port (otherPort p) = s.port (otherPort p)

theorem State.setPort_delivery (p : Port) (v : PortState) : s.DeliveryOnly (s.setPort p v) p := by
  cases p <;> exact ⟨rfl, rfl⟩

theorem State.DeliveryOnly.refl (p : Port) : s.DeliveryOnly s p := ⟨rfl, rfl⟩

theorem State.DeliveryOnly.trans {s t u : State} {p : Port} (h : s.DeliveryOnly t p) (h' : t.DeliveryOnly u p) :
    s.DeliveryOnly u p := by
  refine ⟨?_, h'.2.trans h.2⟩
  rw [h'.1] ; rw [h.1]

theorem State.buffering_delivery (p : Port) (buffer : Option (List Byte)) : s.DeliveryOnly (s.buffering p buffer) p :=
  s.setPort_delivery p _
theorem State.produce_delivery (p : Port) (a : Answer) : s.DeliveryOnly (s.produce p a) p := s.setPort_delivery p _
theorem State.keepTransfer_delivery (p : Port) (t : Transfer) : s.DeliveryOnly (s.keepTransfer p t) p :=
  s.setPort_delivery p _

/-- A full close leaves the port with no transfer, its timer stopped and nothing held, the transfer's answer and then one for each held
frame produced. -/
theorem State.closeFull_eq (p : Port) (a : Answer) :
    s.closeFull p a = s.setPort p { s.port p with
      transfer := none
      inactivityTimer := .stopped
      dataHold := []
      outgoing := ((s.port p).outgoing ++ [a]) ++
        (s.port p).dataHold.map fun d => malformedAnswer d.sequence dataCode } := by
  cases p <;> rfl

theorem State.closeFull_delivery (p : Port) (a : Answer) : s.DeliveryOnly (s.closeFull p a) p := by
  rw [State.closeFull_eq]
  exact s.setPort_delivery p _

theorem State.closeEarly_delivery (p : Port) : s.DeliveryOnly (s.closeEarly p) p := by
  rw [State.closeEarly_eq]
  exact s.setPort_delivery p _

/-- One record of a load changes the banks alone. -/
theorem loadRecord_frame (x : State × LoadTransfer) (r : Nat × Nat × Nat) :
    (loadRecord x r).1 = { x.1 with banks := (loadRecord x r).1.banks } := by
  unfold loadRecord
  dsimp only
  split
  · rfl
  · split
    · rfl
    · rename_i h
      unfold State.storeRecord at h
      split at h
      · cases h
      · split at h
        · cases h; rfl
        · split at h
          · cases h; rfl
          · cases h

/-- One record of a load counts as received, and its bank, its count and its sequence stand. -/
theorem loadRecord_tally (x : State × LoadTransfer) (r : Nat × Nat × Nat) :
    (loadRecord x r).2.received = x.2.received + 1 ∧ (loadRecord x r).2.announced = x.2.announced ∧
      (loadRecord x r).2.bank = x.2.bank ∧ (loadRecord x r).2.sequence = x.2.sequence := by
  unfold loadRecord
  dsimp only
  split
  · exact ⟨rfl, rfl, rfl, rfl⟩
  · split <;> exact ⟨rfl, rfl, rfl, rfl⟩

/-- The records of a load's data frame change the banks alone. -/
theorem loadFrame_frame (t : LoadTransfer) (data : List Byte) :
    (loadFrame s t data).1 = { s with banks := (loadFrame s t data).1.banks } := by
  have h (rs : List (Nat × Nat × Nat)) : ∀ x : State × LoadTransfer,
      (rs.foldl loadRecord x).1 = { x.1 with banks := (rs.foldl loadRecord x).1.banks } := by
    induction rs with
    | nil => exact fun x => rfl
    | cons r rs ih =>
      intro x
      rw [List.foldl_cons, ih (loadRecord x r)]
      conv => lhs; rw [loadRecord_frame x r]
  unfold loadFrame
  split
  · rfl
  · exact h _ (s, t)

/-- The decision of a look write changes the banks alone. -/
theorem decideWrite_frame (t : WriteTransfer) : (decideWrite t s).1 = { s with banks := (decideWrite t s).1.banks } := by
  unfold decideWrite
  repeat' split
  all_goals rfl

theorem State.delivery_of_banks {s t : State} (h : t = { s with banks := t.banks }) (p : Port) : s.DeliveryOnly t p := by
  refine ⟨by rw [h], ?_⟩
  rw [h]
  cases p <;> rfl

/-- A delivery changes the banks and its own port alone. -/
theorem State.deliver_delivery (p : Port) (t : Transfer) (data : List Byte) : s.DeliveryOnly (s.deliver p t data) p := by
  unfold State.deliver
  cases t with
  | load t =>
    have h := State.delivery_of_banks (loadFrame_frame s t data) p
    dsimp only
    split
    · exact h.trans (State.closeFull_delivery ..)
    · exact h.trans (State.keepTransfer_delivery ..)
  | write t =>
    dsimp only
    split
    · exact (State.delivery_of_banks (decideWrite_frame s _) p).trans (State.closeFull_delivery ..)
    · exact s.keepTransfer_delivery ..

theorem State.deliverHeld_delivery (p : Port) : s.DeliveryOnly (s.deliverHeld p) p := by
  unfold State.deliverHeld
  split
  · exact .refl s p
  · split
    · exact (s.setPort_delivery p _).trans (State.deliver_delivery ..)
    · split
      · exact .refl s p
      · exact (s.setPort_delivery p _).trans (State.produce_delivery ..)

theorem State.deliverAllHeld_delivery (p : Port) (n : Nat) : s.DeliveryOnly (s.deliverAllHeld p n) p := by
  induction n generalizing s with
  | zero => exact .refl s p
  | succ n ih =>
    unfold State.deliverAllHeld
    split
    · exact (s.deliverHeld_delivery p).trans (ih _)
    · exact .refl s p

/-- Where held frames wait for an opening, taking those that do not wait takes none. -/
theorem State.deliverAllHeld_waits (p : Port) (n : Nat) (h : (s.port p).decides = false) : s.deliverAllHeld p n = s := by
  cases n with
  | zero => rfl
  | succ n => simp [State.deliverAllHeld, h]

end Sys2Proof.Machine
end

