-- ==== Sys2Proof/Tests/Slice0.lean ====
section
/-!
SUPPORT. Tests of single steps, each expected value taken from the spec's worked examples or worked by hand from its rules.
-/

namespace Sys2Proof.Tests

open Sys2Proof.Machine

/-- The state after a command. -/
def run (c : Instr) (s : State) : State :=
  match exec c s with
  | .next t => t
  | _ => s

/-- A state in which one request waits on port 1, and nothing else on either port. -/
def asking (s : State) (code : ReqCode) (ps : List Byte) : State :=
  { s with ports := ⟨{ PortState.initial with queue := [⟨7, code, ps⟩] }, PortState.initial⟩, servedLast := none }

/-- What the answers on port 1 say. -/
def answers (s : State) : List (ReqOutcome × Nat × List Byte) :=
  s.ports.port1.outgoing.map fun a => (a.outcome, a.count, a.data)

/-- A rig in use: records, looks, a fade, pairings of every kind, a rack with an order pending, an open look write. -/
def rich : State :=
  { State.reset with
    banks := [(1, ⟨false, [⟨1, 10, 50, none⟩, ⟨2, 5, 30, some 4⟩, ⟨2, 10, 100, none⟩, ⟨2, 11, 80, none⟩],
                [(5, some ⟨⟨100, 50, 0, 0, none, .absent⟩, [⟨1, 1000⟩, ⟨2, 0⟩]⟩),
                 (6, some ⟨⟨0, 0, 0, 0, some ⟨5, 20⟩, .absent⟩, [⟨3, 4096⟩]⟩)]⟩),
              (2, ⟨false, [], []⟩)]
    circuits := [(2, { Circuit.initial with role := .failed, health := .failed, pairing := .ordered 3 }),
                 (3, { Circuit.initial with role := .spareHeld, pairing := .ordered 2 }),
                 (4, { Circuit.initial with role := .failed, health := .failed, pairing := .confirmed 5 }),
                 (5, { Circuit.initial with role := .spareInUse, pairing := .confirmed 4 }),
                 (6, { Circuit.initial with role := .spareFree }),
                 (8, { Circuit.initial with role := .failed, health := .failed }),
                 (9, { Circuit.initial with role := .retired }),
                 (12, { Circuit.initial with role := .failed, health := .failed, pairing := .restoring 13 }),
                 (13, { Circuit.initial with role := .spareInUse, pairing := .restoring 12 })]
    rig := ⟨false, 0, 204, false⟩
    playbacks := [(1, { Playback.initial with state := .running, entries := [(1, ⟨300, some 1, 0, 1000, .up⟩)] })]
    fades := [⟨1, 1, some 5, 100, 50, 0, 0, none, .absent, 30, false, 1, 100⟩]
    links := ⟨{ Link.initial with pollOrder := [1, 2], rows := [(1, { RackRow.initial with present := true, pendingOrder := some ⟨⟨.transfer, 2, 3⟩, 0⟩ }),
                (2, { RackRow.initial with present := true })] }, Link.initial, Link.initial, Link.initial⟩
    ports := ⟨{ PortState.initial with
                transfer := some (.write ⟨9, 1, 20, 3, ⟨10, 10, 0, 0, none, .absent⟩, [⟨4, 100⟩], 1, none⟩)
                inactivityTimer := .running },
              { PortState.initial with queue := [⟨8, .status, []⟩] }⟩
    pending := [.fadeInterval] }

/-- The same rig in DARKENING towards bank 2, 40 of 100 intervals in. -/
def dark : State := { rich with changeover := ⟨.darkening, some 2, 100, 40, 2458, false⟩ }

/-- The same rig with the rig lock set. -/
def rigLocked : State := { rich with rig := ⟨false, 0, 204, true⟩ }

/-! ### Ill-formed commands are refused by `wellFormed` -/

theorem test_wellFormed_request : (Instr.requestFrameArrival .p1 (onLine [5, 90, 0, 0, 95])).wellFormed = true := by decide
theorem test_illFormed_request_check : (Instr.requestFrameArrival .p1 (onLine [5, 90, 0, 0, 96])).wellFormed = false := by decide
theorem test_illFormed_request_data : (Instr.requestFrameArrival .p1 (onLine [5, 128, 0, 0, 133])).wellFormed = false := by decide
theorem test_illFormed_malformed : (Instr.malformedFrameArrival .p1 (onLine [5, 90, 0, 0, 95])).wellFormed = false := by decide
theorem test_illFormed_malformed_data : (Instr.malformedFrameArrival .p1 (onLine [5, 128, 0, 0, 133])).wellFormed = false := by decide
theorem test_illFormed_data : (Instr.dataFrameArrival .p2 (onLine [5, 90, 0, 0, 95])).wellFormed = false := by decide
theorem test_illFormed_data_check : (Instr.dataFrameArrival .p2 (onLine [5, 128, 0, 0, 134])).wellFormed = false := by decide
theorem test_illFormed_two_frames :
    (Instr.requestFrameArrival .p1 (onLine [5, 90, 0, 0, 95] ++ onLine [6, 90, 0, 0, 96])).wellFormed = false := by decide
theorem test_illFormed_reply : (Instr.replyArrival .a [3, 1, 1, 0, 0, 0, 0, 1, 0, 6]).wellFormed = false := by decide

/-! ### Frames (R141, R142, R180, R181) -/

theorem test_poll_bytes : pollFrame 2 (some ⟨.transfer, 5, 30⟩) = [2, 2, 1, 5, 30, 0, 40] := by decide
theorem test_answer_bytes : answerFrame ⟨7, 13, .done, 0, []⟩ = [7, 13, 0, 0, 0, 0, 0, 20] := by decide
theorem test_reply_read : parseReply [3, 10, 1, 1, 1, 5, 30, 1, 13, 3, 0, 68] =
    some ⟨10, true, .warm, some ⟨.transfer, 5, 30⟩, [⟨13, .dimmerFail⟩]⟩ := by decide
theorem test_reply_short : parseReply [3, 10, 1, 1, 0, 0, 0, 0, 0, 16] = none := by decide

/-! ### The patch table (section 1.11) -/

theorem test_patchSet_adds_clamped : (run .patchSet (asking rich .patchSet [1, 0, 7, 0, 10, 120])).records 1 =
    [⟨1, 10, 50, none⟩, ⟨2, 5, 30, some 4⟩, ⟨2, 10, 100, none⟩, ⟨2, 11, 80, none⟩, ⟨7, 10, 100, none⟩] := by decide
theorem test_patchSet_failed_confirmed : answers (run .patchSet (asking rich .patchSet [1, 0, 9, 0, 4, 60])) =
    [(.done, 1, [0, 9, 0, 5, 60, 1, 0, 4])] := by decide
theorem test_patchSetIf_mismatch : answers (run .patchSetIf (asking rich .patchSetIf [1, 0, 1, 0, 10, 60, 1, 40])) =
    [(.mismatch, 0, [1, 50])] := by decide
theorem test_patchClear_returns_stored : answers (run .patchClear (asking rich .patchClear [1, 0, 2, 0, 4])) =
    [(.done, 1, [0, 2, 0, 5, 30, 1, 0, 4])] := by decide
theorem test_patchClearIf_expected : ((run .patchClearIf (asking rich .patchClearIf [1, 0, 1, 0, 10, 50])).records 1).length = 3 := by
  decide
theorem test_patchClearChannel : answers (run .patchClearChannel (asking rich .patchClearChannel [1, 0, 2])) = [(.done, 3, [])] := by
  decide
theorem test_patchSwap_worked_example :
    (run .patchSwap (asking (rich.setRecords 2 [⟨4, 200, 100, none⟩, ⟨4, 201, 50, none⟩, ⟨9, 201, 100, none⟩, ⟨12, 200, 80, none⟩])
      .patchSwap [2, 0, 200, 0, 201])).records 2 =
    [⟨4, 200, 50, none⟩, ⟨4, 201, 100, none⟩, ⟨9, 200, 100, none⟩, ⟨12, 201, 80, none⟩] := by decide
theorem test_patchRange_partial : answers (run .patchRange (asking rich .patchRange [2, 0, 1, 0, 5, 0, 3, 100])) =
    [(.inPart, 2, [1, 7])] := by decide
theorem test_patchReadCircuit_original : answers (run .patchReadCircuit (asking rich .patchReadCircuit [1, 0, 4])) =
    [(.done, 1, [0, 2, 0, 5, 30, 1, 0, 4])] := by decide
theorem test_patchReadChannel_order : answers (run .patchReadChannel (asking rich .patchReadChannel [1, 0, 2])) =
    [(.done, 3, [0, 5, 30, 1, 0, 4, 0, 10, 100, 0, 0, 0, 0, 11, 80, 0, 0, 0])] := by decide
theorem test_bankCopy : (run .bankCopy (asking rich .bankCopy [1, 2])).records 2 = rich.records 1 := by decide
theorem test_bankErase_live : answers (run .bankErase (asking rich .bankErase [1])) = [(.conflict, 0, [])] := by decide
theorem test_bankLock : ((run .bankLock (asking rich .bankLock [2])).bank 2).locked = true := by decide
theorem test_bankUnlock : ((run .bankUnlock (asking rich .bankUnlock [3])).bank 3).locked = false := by decide
theorem test_patchLoad_opens : ((run .patchLoad (asking rich .patchLoad [2, 0, 9])).port .p1).transfer =
    some (.load ⟨7, 2, 9, 0, 0, none⟩) := by decide

/-! ### Circuits, curves, rig settings -/

theorem test_circuitSet_role_health : (run .circuitSet (asking rich .circuitSet [0, 8, 1, 1])).circuit 8 = Circuit.initial := by decide
theorem test_circuitSet_threshold_clamped :
    ((run .circuitSet (asking rich .circuitSet [0, 20, 0x18, 0, 0, 1, 230])).circuit 20).threshold = 1 := by decide
theorem test_circuitRead : answers (run .circuitRead (asking rich .circuitRead [0, 4])) =
    [(.done, 0, [5, 1, 0, 8, 0, 0, 0, 1, 1, 0, 0, 0, 0, 0, 0, 3, 3, 1, 0, 5])] := by decide
theorem test_rigSet_reserve_clamped : (run .rigSet (asking rich .rigSet [1, 9, 255])).rig = ⟨true, 8, 255, false⟩ := by decide
theorem test_rigRead : answers (run .rigRead (asking rich .rigRead [])) = [(.done, 0, [0, 0, 204, 0, 0, 1])] := by decide
theorem test_rigLock : (run .rigLock (asking rich .rigLock [])).rig.locked = true := by decide
theorem test_rigUnlock : (run .rigUnlock (asking rigLocked .rigUnlock [])).rig.locked = false := by decide
theorem test_curveLoad_falling : answers (run .curveLoad (asking rich .curveLoad (3 :: 1 :: List.replicate 33 0))) =
    [(.malformed, 0, [])] := by decide
theorem test_curveRead_identity : answers (run .curveRead (asking rich .curveRead [0])) =
    [(.done, 0, [0, 0, 1, 0, 2, 0, 3, 0, 4, 0, 5, 0, 6, 0, 7, 0, 8, 0, 9, 0, 10, 0, 11, 0, 12, 0, 13, 0, 14, 0, 15, 0, 16, 0])] := by
  decide +kernel

/-! ### Looks -/

theorem test_lookWrite_opens : ((run .lookWrite (asking rich .lookWrite
    [1, 0, 20, 0, 2, 1, 244, 1, 44, 0, 100, 0, 0, 1, 0, 5, 0, 20, 2, 3])).port .p1).transfer =
    some (.write ⟨7, 1, 20, 2, ⟨500, 300, 100, 0, some ⟨5, 20⟩, .passes 3⟩, [], 0, none⟩) := by decide
theorem test_lookWrite_stored : (run (.dataFrameArrival .p1 (onLine [3, 128, 8, 0, 5, 19, 136, 0, 6, 0, 0, 1, 49])) rich).look 1 20 =
    some ⟨⟨10, 10, 0, 0, none, .absent⟩, [⟨4, 100⟩, ⟨5, 4096⟩, ⟨6, 0⟩]⟩ := by decide +kernel
theorem test_lookRead_second_on : answers (run .lookRead (asking rich .lookRead [1, 0, 5, 0, 2])) =
    [(.done, 2, [0, 100, 0, 50, 0, 0, 0, 0, 0, 0, 0, 0, 0, 0, 0, 0, 2, 0, 0])] := by decide
theorem test_lookDelete : (run .lookDelete (asking rich .lookDelete [1, 0, 6])).look 1 6 = none := by decide

/-! ### Playbacks and fades (section 4.16) -/

theorem test_go_takes_over : (run .go (asking rich .go [1, 0, 5, 0, 0, 0])).fades =
    [⟨2, 1, some 5, 100, 50, 0, 0, none, .absent, 0, false, 2, 100⟩] := by decide
theorem test_go_answer_and_no_time : answers (run .go (asking rich .go [2, 0, 6, 0, 0, 0])) =
    [(.done, 1, [0, 0, 0, 0, 0, 0, 0])] := by decide
theorem test_release_time_zero : ((run .release (asking rich .release [1, 0, 0])).entry 1 1).level = 0 := by decide
theorem test_release_fade : (run .release (asking rich .release [1, 0, 200])).entry 1 1 = ⟨300, some 2, 300, 0, .down⟩ := by decide
theorem test_hold : ((run .hold (asking rich .hold [1])).playback 1).state = .held := by decide
theorem test_resume_not_held : answers (run .resume (asking rich .resume [1])) = [(.done, 0, [])] := by decide
theorem test_stopLoop : answers (run .stopLoop (asking rich .stopLoop [1])) = [(.done, 0, [])] := by decide
theorem test_master_clamped : answers (run .master (asking rich .master [3, 0x20, 0])) = [(.done, 0, [16, 0])] := by decide
theorem test_deskClear_keeps_level : ((run .deskClear (asking rich .deskClear [])).entry 1 1).level = 300 := by decide
theorem test_deskClear_held : ((run .deskClear (asking dark .deskClear [])).port .p1).headHeld = true := by decide
theorem test_playbackRead : answers (run .playbackRead (asking rich .playbackRead [1])) =
    [(.done, 1, [2, 16, 0, 0, 0, 0, 0, 0, 0, 0, 0, 0, 0, 1])] := by decide
theorem test_fadeRead_absent : answers (run .fadeRead (asking rich .fadeRead [48])) = [(.absent, 0, [])] := by decide
theorem test_channelRead : answers (run .channelRead (asking rich .channelRead [1, 0, 1])) =
    [(.done, 0, [1, 44, 1, 1, 0, 0, 3, 232, 1])] := by decide
theorem test_fadeInterval_level : ((run .fadeInterval rich).entry 1 1).level = 310 := by decide
theorem test_fadeInterval_scale : (run .fadeInterval dark).changeover.scale = 2417 := by decide

/-! ### From channel to slot (section 5.11) -/

/-- The curve of the worked example. -/
def curve3 : List Nat := [0, 120, 300, 560, 900, 1400, 1800, 2100, 2400, 2700, 3000, 3200, 3400, 3600, 3800, 4000, 4096]

/-- The worked example of section 5.11.1 at the frame-due event. -/
def worked : State :=
  { State.reset with
    banks := [(1, ⟨false, [⟨12, 301, 80, none⟩, ⟨40, 301, 100, none⟩], []⟩)]
    circuits := [(301, { Circuit.initial with curve := 3 })]
    curves := [(3, curve3)]
    playbacks := [(1, { Playback.initial with master := 3072, entries := [(12, ⟨2000, some 1, 1000, 3000, .up⟩)] }),
                  (2, { Playback.initial with entries := [(40, ⟨1100, none, 0, 0, .up⟩)] }),
                  (3, { Playback.initial with entries := [(12, ⟨1400, none, 0, 0, .up⟩)] })]
    grandmaster := 3584
    links := ⟨{ Link.initial with rows := [(10, { RackRow.initial with present := true, thermal := .warm })] }, Link.initial,
      Link.initial, Link.initial⟩ }

theorem test_interpolate_worked_example : interpolate 1000 3000 100 500 350 = 2000 := by decide
theorem test_composite_worked_example : worked.composite 12 = 1500 := by decide
theorem test_slot_worked_example : (worked.merge 301, worked.afterGrand 301, worked.slot 301) = (1200, 1050, 59) := by decide
theorem test_slot_darkening_worked_example :
    ({ worked with changeover := { Changeover.initial with scale := 2048 } } : State).slot 301 = 19 := by decide
theorem test_slot_parked_under_ceiling :
    (worked.setCircuit 302 { Circuit.initial with park := some 230 }).slot 302 = 204 := by decide
theorem test_outputRead_worked_example : answers (run .outputRead (asking worked .outputRead [1, 45])) =
    [(.done, 2, [1, 1, 45, 7, 0, 12, 80, 0, 0, 0, 5, 220, 0, 4, 176, 0, 40, 100, 0, 0, 0, 4, 76, 0, 4, 76,
      4, 176, 14, 0, 4, 26, 16, 0, 4, 26, 1, 3, 183, 59, 1, 59])] := by decide +kernel
theorem test_capture_counts_new : answers (run .capture (asking rich .capture [0, 9, 0x20, 0])) = [(.done, 1, [16, 0])] := by decide
theorem test_uncapture_absent : answers (run .uncapture (asking rich .uncapture [0, 9])) = [(.absent, 0, [])] := by decide
theorem test_grand : (run .grand (asking rich .grand [14, 0])).grandmaster = 3584 := by decide
theorem test_blackout : (run .blackout (asking rich .blackout [1])).blackout = true := by decide
theorem test_mixerRead : answers (run .mixerRead (asking { rich with captures := [(9, some 800), (10, some 0)] } .mixerRead [0, 2])) =
    [(.done, 2, [16, 0, 0, 0, 10, 0, 0])] := by decide

/-! ### Changeover (R123, R126, R131) -/

theorem test_changeover_accepted : answers (run .changeover (asking rich .changeover [4, 1, 44])) = [(.done, 0, [4, 1, 44, 1])] := by
  decide
theorem test_changeover_snap : (run .changeover (asking rich .changeover [4, 0, 0])).liveBank = 4 := by decide
theorem test_switchEvent_live :
    (run .switchEvent { dark with changeover := ⟨.darkening, some 2, 100, 100, 0, true⟩ }).liveBank = 2 := by decide
theorem test_heldDeskClear : answers (run .heldDeskClearPerformed { rich with ports :=
    ⟨{ PortState.initial with queue := [⟨3, .deskClear, []⟩], headHeld := true }, PortState.initial⟩ }) = [(.done, 1, [])] := by decide

/-! ### Dimmer links (section 7.11) and circuit transfer (section 8.11) -/

theorem test_frameDue_polls_pending_order : (run (.frameDue .a) rich).links.a.pollOut = pollFrame 1 (some ⟨.transfer, 2, 3⟩) := by
  decide
theorem test_frameDue_moves_to_end : (run (.frameDue .a) rich).links.a.pollOrder = [2, 1] := by decide
theorem test_pollFrameEnd_opens : (run (.pollFrameEnd .a) (run (.frameDue .a) rich)).links.a.window = some 1 := by decide
theorem test_windowExpiry_silent :
    ((run (.windowExpiry .a) (run (.pollFrameEnd .a) (run (.frameDue .a) rich))).row .a 1).silent = 1 := by decide
theorem test_reply_acknowledges :
    (run (.replyArrival .a [3, 1, 1, 0, 1, 2, 3, 0, 0, 11]) (run (.pollFrameEnd .a) (run (.frameDue .a) rich))).circuit 3 =
    { Circuit.initial with role := .spareInUse, pairing := .confirmed 2 } := by decide +kernel
theorem test_reply_places_next :
    ((run (.replyArrival .a [3, 1, 1, 0, 1, 2, 3, 0, 0, 11]) (run (.pollFrameEnd .a) (run (.frameDue .a) rich))).row .a 1).pendingOrder =
    some ⟨⟨.undo, 12, 13⟩, 0⟩ := by decide +kernel
theorem test_rackSet_conflict : answers (run .rackSet (asking rich .rackSet [1, 1, 0])) = [(.conflict, 0, [])] := by decide
theorem test_rackSet_present : (run .rackSet (asking rich .rackSet [1, 16, 1])).links.a.pollOrder = [1, 2, 16] := by decide
theorem test_rackRead : ((answers (run .rackRead (asking rich .rackRead [1, 2]))).map fun a => (a.1, a.2.1)) = [(.done, 0)] := by decide
theorem test_faultClear_counts_all :
    answers (run .faultClear (asking (rich.setCircuit 30 { Circuit.initial with short := ⟨true, false⟩ }) .faultClear [0, 0])) =
    [(.done, 1, [])] := by decide
theorem test_reassign_pairs : (run .reassign (asking rich .reassign [0, 8, 0, 6])).circuit 6 =
    { Circuit.initial with role := .spareHeld, pairing := .ordered 8 } := by decide
theorem test_restore_waits : ((run .restore (asking rich .restore [0, 4])).row .a 1).pendingOrder = some ⟨⟨.transfer, 2, 3⟩, 0⟩ := by
  decide
theorem test_transferRead_waiting : ((answers (run .transferRead (asking rich .transferRead [1, 1]))).map fun a => (a.1, a.2.1)) =
    [(.done, 1)] := by decide
theorem test_status_first_bytes : ((answers (run .status (asking rich .status []))).map fun a => a.2.2.take 8) =
    [[1, 2, 1, 1, 0, 0, 0, 0]] := by decide
theorem test_statusAck : (run .statusAck (asking rich .statusAck [])).attention = false := by decide

/-! ### Console ports and resets -/

theorem test_arrival_closes_early : answers (run (.requestFrameArrival .p1 (onLine [5, 90, 0, 0, 95])) rich) = [(.malformed, 2, [])] := by decide
/-- A byte that belongs to no frame, and the bytes past the check, are discarded (R184). -/
theorem test_arrival_stray_bytes : (run (.requestFrameArrival .p2 (.byte 9 :: onLine [5, 90, 0, 0, 95] ++ [.byte 1, .byte 2])) State.reset).ports.port2 =
    { PortState.initial with queue := [⟨5, .status, []⟩] } := by decide
/-- A frame may come in pieces; until it ends, it stands in the receive buffer (R184). -/
theorem test_arrival_in_pieces : (run (.requestFrameArrival .p2 (onLine [5, 90])) State.reset).ports.port2.receiveBuffer = some [5, 90] ∧
    (run (.requestFrameArrival .p2 [.byte 0, .byte 0, .byte 95]) (run (.requestFrameArrival .p2 (onLine [5, 90])) State.reset)).ports.port2 =
      { PortState.initial with queue := [⟨5, .status, []⟩] } := by decide
/-- A start mark ends the unfinished frame and begins a new one; what was not received is echoed as 0 (R184). -/
theorem test_arrival_cut_off :
    (run (.malformedFrameArrival .p1 (onLine [9] ++ [.start])) State.reset).ports.port1 =
      { PortState.initial with receiveBuffer := some [], outgoing := [⟨9, 0, .malformed, 0, []⟩] } := by decide
theorem test_malformed_answered : answers (run (.malformedFrameArrival .p1 (onLine [9, 200] ++ [.start])) State.reset) = [(.malformed, 0, [])] := by decide
theorem test_dataHold_delivery :
    ((run (.dataHoldDelivery .p1) (rich.setPort .p1 { rich.port .p1 with dataHold := [⟨3, [0, 5, 0, 9]⟩] })).port .p1).dataHold = [] := by
  decide
/-- A frame still held where nothing is announced is answered before the frame that arrives after it (R186). -/
theorem test_held_before_arriving :
    (run (.dataFrameArrival .p2 (onLine [4, 128, 0, 0, 132])) (rich.setPort .p2 { PortState.initial with dataHold := [⟨3, [0]⟩] })).ports.port2 =
      { PortState.initial with outgoing := [⟨3, 128, .malformed, 0, []⟩, ⟨4, 128, .malformed, 0, []⟩] } := by decide
/-- A frame held for a LOOK-WRITE behind which a GO joined stays held: the arriving frame alone is answered (R187), a delivery changes
nothing, and the opening finds it (R186). -/
def heldBehind : State := rich.setPort .p2 { PortState.initial with
  queue := [⟨7, .lookWrite, [1, 0, 20, 0, 1, 0, 0, 0, 0, 0, 0, 0, 0, 0, 0, 0, 0, 0, 0, 0]⟩, ⟨8, .go, [1, 0, 5, 0, 0, 0]⟩], dataHold := [⟨3, [0, 5, 0, 9]⟩] }

theorem test_held_behind_arrival : run (.dataFrameArrival .p2 (onLine [4, 128, 0, 0, 132])) heldBehind =
    heldBehind.setPort .p2 { heldBehind.port .p2 with outgoing := [⟨4, 128, .malformed, 0, []⟩] } := by decide +kernel
theorem test_held_behind_opening :
    run (.dataHoldDelivery .p2) heldBehind = heldBehind ∧
    (run (.dataHoldDelivery .p2) (run .lookWrite heldBehind)).look 1 20 = some ⟨⟨0, 0, 0, 0, none, .absent⟩, [⟨5, 9⟩]⟩ := by decide +kernel
theorem test_timeout_closes : ((run (.inactivityTimeout .p1) rich).port .p1).transfer = none := by decide
theorem test_answer_sent : ((run (.answerWhollySent .p1) (run (.malformedFrameArrival .p1 (onLine [9, 200] ++ [.start])) State.reset)).port .p1).outgoing = [] := by
  decide
theorem test_consoleReset : (run .consoleReset rich).ports = ⟨PortState.initial, PortState.initial⟩ := by decide
theorem test_consoleResetRelease : (run .consoleResetRelease (run .consoleReset rich)).resetLine = false := by decide
theorem test_powerOn_retained_resend : ((run (.powerOn true true) { State.reset with circuits :=
    [(4, { Circuit.initial with role := .failed, health := .failed, pairing := .confirmed 5 })] }).circuit 4).resend = true := by
  decide +kernel
theorem test_powerOn_lost : (run (.powerOn false true) rich).banks = [] := by decide


/-! ### What the rig in use reads as -/

theorem rich_port (p : Port) : rich.port p = match p with
    | .p1 => { PortState.initial with
                transfer := some (.write ⟨9, 1, 20, 3, ⟨10, 10, 0, 0, none, .absent⟩, [⟨4, 100⟩], 1, none⟩)
                inactivityTimer := .running }
    | .p2 => { PortState.initial with queue := [⟨8, .status, []⟩] } := by
  cases p <;> rfl

/-- The circuits of the rig in use. -/
def richCircuit (n : Nat) : Circuit :=
  if 2 = n then { Circuit.initial with role := .failed, health := .failed, pairing := .ordered 3 }
  else if 3 = n then { Circuit.initial with role := .spareHeld, pairing := .ordered 2 }
  else if 4 = n then { Circuit.initial with role := .failed, health := .failed, pairing := .confirmed 5 }
  else if 5 = n then { Circuit.initial with role := .spareInUse, pairing := .confirmed 4 }
  else if 6 = n then { Circuit.initial with role := .spareFree }
  else if 8 = n then { Circuit.initial with role := .failed, health := .failed }
  else if 9 = n then { Circuit.initial with role := .retired }
  else if 12 = n then { Circuit.initial with role := .failed, health := .failed, pairing := .restoring 13 }
  else if 13 = n then { Circuit.initial with role := .spareInUse, pairing := .restoring 12 }
  else Circuit.initial

theorem rich_circuit (n : Nat) : rich.circuit n = richCircuit n := by
  simp only [State.circuit, rich, State.reset, Tbl.get, richCircuit]

theorem rich_link (l : LinkId) : rich.link l = match l with
    | .a => { Link.initial with
              pollOrder := [1, 2]
              rows := [(1, { RackRow.initial with present := true, pendingOrder := some ⟨⟨.transfer, 2, 3⟩, 0⟩ }),
                       (2, { RackRow.initial with present := true })] }
    | _ => Link.initial := by
  cases l <;> rfl

theorem rich_records (b : Nat) : rich.records b =
    if 1 = b then [⟨1, 10, 50, none⟩, ⟨2, 5, 30, some 4⟩, ⟨2, 10, 100, none⟩, ⟨2, 11, 80, none⟩] else [] := by
  simp only [State.records, State.bank, rich, State.reset, Tbl.get]
  (repeat' split) <;> rfl

theorem rich_entry (p ch : Nat) : rich.entry p ch =
    if 1 = p then if 1 = ch then ⟨300, some 1, 0, 1000, .up⟩ else Entry.initial else Entry.initial := by
  simp only [State.entry, State.playback, rich, State.reset, Tbl.get]
  split <;> rfl

theorem all_racks (P : LinkId → Nat → Prop) (h : ∀ l ∈ [LinkId.a, .b, .c, .d], ∀ r ∈ List.range' 1 16, P l r) :
    ∀ l r, rackOk r = true → P l r := by
  intro l r hr
  refine h l (by cases l <;> decide) r ?_
  simp only [rackOk, Bool.and_eq_true, decide_eq_true_eq] at hr
  simp only [List.mem_range'_1]
  omega

/-! ### The rig in use meets every invariant -/

theorem rich_canonical : rich.Canonical where
  banks := by decide
  looks := by decide
  circuits := by decide
  curves := by decide
  playbacks := by decide
  entries := by decide
  captures := by decide
  rows := by intro l; cases l <;> decide

theorem dark_changeover_ok : dark.ChangeoverOk where
  live := by decide
  idle := by decide
  darkening := fun _ => ⟨2, by decide⟩

theorem rich_ports_ok : rich.PortsOk := by
  intro p
  rw [rich_port]
  cases p <;> constructor <;> first | decide | (simp [PortState.initial]; done) | (simp; decide)

theorem rich_levels_ok : rich.LevelsOk where
  grand := by decide
  scale := by decide
  captures := by intro ch l h; simp [rich, State.reset, State.captureOf] at h
  masters := by intro p; simp only [State.playback, rich, State.reset, Tbl.get]; split <;> decide
  entries := by intro p ch; rw [rich_entry]; (repeat' split) <;> decide
  looks := by
    intro b n l
    simp only [State.look, State.bank, rich, State.reset, Tbl.get]
    (repeat' split) <;> simp only [Bank.initial, Tbl.get] <;> (repeat' split) <;> rintro ⟨⟩ <;> decide
  staged := by intro p t; rw [rich_port]; cases p <;> rintro ⟨⟩; decide
  curves := by
    intro c
    rw [show rich.curve c = identityCurve by simp [State.curve, rich, State.reset]]
    exact ⟨rfl, by decide, by decide⟩
  proportions := by intro b; rw [rich_records]; split <;> decide
  circuits := by intro n; rw [rich_circuit]; unfold richCircuit; (repeat' split) <;> simp [Circuit.initial, Config.full]
  rig := by decide

theorem rich_looks_ok : rich.LooksOk where
  stored := by
    intro b n l
    simp only [State.look, State.bank, rich, State.reset, Tbl.get]
    (repeat' split) <;> simp only [Bank.initial, Tbl.get] <;> (repeat' split) <;> rintro ⟨⟩ <;> simp only [EntriesOk] <;> decide
  staged := by intro p t; rw [rich_port]; cases p <;> rintro ⟨⟩; decide

/-! ### The fade engine's relations, from what is listed -/

/-- What the fade engine's relations ask of the listed playbacks, entries and fades of a state. -/
def FadesListed (s : State) : Prop :=
  (s.fades.length ≤ 48 ∧ (s.fades.map Fade.number).Nodup ∧
    ∀ f ∈ s.fades, (1 ≤ f.number ∧ f.number ≤ 48 ∧ playbackOk f.playback = true) ∧ (f.owned = s.ownedBy f.playback f.number ∧ 1 ≤ f.owned) ∧
      f.elapsed < f.completion ∧ (f.held = true ↔ (s.playback f.playback).state = .held) ∧ (s.playback f.playback).state ≠ .idle) ∧
  ∀ e ∈ s.playbacks, (e.2.state = .idle ↔ s.hasFade e.1 = false ∧ e.2.pendingFollow = none) ∧
    ∀ x ∈ e.2.entries, x.2.owner.all (fun n => s.fades.any fun f => f.number == n && f.playback == e.1) = true ∧
      (x.2.owner.isSome = true → min x.2.start x.2.target ≤ x.2.level ∧ x.2.level ≤ max x.2.start x.2.target) ∧
      ∀ f ∈ s.fades, x.2.owner = some f.number → (f.timesOf x.2.part).1 + (f.timesOf x.2.part).2 ≤ f.completion

theorem entry_cases (s : State) (p ch : Nat) :
    s.entry p ch = Entry.initial ∨ ∃ e ∈ s.playbacks, e.1 = p ∧ (ch, s.entry p ch) ∈ e.2.entries := by
  unfold State.entry
  rcases Tbl.get_cases Playback.initial s.playbacks p with h | h
  · left
    rw [show s.playback p = Playback.initial from h]
    rfl
  · rcases Tbl.get_cases Entry.initial (s.playback p).entries ch with h' | h'
    · exact .inl h'
    · exact .inr ⟨_, h, rfl, h'⟩

theorem fades_ok_of_listed {s : State} (h : FadesListed s) : s.FadesOk := by
  obtain ⟨⟨hl, hd, hf⟩, hp⟩ := h
  refine ⟨hl, hd, fun f m => (hf f m).1, ?_, fun f m => (hf f m).2.1, ?_, fun f m => (hf f m).2.2.1, ?_, fun f m => (hf f m).2.2.2.1, ?_⟩
  · intro p ch n ho
    rcases entry_cases s p ch with h | ⟨e, m, rfl, m'⟩
    · rw [h] at ho; cases ho
    · have := ((hp e m).2 _ m').1
      rw [ho] at this
      simpa using this
  · intro p ch ho
    rcases entry_cases s p ch with h | ⟨e, m, rfl, m'⟩
    · rw [h] at ho; exact absurd rfl ho
    · exact ((hp e m).2 _ m').2.1 (Option.isSome_iff_ne_none.mpr ho)
  · intro f mf ch ho
    rcases entry_cases s f.playback ch with h | ⟨e, m, _, m'⟩
    · rw [h] at ho; cases ho
    · exact ((hp e m).2 _ m').2.2 f mf ho
  · intro p
    rcases Tbl.get_cases Playback.initial s.playbacks p with h | h
    · have h : s.playback p = Playback.initial := h
      rw [h]
      refine ⟨fun _ => ⟨?_, rfl⟩, fun _ => rfl⟩
      simp only [State.hasFade, List.any_eq_false, beq_iff_eq]
      intro f m hq
      have := (hf f m).2.2.2.2
      rw [hq, h] at this
      exact this rfl
    · exact (hp _ h).1

/-! ### More rigs in use -/

/-- The rig in use with its one fade at an elapsed count and with a loop. -/
def fading (elapsed : Nat) (loop : Loop) : State :=
  { rich with fades := [⟨1, 1, some 5, 100, 50, 0, 0, none, loop, elapsed, false, 1, 100⟩] }

theorem fading_fades_ok (e : Nat) (loop : Loop) (h : e < 100) : (fading e loop).FadesOk where
  slots := by simp [fading]
  distinct := by simp [fading]
  ranges := by simp [fading, playbackOk, Config.fadeSlots]
  owners := by
    intro p ch n
    rw [show (fading e loop).entry p ch = rich.entry p ch from rfl, rich_entry]
    (repeat' split) <;> simp_all [Entry.initial, fading]
  owned := by
    intro f hm
    rw [List.mem_singleton.mp hm]
    exact ⟨show 1 = rich.ownedBy 1 1 by decide, show 1 ≤ 1 by decide⟩
  between := by
    intro p ch
    rw [show (fading e loop).entry p ch = rich.entry p ch from rfl, rich_entry]
    (repeat' split) <;> simp [Entry.initial]
  running := by simp [fading, h]
  within := by
    intro f hm ch
    rw [List.mem_singleton.mp hm, show (fading e loop).entry _ ch = rich.entry 1 ch from rfl, rich_entry]
    (repeat' split) <;> simp [Entry.initial, Fade.timesOf]
  held := by
    intro f hm
    rw [List.mem_singleton.mp hm]
    exact show false = true ↔ (rich.playback 1).state = .held by decide
  states := by
    intro p
    simp only [State.playback, State.hasFade, fading, rich, State.reset, Tbl.get]
    split <;> simp_all [Playback.initial]

theorem rich_fades_ok : rich.FadesOk := fading_fades_ok 30 .absent (by decide)

/-- Every fade slot taken: fade `n` of playback 1 moves channel `n`, and fade 1, the oldest, ends its pass in two intervals. -/
def fortyEight : State :=
  { State.reset with
    banks := [(1, ⟨false, [], [(5, some ⟨⟨100, 50, 0, 0, none, .absent⟩, [⟨1, 1000⟩, ⟨2, 0⟩]⟩)]⟩)]
    playbacks := [(1, { Playback.initial with state := .running, entries := (List.range' 1 48).map fun n => (n, ⟨300, some n, 0, 1000, .up⟩) })]
    fades := (List.range' 1 48).map fun n => ⟨n, 1, some 5, 100, 50, 0, 0, none, .absent, 30, false, 1, 100⟩ }

theorem fortyEight_fades_ok : fortyEight.FadesOk := fades_ok_of_listed (by unfold FadesListed; decide +kernel)
theorem fortyEight_canonical : fortyEight.Canonical :=
  ⟨by decide, by decide, by decide, by decide, by decide, by decide +kernel, by decide, by intro l; cases l <;> decide⟩

/-- The rig in use, with more playbacks listed. -/
def following (more : List (Nat × Playback)) : State := { rich with playbacks := rich.playbacks ++ more }

/-- Playback 2 has a follow that is due, playback 3 one that waits, and playback 4 one that is frozen at 0. -/
def followDue : State := following [(2, { Playback.initial with state := .running, pendingFollow := some ⟨5, 1⟩ }),
  (3, { Playback.initial with state := .running, pendingFollow := some ⟨7, 2⟩ }),
  (4, { Playback.initial with state := .held, pendingFollow := some ⟨5, 0⟩ })]

/-- The same with nothing due on playback 2. -/
def followWaits : State := following [(2, { Playback.initial with state := .running, pendingFollow := some ⟨5, 2⟩ }),
  (4, { Playback.initial with state := .held, pendingFollow := some ⟨5, 0⟩ })]

theorem followDue_fades_ok : followDue.FadesOk := fades_ok_of_listed (by unfold FadesListed; decide)
theorem followWaits_fades_ok : followWaits.FadesOk := fades_ok_of_listed (by unfold FadesListed; decide)
theorem followDue_canonical : followDue.Canonical :=
  ⟨rich_canonical.banks, rich_canonical.looks, rich_canonical.circuits, rich_canonical.curves, by decide, by decide,
    rich_canonical.captures, rich_canonical.rows⟩

/-- Two fades, of which fade 1 reaches its completion count at the next interval, with times, a loop and a follow. -/
def ending (up down : Nat) (loop : Loop) (follow : Option Follow) : State :=
  { rich with
    playbacks := [(1, { Playback.initial with state := .running, entries := [(1, ⟨990, some 1, 0, 1000, .up⟩), (2, ⟨7, none, 0, 0, .up⟩)] }),
                  (2, { Playback.initial with state := .running, pendingFollow := some ⟨5, 9⟩, entries := [(1, ⟨500, some 3, 1000, 0, .down⟩)] })]
    fades := [⟨3, 2, some 5, 10, 10, 0, 0, none, .absent, 5, false, 1, 10⟩,
              ⟨1, 1, some 5, up, down, 0, 0, follow, loop, up - 1, false, 1, up⟩] }

/-- Fade 1 of the state `ending`. -/
def endingFade (up down : Nat) (loop : Loop) (follow : Option Follow) : Fade :=
  ⟨1, 1, some 5, up, down, 0, 0, follow, loop, up - 1, false, 1, up⟩

theorem none_due_of_listed {s : State} {which : Nat → Prop}
    (h : ∀ e ∈ s.playbacks, which e.1 → e.2.pendingFollow = none ∨ e.2.state = .held ∨ e.2.pendingFollow.all (fun w => decide (1 < w.remaining)) = true) :
    s.NoneDue which := by
  intro p w hw _ hp
  rcases Tbl.get_cases Playback.initial s.playbacks p with h' | h'
  · rw [show s.playback p = Playback.initial from h'] at hp
    cases hp
  · rcases h _ h' hw with h | h | h
    · exact nomatch hp.symm.trans h
    · exact .inl h
    · right
      rw [show (s.playbacks.get Playback.initial p).pendingFollow = some w from hp] at h
      simpa using h

theorem rich_unpaired : ∀ n, circuitOk n = true → (rich.circuit n).role = .ordinary ∨ (rich.circuit n).role = .spareFree ∨
    (rich.circuit n).role = .retired → (rich.circuit n).pairing = .unpaired := by
  intro n; rw [rich_circuit]; unfold richCircuit; (repeat' split) <;> simp [Circuit.initial]

theorem rich_failed : ∀ n m, circuitOk n = true → (rich.circuit n).role = .failed → (rich.circuit n).pairing.partner = some m →
    circuitOk m = true ∧ sameRack n m = true ∧ (rich.circuit m).role = (rich.circuit n).pairing.spareRole ∧
    (rich.circuit m).pairing = (rich.circuit n).pairing.withPartner n := by
  intro n m _; rw [rich_circuit n]; unfold richCircuit
  (repeat' split) <;> subst_vars <;> first | (rintro - ⟨⟩ <;> decide) | rintro ⟨⟩

theorem rich_spare : ∀ n, circuitOk n = true → (rich.circuit n).role = .spareHeld ∨ (rich.circuit n).role = .spareInUse →
    ∃ m, (rich.circuit n).pairing.partner = some m ∧ circuitOk m = true ∧ (rich.circuit m).role = .failed ∧
      (rich.circuit m).pairing.partner = some n := by
  intro n _; rw [rich_circuit n]; unfold richCircuit
  (repeat' split) <;> subst_vars <;> first | exact fun _ => ⟨_, rfl, by decide⟩ | (rintro (⟨⟨⟩⟩ | ⟨⟨⟩⟩))

theorem rich_health : ∀ n, circuitOk n = true → ((rich.circuit n).health = .failed ↔ (rich.circuit n).role = .failed) := by
  intro n; rw [rich_circuit]; unfold richCircuit; (repeat' split) <;> simp [Circuit.initial]

theorem rich_resend : ∀ n, circuitOk n = true → (rich.circuit n).resend = true →
    (rich.circuit n).role = .failed ∧ ∃ m, (rich.circuit n).pairing = .confirmed m := by
  intro n; rw [rich_circuit]; unfold richCircuit; (repeat' split) <;> simp [Circuit.initial]

theorem rich_pollOrder : ∀ l r, r ∈ (rich.link l).pollOrder ↔ rackOk r = true ∧ (rich.row l r).present = true := by
  intro l r; simp only [State.row, rich_link]
  cases l <;> simp only [Link.initial, Link.row, Tbl.get, RackRow.initial, rackOk]
  · (repeat' split) <;> simp <;> omega
  all_goals simp

theorem rich_order : ∀ l r w, rackOk r = true → (rich.row l r).pendingOrder = some w →
    w.order ∈ rich.owedOrders l r ∧ w.unacknowledged < Config.unackLimit := by
  intro l r w hr; simp only [State.row, rich_link]
  cases l <;> simp only [Link.initial, Link.row, Tbl.get, RackRow.initial]
  · (repeat' split) <;> subst_vars <;> first | (rintro ⟨⟩; decide +kernel) | (rintro ⟨⟩)
  all_goals rintro ⟨⟩

theorem rich_rig_ok : rich.RigOk where
  unpaired := rich_unpaired
  failed := rich_failed
  spare := rich_spare
  spares := all_racks _ (by decide +kernel)
  health := rich_health
  resend := rich_resend
  pollOrder := rich_pollOrder
  pollOnce := by intro l; rw [rich_link]; cases l <;> decide
  polled := by intro l r; rw [rich_link]; cases l <;> simp [Link.initial]
  noOrder := all_racks _ (by decide +kernel)
  order := rich_order

theorem rich_patch_ok : rich.PatchOk where
  sorted := by intro b; rw [rich_records]; split <;> decide
  ranges := by intro b; rw [rich_records]; split <;> decide
  names := by
    intro b
    rw [rich_records]
    split <;> simp [State.NamesOk, rich_circuit, richCircuit, Circuit.initial, Pairing.partner]

theorem rich_within_limits : rich.WithinLimits where
  pool := by decide
  bank := by intro b; rw [rich_records]; split <;> decide
  channel := fun b ch => le_trans List.countP_le_length (by rw [rich_records]; split <;> decide)
  circuit := fun b ck => le_trans List.countP_le_length (by rw [rich_records]; split <;> decide)
  headers := by decide
  entries := by decide

/-! ### Witnesses: the hypotheses of the statements can be met together -/

/-- The engine takes the request next on the state in which it waits, and `P` holds there. -/
def Asked (s : State) (code : ReqCode) (ps : List Byte) (P : State → Prop) : Prop :=
  (asking s code ps).nextRequest = some (.p1, ⟨7, code, ps⟩) ∧ P (asking s code ps)

theorem asked {s : State} {code : ReqCode} {ps : List Byte} {P : State → Prop} (h : P (asking s code ps)) :
    Asked s code ps P := ⟨rfl, h⟩

theorem witness_Step_runs_front_command : ({ rich with pending := [.grand, .status] } : State).pending = .grand :: [.status] := rfl

theorem witness_Canonical_kept : rich.Canonical ∧ ∃ t, step rich = .next t := ⟨rich_canonical, _, rfl⟩

theorem witness_Changeover_relations_and_timers_kept : dark.ChangeoverOk ∧ dark.TimersRun ∧ ∃ t, step dark = .next t :=
  ⟨dark_changeover_ok, ⟨rfl, by intro l; cases l <;> rfl⟩, _, rfl⟩

theorem witness_Port_bounds_kept : rich.PortsOk ∧ ∃ t, step rich = .next t := ⟨rich_ports_ok, _, rfl⟩

theorem witness_Level_ranges_and_look_lists_kept : rich.LevelsOk ∧ rich.PortsOk ∧ rich.LooksOk ∧ ∃ t, step rich = .next t :=
  ⟨rich_levels_ok, rich_ports_ok, rich_looks_ok, _, rfl⟩

theorem witness_Fade_relations_kept : rich.Canonical ∧ rich.LooksOk ∧ rich.FadesOk ∧ ∃ t, step rich = .next t :=
  ⟨rich_canonical, rich_looks_ok, rich_fades_ok, _, rfl⟩

theorem witness_Pairings_and_orders_kept : rich.Canonical ∧ rich.RigOk ∧ rich.PatchOk ∧ ∃ t, step rich = .next t :=
  ⟨rich_canonical, rich_rig_ok, rich_patch_ok, _, rfl⟩

theorem witness_Patch_relations_kept : rich.Canonical ∧ rich.RigOk ∧ rich.PatchOk ∧ ∃ t, step rich = .next t :=
  ⟨rich_canonical, rich_rig_ok, rich_patch_ok, _, rfl⟩

theorem witness_Limits_kept : rich.Canonical ∧ rich.PortsOk ∧ rich.RigOk ∧ rich.PatchOk ∧ rich.WithinLimits ∧ ∃ t, step rich = .next t :=
  ⟨rich_canonical, rich_ports_ok, rich_rig_ok, rich_patch_ok, rich_within_limits, _, rfl⟩

theorem witness_Port_frames_round_trip_params : (⟨7, .patchSet, List.replicate 58 0⟩ : Request).params.length ≤ 58 ∧
    (⟨7, List.replicate 58 0⟩ : DataFrame).data.length ≤ 58 := by decide

theorem witness_Port_frames_round_trip_read : classifyFrame [5, 90, 0, 0, 95] = .request ⟨5, .status, []⟩ ∧
    classifyFrame [5, 128, 0, 0, 133] = .data ⟨5, []⟩ := by decide

theorem witness_Port_frames_round_trip_long : 58 < (59 : Byte).toNat ∧ (List.replicate 59 (0 : Byte)).length = (59 : Byte).toNat := by
  decide

theorem witness_Port_frames_round_trip_check : ([0, 96] : List Byte) ≠ wordBytes (frameCheck [5, 90, 0]) := by decide

theorem witness_Port_frames_round_trip_code : (92 : Byte) ≠ dataCode ∧ ReqCode.ofCode (92 : Byte).toNat = none := by decide

theorem witness_Port_frames_round_trip_reception : (List.replicate 255 (1 : Byte)).length = (255 : Byte).toNat ∧
    ([1, 2] : List Byte).length = 2 ∧ frameComplete [] = false ∧ frameComplete [5, 90, 0, 0] = false := by decide +kernel

/-- A frame that ends unfinished echoes what was received of its sequence and code, and 0 for what was not (R184). -/
theorem test_unfinished_frames : classifyFrame [] = .malformed 0 0 ∧ classifyFrame [9] = .malformed 9 0 ∧
    classifyFrame [9, 90, 0] = .malformed 9 90 := by decide

theorem witness_Reply_frames_round_trip :
    let y : ReplyFrame := ⟨255, true, .hot, some ⟨.undo, 32, 1⟩, List.replicate 32 ⟨32, .dimmerFail⟩⟩
    y.address < 256 ∧ (∀ o, y.ack = some o → indexOk o.circuitIndex = true ∧ indexOk o.spareIndex = true) ∧
      y.reports.length ≤ 32 ∧ ∀ x ∈ y.reports, indexOk x.circuitIndex = true := by
  refine ⟨by decide, ?_, by decide, by decide⟩
  rintro o ⟨⟩
  decide

theorem witness_Wrong_length_is_malformed : Asked rich .patchSet [1, 0, 1, 0, 10] fun _ =>
    Instr.patchSet.requestCode = some .patchSet ∧ ReqCode.patchSet.lengthOk [1, 0, 1, 0, 10] = false := asked (by decide)

theorem witness_Wrong_length_is_malformed_announcing : Asked rich .patchLoad [1, 0, 1, 0] fun _ =>
    ReqCode.patchLoad.announcing = true ∧ ReqCode.patchLoad.lengthOk [1, 0, 1, 0] = false := asked (by decide)

theorem witness_Wrong_length_is_malformed_selection : Asked rich .circuitSet [0, 8, 4] fun _ =>
    ReqCode.circuitSet.lengthOk [0, 8, 4] = false := asked (by decide)

theorem witness_Refused_request_changes_nothing :
    let s := asking rich .patchSet [3, 0, 1, 0, 10, 5]
    s.nextRequest = some (.p1, ⟨7, .patchSet, [3, 0, 1, 0, 10, 5]⟩) ∧ exec .patchSet s = .next (run .patchSet s) ∧
      ((run .patchSet s).port .p1).outgoing =
        ((s.port .p1).closed.answering (Request.answered ⟨7, .patchSet, [3, 0, 1, 0, 10, 5]⟩ (.refuse .locked))).outgoing ∧
      (Reply.refuse .locked).outcome ≠ .done ∧ (Reply.refuse .locked).outcome ≠ .inPart :=
  ⟨rfl, rfl, by decide, by decide, by decide⟩

theorem witness_Arriving_frames_request : let r : Request := ⟨7, .patchSet, List.replicate 58 0⟩
    rich.resetLine = false ∧ receive (rich.port .p1).receiveBuffer (onLine (requestFrame r) ++ [.start]) = (some [], [requestFrame r]) ∧
      r.params.length ≤ 58 := by decide +kernel

theorem witness_Arriving_frames_malformed : rich.resetLine = false ∧
    receive (rich.port .p1).receiveBuffer (onLine [9, 128, 0, 0, 1]) = (none, [[9, 128, 0, 0, 1]]) ∧
    classifyFrame [9, 128, 0, 0, 1] = .malformed 9 dataCode ∧ classifyFrame [9] = .malformed 9 0 := by decide

theorem witness_Arriving_frames_data : let d : DataFrame := ⟨7, List.replicate 58 0⟩
    rich.resetLine = false ∧ receive (rich.port .p2).receiveBuffer (onLine (dataFrame d)) = (none, [dataFrame d]) ∧ d.data.length ≤ 58 ∧
      (rich.port .p2).transfer = none := by decide +kernel

/-- The rig in use with a frame held on port 1. -/
def holding : State := rich.setPort .p1 { rich.port .p1 with dataHold := [⟨3, [0, 5, 19, 136]⟩] }

theorem witness_Arriving_frames_held : holding.resetLine = false ∧
    receive (holding.port .p1).receiveBuffer (onLine (dataFrame ⟨4, [0, 6, 0, 0]⟩)) = (none, [dataFrame ⟨4, [0, 6, 0, 0]⟩]) ∧
    (holding.port .p1).receiveBuffer = none ∧ (holding.port .p1).dataHold ≠ [] ∧ (holding.port .p1).transfer ≠ none ∧
    exec (.dataHoldDelivery .p1) holding = .next (run (.dataHoldDelivery .p1) holding) := ⟨rfl, by decide, rfl, by decide, by decide, rfl⟩

theorem witness_Arriving_frames_wait : heldBehind.resetLine = false ∧ (heldBehind.port .p2).transfer = none ∧
    (heldBehind.port .p2).dataHold = ⟨3, [0, 5, 0, 9]⟩ :: [] ∧ (∃ r ∈ (heldBehind.port .p2).queue, r.code = .patchLoad ∨ r.code = .lookWrite) ∧
    (heldBehind.port .p2).queue.getLast?.map Request.code = some .go := by decide

theorem witness_Arriving_frames_left : let s := rich.setPort .p2 { PortState.initial with queue := [⟨8, .go, []⟩], dataHold := [⟨3, []⟩] }
    (s.port .p2).dataHold = ⟨3, []⟩ :: [] ∧ (s.port .p2).transfer = none ∧ ∀ r ∈ (s.port .p2).queue, r.code ≠ .patchLoad ∧ r.code ≠ .lookWrite := by
  decide

theorem witness_Arriving_frames_part : receive (rich.port .p1).receiveBuffer (onLine [5, 90]) = (some [5, 90], []) := by decide

/-- The look write of the rig in use, waiting for the given number of entries after its first. -/
def writing (more : Nat) (fault : Option (Nat × ReqOutcome)) : WriteTransfer :=
  ⟨9, 1, 20, 1 + more, ⟨10, 10, 0, 0, none, .absent⟩, [⟨4, 100⟩], 1, fault⟩

/-- A state whose port 1 has that look write open, with these frames held. -/
def writes (s : State) (t : WriteTransfer) (hold : List DataFrame) : State :=
  s.setPort .p1 { PortState.initial with transfer := some (.write t), inactivityTimer := .running, dataHold := hold }

theorem witness_Look_write_frames_arrival :
    let s := writes rich (writing 2 none) []
    let d : DataFrame := ⟨3, [0, 5, 19, 136]⟩
    (s.port .p1).transfer = some (.write (writing 2 none)) ∧ s.Brings (.dataFrameArrival .p1 (onLine (dataFrame d))) .p1 d [] ∧
      (writing 2 none).received + (((writeEntries d.data).getD []).take 2).length < (writing 2 none).announced :=
  ⟨rfl, .inl ⟨rfl, by decide, rfl, rfl, rfl, rfl⟩, by decide⟩

theorem witness_Look_write_frames_held :
    let d : DataFrame := ⟨3, [0, 5, 19, 136, 4, 1, 0, 0]⟩
    let s := writes rich (writing 2 none) [d, ⟨4, []⟩]
    (s.port .p1).transfer = some (.write (writing 2 none)) ∧ s.Brings (.dataHoldDelivery .p1) .p1 d [⟨4, []⟩] ∧
      (writing 2 none).received + (((writeEntries d.data).getD []).take 2).length = (writing 2 none).announced :=
  ⟨rfl, .inr ⟨rfl, rfl⟩, by decide⟩

/-- What such a frame leaves: the answers on port 1, and whether the look stands. -/
def wrote (s : State) (t : WriteTransfer) (data : List Byte) : List (ReqOutcome × Nat × List Byte) × Bool :=
  let u := run (.dataFrameArrival .p1 (onLine (dataFrame ⟨3, data⟩))) (writes s t [])
  (answers u, (u.look 1 20).isSome)

theorem test_lookWrite_range : wrote rich (writing 1 none) [4, 1, 0, 0] = ([(.range, 0, [0, 2])], false) := by decide +kernel
theorem test_lookWrite_not_greater : wrote rich (writing 1 none) [0, 4, 0, 0] = ([(.malformed, 0, [0, 2])], false) := by decide +kernel

theorem witness_Timeout_and_answer_sent : (rich.port .p1).inactivityTimer = .running ∧ rich.resetLine = false ∧
    (rich.port .p1).transfer = some (.write ⟨9, 1, 20, 3, ⟨10, 10, 0, 0, none, .absent⟩, [⟨4, 100⟩], 1, none⟩) := by decide

theorem witness_Timeout_and_answer_sent_load :
    ((rich.setPort .p2 { PortState.initial with transfer := some (.load ⟨7, 2, 9, 0, 0, none⟩) }).port .p2).transfer =
      some (.load ⟨7, 2, 9, 0, 0, none⟩) := by decide

theorem witness_Console_reset_reaches_ports_alone : ({ rich with resetLine := true } : State).resetLine = true := rfl

theorem witness_Edit_resolves_circuit : (rich.circuit 1).role = .ordinary ∧
    ((rich.circuit 8).role = .failed ∧ (rich.circuit 8).pairing = .unpaired) ∧
    ((rich.circuit 2).role = .failed ∧ (rich.circuit 2).pairing = .ordered 3) ∧
    ((rich.circuit 4).role = .failed ∧ (rich.circuit 4).pairing = .confirmed 5) ∧
    ((rich.circuit 12).role = .failed ∧ (rich.circuit 12).pairing = .restoring 13) ∧ (rich.circuit 6).role = .spareFree ∧
    (rich.circuit 3).role = .spareHeld ∧ (rich.circuit 5).role = .spareInUse ∧ (rich.circuit 9).role = .retired := by decide

/-! The order of checks of a patch edit: each outcome, and each request's own range. -/

theorem witness_Patch_edits_range : Asked rich .patchSet [7, 0, 1, 0, 10, 50] fun _ => bankOk 7 = false := asked (by decide)
theorem witness_Patch_edits_range_low : Asked rich .patchClear [1, 0, 0, 0, 10] fun _ => channelOk (word 0 0) = false := asked (by decide)
theorem witness_Patch_edits_changing : Asked dark .patchClear [2, 0, 1, 0, 10] fun s =>
    (bankOk 2 && channelOk (word 0 1) && circuitOk (word 0 10)) = true ∧ s.changeover.phase = .darkening ∧
    s.changeover.target = some 2 := asked (by decide)
theorem witness_Patch_edits_locked : Asked rich .patchSet [6, 4, 0, 8, 0, 50] fun s =>
    (bankOk 6 && channelOk (word 4 0) && circuitOk (word 8 0)) = true ∧
    ¬(s.changeover.phase = .darkening ∧ s.changeover.target = some 6) ∧ (s.bank 6).locked = true := asked (by decide)
theorem witness_Patch_edits_setIf : Asked rich .patchSetIf [1, 0, 1, 0, 10, 50, 1, 101] fun _ =>
    ((1 : Byte) == 0 || ((1 : Byte) == 1 && decide ((101 : Byte).toNat ≤ 100))) = false := asked (by decide)
theorem witness_Patch_edits_clearIf : Asked rich .patchClearIf [1, 0, 1, 0, 10, 101] fun _ =>
    decide ((101 : Byte).toNat ≤ 100) = false := asked (by decide)
theorem witness_Patch_edits_clearChannel : Asked rich .patchClearChannel [1, 4, 1] fun _ => channelOk (word 4 1) = false :=
  asked (by decide)
theorem witness_Patch_edits_swap : Asked rich .patchSwap [1, 8, 1, 0, 1] fun _ => circuitOk (word 8 1) = false := asked (by decide)
theorem witness_Patch_edits_rangeCount : Asked rich .patchRange [1, 0, 1, 0, 1, 1, 1, 50] fun _ => decide (word 1 1 ≤ 256) = false :=
  asked (by decide)

theorem witness_Patch_edits_conflict_clear : Asked rich .patchClear [1, 0, 1, 0, 3] fun s =>
    (bankOk 1 && channelOk (word 0 1) && circuitOk (word 0 3)) = true ∧ ¬(s.changeover.phase = .darkening ∧ s.changeover.target = some 1) ∧
    (s.bank 1).locked = false ∧ s.resolve (word 0 3) = none := asked (by decide)
theorem witness_Patch_edits_conflict_conditional : Asked rich .patchClearIf [1, 0, 1, 0, 9, 100] fun s =>
    decide ((100 : Byte).toNat ≤ 100) = true ∧ (s.bank 1).locked = false ∧ s.resolve (word 0 9) = none := asked (by decide)
theorem witness_Patch_edits_conflict_swap : Asked rich .patchSwap [1, 0, 2, 0, 10] fun s =>
    (bankOk 1 && circuitOk (word 0 2) && circuitOk (word 0 10)) = true ∧ (s.bank 1).locked = false ∧
    (s.circuit (word 0 2)).pairing ≠ .unpaired := asked (by decide)

/-! PATCH-SET, the conditional edits and the clears. -/

theorem witness_Patch_set_conflict : Asked rich .patchSet [1, 0, 1, 0, 3, 50] fun s => bankOk 1 = true ∧ channelOk (word 0 1) = true ∧
    circuitOk (word 0 3) = true ∧ s.changingBank 1 = false ∧ (s.bank 1).locked = false ∧ s.resolve (word 0 3) = none :=
  asked (by decide)
theorem witness_Patch_set_replaces : Asked rich .patchSet [1, 0, 1, 0, 10, 101] fun s => s.changingBank 1 = false ∧
    (s.bank 1).locked = false ∧ s.resolve (word 0 10) = some (10, none) ∧
    findRec (s.records 1) (word 0 1) 10 = some ⟨1, 10, 50, none⟩ := asked (by decide)
theorem witness_Patch_set_adds : Asked rich .patchSet [2, 4, 0, 8, 0, 100] fun s => bankOk 2 = true ∧ channelOk (word 4 0) = true ∧
    circuitOk (word 8 0) = true ∧ s.changingBank 2 = false ∧ (s.bank 2).locked = false ∧
    s.resolve (word 8 0) = some (2048, none) ∧ findRec (s.records 2) (word 4 0) 2048 = none ∧
    s.hasRoom 2 (word 4 0) 2048 = true := asked (by decide)

/-- Bank 2 holds the four records a circuit may have. -/
def crowded : State := rich.setRecords 2 [⟨1, 20, 50, none⟩, ⟨2, 20, 50, none⟩, ⟨3, 20, 50, none⟩, ⟨4, 20, 50, none⟩]

theorem witness_Patch_set_full : Asked crowded .patchSet [2, 0, 9, 0, 20, 0] fun s => s.changingBank 2 = false ∧
    (s.bank 2).locked = false ∧ s.resolve (word 0 20) = some (20, none) ∧ findRec (s.records 2) (word 0 9) 20 = none ∧
    s.hasRoom 2 (word 0 9) 20 = false := asked (by decide)

theorem witness_Conditional_set_mismatch : Asked rich .patchSetIf [1, 0, 1, 0, 10, 60, 0, 0] fun s => s.changingBank 1 = false ∧
    (s.bank 1).locked = false ∧ s.resolve (word 0 10) = some (10, none) ∧
    (findRec (s.records 1) (word 0 1) 10).map PatchRec.proportion ≠ none := asked (by decide)
theorem witness_Conditional_set_match : Asked rich .patchSetIf [1, 0, 2, 0, 10, 60, 1, 100] fun s => s.changingBank 1 = false ∧
    (s.bank 1).locked = false ∧ s.resolve (word 0 10) = some (10, none) ∧ (100 : Byte).toNat ≤ 100 ∧
    (findRec (s.records 1) (word 0 2) 10).map PatchRec.proportion = some (100 : Byte).toNat := asked (by decide)
theorem witness_Conditional_set_match_absent : Asked crowded .patchSetIf [2, 0, 9, 0, 20, 60, 0, 200] fun s => s.changingBank 2 = false ∧
    (s.bank 2).locked = false ∧ s.resolve (word 0 20) = some (20, none) ∧
    (findRec (s.records 2) (word 0 9) 20).map PatchRec.proportion = none := asked (by decide)
theorem witness_Clear_absent : Asked rich .patchClear [1, 0, 9, 0, 10] fun s => s.changingBank 1 = false ∧
    (s.bank 1).locked = false ∧ s.resolve (word 0 10) = some (10, none) ∧ findRec (s.records 1) (word 0 9) 10 = none :=
  asked (by decide)
theorem witness_Clear_present : Asked rich .patchClear [1, 0, 2, 0, 4] fun s => s.changingBank 1 = false ∧
    (s.bank 1).locked = false ∧ s.resolve (word 0 4) = some (5, some 4) ∧
    findRec (s.records 1) (word 0 2) 5 = some ⟨2, 5, 30, some 4⟩ := asked (by decide)
theorem witness_ClearIf_absent : Asked rich .patchClearIf [1, 0, 9, 0, 10, 100] fun s => s.changingBank 1 = false ∧
    (s.bank 1).locked = false ∧ s.resolve (word 0 10) = some (10, none) ∧ findRec (s.records 1) (word 0 9) 10 = none ∧
    (100 : Byte).toNat ≤ 100 := asked (by decide)
theorem witness_ClearIf_expected : Asked rich .patchClearIf [1, 0, 2, 0, 10, 100] fun s => s.changingBank 1 = false ∧
    (s.bank 1).locked = false ∧ s.resolve (word 0 10) = some (10, none) ∧
    (findRec (s.records 1) (word 0 2) 10).map PatchRec.proportion = some 100 := asked (by decide)
theorem witness_ClearIf_other : Asked rich .patchClearIf [1, 0, 2, 0, 10, 0] fun s => s.changingBank 1 = false ∧
    (s.bank 1).locked = false ∧ s.resolve (word 0 10) = some (10, none) ∧
    (findRec (s.records 1) (word 0 2) 10).map PatchRec.proportion = some 100 := asked (by decide)

theorem witness_Channel_clear : Asked rich .patchClearChannel [1, 4, 0] fun s => bankOk 1 = true ∧ s.changingBank 1 = false ∧
    (s.bank 1).locked = false ∧ channelOk (word 4 0) = true := asked (by decide)
theorem witness_Channel_swap : Asked rich .patchSwap [1, 0, 10, 0, 11] fun s => s.changingBank 1 = false ∧ (s.bank 1).locked = false ∧
    circuitOk (word 0 10) = true ∧ circuitOk (word 0 11) = true ∧ word 0 10 ≠ word 0 11 ∧
    (s.circuit (word 0 10)).swappable = true ∧ (s.circuit (word 0 11)).swappable = true ∧
    (s.records 1).Pairwise fun r r' => recBefore r r' = true := asked (by decide)
theorem witness_Channel_swap_same : Asked rich .patchSwap [1, 8, 0, 8, 0] fun s => circuitOk (word 8 0) = true ∧
    (s.circuit (word 8 0)).swappable = true := asked (by decide)

theorem witness_Patch_range : Asked rich .patchRange [1, 3, 1, 7, 1, 1, 0, 50] fun s => bankOk 1 = true ∧ channelOk (word 3 1) = true ∧
    circuitOk (word 7 1) = true ∧ 1 ≤ word 1 0 ∧ word 1 0 ≤ 256 ∧ word 3 1 + word 1 0 - 1 ≤ 1024 ∧ word 7 1 + word 1 0 - 1 ≤ 2048 ∧
    s.changingBank 1 = false ∧ (s.bank 1).locked = false := asked (by decide)
theorem witness_Patch_range_one : Asked rich .patchRange [1, 4, 0, 8, 0, 0, 1, 50] fun s => 1 ≤ word 0 1 ∧
    word 4 0 + word 0 1 - 1 ≤ 1024 ∧ word 8 0 + word 0 1 - 1 ≤ 2048 ∧ (s.bank 1).locked = false := asked (by decide)

theorem witness_Patch_load_opens : Asked rich .patchLoad [1, 4, 0] fun s => bankOk 1 = true ∧ 1 ≤ word 4 0 ∧ word 4 0 ≤ 1024 ∧
    s.changingBank 1 = false ∧ (s.bank 1).locked = false := asked (by decide)
theorem witness_Patch_load_range_bank : Asked rich .patchLoad [7, 0, 1] fun _ => bankOk 7 = false := asked (by decide)
theorem witness_Patch_load_range_none : Asked rich .patchLoad [1, 0, 0] fun _ => word 0 0 = 0 := asked (by decide)
theorem witness_Patch_load_range_many : Asked rich .patchLoad [1, 4, 1] fun _ => 1024 < word 4 1 := asked (by decide)

theorem witness_Patch_load_changing : Asked dark .patchLoad [2, 0, 1] fun s => bankOk 2 = true ∧ 1 ≤ word 0 1 ∧ word 0 1 ≤ 1024 ∧
    s.changeover.phase = .darkening ∧ s.changeover.target = some 2 := asked (by decide)
theorem witness_Patch_load_locked : Asked rich .patchLoad [6, 4, 0] fun s => bankOk 6 = true ∧ (s.bank 6).locked = true :=
  asked (by decide)

/-- A load of bank 2 awaits its last record. -/
def loading (first : Option (Nat × ReqOutcome)) : State :=
  rich.setPort .p1 { PortState.initial with transfer := some (.load ⟨7, 2, 9, 8, 8, first⟩), inactivityTimer := .running }

theorem witness_Patch_load_last_record :
    ((loading none).port .p1).transfer = some (.load ⟨7, 2, 9, 8, 8, none⟩) ∧
    (loading none).Brings (.dataFrameArrival .p1 (onLine (dataFrame ⟨3, [4, 0, 8, 0, 100]⟩))) .p1 ⟨3, [4, 0, 8, 0, 100]⟩ [] ∧ 8 < 9 ∧
    channelOk (word 4 0) = true ∧ circuitOk (word 8 0) = true ∧ ((loading none).bank 2).locked = false ∧
    ((loading none).storeRecord 2 (word 4 0) (word 8 0) 100).isOk = true :=
  ⟨rfl, .inl ⟨rfl, by decide, rfl, rfl, rfl, rfl⟩, by decide⟩
theorem witness_Patch_load_last_record_fails :
    ((loading (some (3, .full))).port .p1).transfer = some (.load ⟨7, 2, 9, 8, 8, some (3, .full)⟩) ∧
    ((loading (some (3, .full))).storeRecord 2 (word 0 1) (word 0 9) 100).isOk = false := by decide

/-- A load of bank 2 at its start, its frames held: records with every kind of failure but CHANGING. -/
def loadHeld : State :=
  rich.setPort .p1 { PortState.initial with
    transfer := some (.load ⟨7, 2, 4, 0, 0, none⟩), inactivityTimer := .running
    dataHold := [⟨3, [0, 1, 0, 20, 120, 4, 1, 0, 20, 50, 0, 1, 0, 9, 50]⟩, ⟨4, [0, 2, 0, 20, 50]⟩] }

theorem witness_Patch_load_held : (loadHeld.port .p1).transfer = some (.load ⟨7, 2, 4, 0, 0, none⟩) ∧
    loadHeld.Brings (.dataHoldDelivery .p1) .p1 ⟨3, [0, 1, 0, 20, 120, 4, 1, 0, 20, 50, 0, 1, 0, 9, 50]⟩ [⟨4, [0, 2, 0, 20, 50]⟩] ∧
    0 < 4 ∧ channelOk (word 4 1) = false := ⟨rfl, .inr ⟨rfl, rfl⟩, by decide⟩
/-- One record of three applies, and the first that fails is the second, with RANGE. -/
theorem test_patchLoad_several :
    let u := run (.dataHoldDelivery .p1) loadHeld
    u.records 2 = [⟨1, 20, 100, none⟩] ∧ (u.port .p1).transfer = some (.load ⟨7, 2, 4, 3, 1, some (2, .range)⟩) := by decide +kernel

theorem witness_Bank_copy : Asked rich .bankCopy [6, 2] fun s => bankOk 2 = true ∧ bankOk 6 = true ∧ (6 : Byte) ≠ 2 ∧
    s.changingBank 2 = false ∧ (s.bank 2).locked = false ∧
    s.poolCount - (s.records 2).length + (s.records 6).length ≤ 8192 := asked (by decide)
theorem witness_Bank_copy_changing : Asked dark .bankCopy [1, 2] fun s => (bankOk 1 && bankOk 2) = true ∧
    s.changeover.phase = .darkening ∧ s.changeover.target = some 2 := asked (by decide)
theorem witness_Bank_copy_locked : Asked rich .bankCopy [1, 6] fun s => (bankOk 1 && bankOk 6) = true ∧ (s.bank 6).locked = true :=
  asked (by decide)
theorem witness_Bank_copy_conflict : Asked rich .bankCopy [1, 1] fun s => (s.bank 1).locked = false ∧ (1 : Byte) = 1 := asked (by decide)

/-- Bank 1 holds as many records as the pool has room for. -/
def poolFull : State := State.reset.setBank 1 { State.reset.bank 1 with records := List.replicate 8192 ⟨1, 1, 0, none⟩ }

theorem witness_Bank_copy_full : Asked ((poolFull.setBank 2 ⟨false, [⟨1, 1, 0, none⟩], []⟩).setBank 3 ⟨false, [], []⟩) .bankCopy [2, 3] fun s =>
    (bankOk 2 && bankOk 3) = true ∧ s.changeover.phase = .idle ∧ (s.bank 3).locked = false ∧ (2 : Byte) ≠ 3 ∧
    8192 < s.poolCount - (s.records 3).length + (s.records 2).length := asked (by decide +kernel)
theorem witness_Bank_erase_conflict : Asked rich .bankErase [1] fun s => (s.bank 1).locked = false ∧ 1 = s.liveBank := asked (by decide)
theorem witness_Bank_lock_range : Asked rich .bankLock [7] fun _ => bankOk 7 = false := asked (by decide)
theorem witness_Bank_erase : Asked rich .bankErase [2] fun s => bankOk 2 = true ∧ s.changingBank 2 = false ∧
    (s.bank 2).locked = false ∧ 2 ≠ s.liveBank := asked (by decide)
theorem witness_Bank_lock : Asked dark .bankLock [6] fun _ => bankOk 6 = true := asked (by decide)
theorem witness_Bank_unlock : Asked dark .bankUnlock [1] fun _ => bankOk 1 = true := asked (by decide)

theorem witness_Locked_and_target_banks_are_kept : (rich.bank 3).locked = true ∧ (∃ t, exec .fadeInterval rich = .next t) ∧
    dark.changeover.phase = .darkening ∧ dark.changeover.target = some 2 ∧ ∃ t, exec .fadeInterval dark = .next t :=
  ⟨by decide, ⟨_, rfl⟩, by decide, by decide, _, rfl⟩

theorem witness_Undo_rewriting_restores_records : (10 : Nat) ≠ 6 ∧
    (∀ b, (rich.records b).Pairwise fun r r' => recBefore r r' = true) ∧
    (∀ b, ∀ r ∈ rich.records b, r.circuit ≠ 6 ∧ (r.circuit = 10 → r.original = none)) := by
  refine ⟨by decide, rich_patch_ok.sorted, ?_⟩
  intro b
  rw [rich_records]
  split <;> decide

/-- Circuit 2, which waits for its TRANSFER to circuit 3, is named by a record, and so is circuit 13, the spare of the restoring circuit 12. -/
def ordered : State := rich.setRecords 2 [⟨3, 2, 40, none⟩, ⟨3, 13, 60, some 12⟩]

theorem ordered_records (b : Nat) : ordered.records b =
    if 1 = b then rich.records 1 else if 2 = b then [⟨3, 2, 40, none⟩, ⟨3, 13, 60, some 12⟩] else [] := by
  rw [show ordered = { rich with banks := [(1, rich.bank 1), (2, ⟨false, [⟨3, 2, 40, none⟩, ⟨3, 13, 60, some 12⟩], []⟩)] } by decide +kernel]
  simp only [State.records, State.bank, Tbl.get]
  (repeat' split) <;> rfl

theorem ordered_canonical : ordered.Canonical :=
  ⟨by decide, by decide, by decide, by decide, by decide, by decide, by decide, by intro l; cases l <;> decide⟩

theorem ordered_rig_ok : ordered.RigOk :=
  ⟨rich_rig_ok.unpaired, rich_rig_ok.failed, rich_rig_ok.spare, rich_rig_ok.spares, rich_rig_ok.health, rich_rig_ok.resend,
    rich_rig_ok.pollOrder, rich_rig_ok.pollOnce, rich_rig_ok.polled, rich_rig_ok.noOrder, rich_rig_ok.order⟩

theorem ordered_patch_ok : ordered.PatchOk where
  sorted := by intro b; rw [ordered_records]; (repeat' split) <;> decide
  ranges := by intro b; rw [ordered_records]; (repeat' split) <;> decide
  names := by
    intro b
    rw [ordered_records]
    (repeat' split)
    · exact rich_patch_ok.names 1
    · simp [State.NamesOk, show ∀ n, ordered.circuit n = rich.circuit n from fun _ => rfl, rich_circuit, richCircuit, Circuit.initial,
        Pairing.partner]
    · simp

theorem witness_Edit_and_acknowledgement_commute : ordered.Canonical ∧ ordered.RigOk ∧ ordered.PatchOk ∧ circuitOk 2 = true ∧
    (ordered.circuit 2).role = .failed ∧ (ordered.circuit 2).pairing = .ordered 3 ∧ circuitOk 12 = true ∧
    (ordered.circuit 12).role = .failed ∧ (ordered.circuit 12).pairing = .restoring 13 ∧
    patchClearIf ∈ [patchSet, patchSetIf, patchClear, patchClearIf, patchClearChannel] :=
  ⟨ordered_canonical, ordered_rig_ok, ordered_patch_ok, by decide, by decide, by decide, by decide, by decide, by decide, by simp⟩
/-- The edits that clear, of the failed circuit of either pairing: nothing is left of it, whichever is taken first (R9). -/
theorem test_clear_and_acknowledgement :
    ((patchClear [2, 0, 3, 0, 2] ordered).1.ackTransfer 2 3).records 2 = [⟨3, 13, 60, some 12⟩] ∧
    (patchClear [2, 0, 3, 0, 2] (ordered.ackTransfer 2 3)).1.records 2 = [⟨3, 13, 60, some 12⟩] ∧
    ((patchClearIf [2, 0, 3, 0, 12, 60] ordered).1.ackUndo 12 13).records 2 = [⟨3, 2, 40, none⟩] ∧
    (patchClearIf [2, 0, 3, 0, 12, 60] (ordered.ackUndo 12 13)).1.records 2 = [⟨3, 2, 40, none⟩] := by decide +kernel

/-! Circuits, rig settings, curves. -/

/-- Every field selected, each at an edge of its range. -/
def allFields : CircuitSelection := ⟨some 1, some 3, some 15, some (0, 0), some (1, 255), some (0, 1)⟩

/-- A number or code of a CIRCUIT-SET is out of range (R37). -/
def Outside (n : Nat) (x : CircuitSelection) : Prop :=
  n = 0 ∨ 2048 < n ∨ (∃ b, x.role = some b ∧ (b = 0 ∨ 6 < b.toNat)) ∨ (∃ b, x.mode = some b ∧ (b = 0 ∨ 3 < b.toNat)) ∨
    (∃ b, x.curve = some b ∧ 15 < b.toNat) ∨ (∃ b, x.park = some b ∧ 1 < b.1.toNat) ∨
    (∃ b, x.masks = some b ∧ (1 < b.1.toNat ∨ 1 < b.2.toNat))

theorem witness_Circuit_set_all_fields : Asked rich .circuitSet (0 :: 8 :: allFields.byte :: allFields.bytes) fun s =>
    ¬ Outside (word 0 8) allFields ∧ s.rig.locked = false ∧
    s.roleRefusal (word 0 8) ((allFields.role.bind fun b => Role.ofCode b.toNat).getD (s.circuit (word 0 8)).role) = none :=
  asked ⟨by simp [Outside, allFields, word], by decide⟩
theorem witness_Circuit_set_no_field :
    let x : CircuitSelection := ⟨none, none, none, none, none, none⟩
    Asked rich .circuitSet (8 :: 0 :: x.byte :: x.bytes) fun s => ¬ Outside (word 8 0) x ∧
      s.rig.locked = false ∧ s.roleRefusal (word 8 0) (s.circuit (word 8 0)).role = none :=
  asked ⟨by simp [Outside, word], by decide⟩

/-- One field of each kind outside its range. -/
def outsideFields : List CircuitSelection :=
  [⟨some 0, none, none, none, none, none⟩, ⟨some 7, none, none, none, none, none⟩, ⟨none, some 0, none, none, none, none⟩,
    ⟨none, some 4, none, none, none, none⟩, ⟨none, none, some 16, none, none, none⟩, ⟨none, none, none, none, some (2, 0), none⟩,
    ⟨none, none, none, none, none, some (2, 0)⟩, ⟨none, none, none, none, none, some (0, 2)⟩]

theorem witness_Circuit_set_outside : (∀ x ∈ outsideFields, Outside (word 0 8) x) ∧ Outside (word 0 0) allFields ∧
    Outside (word 8 1) allFields := by simp [outsideFields, Outside, word]
theorem test_circuitSet_outside : (∀ x ∈ outsideFields, answers (run .circuitSet (asking rigLocked .circuitSet (0 :: 8 :: x.byte :: x.bytes))) =
    [(.range, 0, [])]) := by decide +kernel
theorem witness_Circuit_set_selection : 64 ≤ (64 : Byte).toNat ∧ ([] : List Byte).length = selectionLength 64 ∧
    64 ≤ (255 : Byte).toNat ∧ (List.replicate 9 (0 : Byte)).length = selectionLength 255 := by decide
theorem test_circuitSet_selection : answers (run .circuitSet (asking rich .circuitSet [0, 8, 128])) = [(.range, 0, [])] := by decide

theorem witness_Circuit_set_role_range : Role.ofCode (0 : Byte).toNat = none ∧ 6 < (7 : Byte).toNat ∧ circuitOk (word 0 0) = false ∧
    circuitOk (word 8 1) = false := by decide
theorem witness_Circuit_set_role_conflict : Asked rich .circuitSet [0, 10, 1, 2] fun s => circuitOk (word 0 10) = true ∧
    s.rig.locked = false ∧ Role.ofCode (2 : Byte).toNat = some .spareFree ∧ (s.circuit (word 0 10)).role = .ordinary ∧
    s.named (word 0 10) = true := asked (by decide)
theorem witness_Circuit_set_role_full : Asked rich .circuitSet [0, 20, 1, 2] fun s => Role.ofCode (2 : Byte).toNat = some .spareFree ∧
    (s.circuit (word 0 20)).role = .ordinary ∧ s.named (word 0 20) = false ∧ 4 ≤ s.rackSpares (linkOf (word 0 20)) (rackOf (word 0 20)) :=
  asked (by decide +kernel)
theorem witness_Circuit_set_role_stored : Asked (rich.setCircuit 6 Circuit.initial) .circuitSet [0, 20, 1, 2] fun s =>
    Role.ofCode (2 : Byte).toNat = some .spareFree ∧ (s.circuit (word 0 20)).role = .ordinary ∧ s.named (word 0 20) = false ∧
    s.rackSpares (linkOf (word 0 20)) (rackOf (word 0 20)) = 3 := asked (by decide +kernel)

theorem witness_Rig_set : Asked rich .rigSet [1, 9, 255] fun s => ((1 : Byte) = 0 ∨ (1 : Byte) = 1) ∧ s.rig.locked = false :=
  asked (by decide)
theorem witness_Rig_set_range : Asked rich .rigSet [2, 0, 0] fun _ => (2 : Byte) ≠ 0 ∧ (2 : Byte) ≠ 1 := asked (by decide)
theorem witness_Rig_lock : Asked rich .rigLock [] fun _ => True := asked trivial
theorem witness_Rig_unlock : Asked rigLocked .rigUnlock [] fun _ => True := asked trivial

/-- Seventeen points at full. -/
def fullPoints : List Byte := (List.replicate 17 [16, 0]).flatten

theorem witness_Curve_load : Asked rich .curveLoad (15 :: fullPoints) fun s => fullPoints.length = 34 ∧ 1 ≤ (15 : Byte).toNat ∧
    (15 : Byte).toNat ≤ 15 ∧ (∀ p ∈ words fullPoints, p ≤ 4096) ∧ (words fullPoints).Pairwise (· ≤ ·) ∧ s.rig.locked = false :=
  asked (by decide +kernel)
theorem witness_Curve_load_falling : Asked rich .curveLoad (1 :: (0 :: 1 :: List.replicate 32 0)) fun _ =>
    (∀ p ∈ words (0 :: 1 :: List.replicate 32 0), p ≤ 4096) ∧ ¬ (words (0 :: 1 :: List.replicate 32 0)).Pairwise (· ≤ ·) :=
  asked (by decide +kernel)
theorem witness_Curve_load_zero : Asked rich .curveLoad (0 :: fullPoints) fun _ => (0 : Byte) = 0 := asked rfl
theorem witness_Curve_load_high : Asked rich .curveLoad (16 :: fullPoints) fun _ => 15 < (16 : Byte).toNat := asked (by decide)
theorem witness_Curve_load_point : Asked rich .curveLoad (1 :: (16 :: 1 :: List.replicate 32 0)) fun _ =>
    ∃ p ∈ words (16 :: 1 :: List.replicate 32 0), 4096 < p := asked (by decide +kernel)

theorem witness_Rig_lock_circuitSet : Asked rigLocked .circuitSet (8 :: 0 :: allFields.byte :: allFields.bytes) fun s =>
    s.rig.locked = true ∧ circuitOk (word 8 0) = true ∧ allFields.inRange = true := asked (by decide)
theorem witness_Rig_lock_curveLoad : Asked rigLocked .curveLoad (15 :: fullPoints) fun s => s.rig.locked = true ∧
    1 ≤ (15 : Byte).toNat ∧ (15 : Byte).toNat ≤ 15 ∧ fullPoints.length = 34 ∧ (∀ p ∈ words fullPoints, p ≤ 4096) ∧
    nonDecreasing (words fullPoints) = true := asked (by decide +kernel)
theorem witness_Rig_lock_rigSet : Asked rigLocked .rigSet [1, 0, 0] fun s => s.rig.locked = true ∧ (1 : Byte) = 1 := asked (by decide)
theorem witness_Rig_lock_rackSet : Asked rigLocked .rackSet [4, 16, 1] fun s => s.rig.locked = true ∧ 1 ≤ (4 : Byte).toNat ∧
    (4 : Byte).toNat ≤ 4 ∧ rackOk (16 : Byte).toNat = true ∧ (1 : Byte) = 1 := asked (by decide)
theorem witness_Rig_lock_reassign : Asked rigLocked .reassign [8, 0, 0, 1] fun s => s.rig.locked = true ∧
    circuitOk (word 8 0) = true ∧ circuitOk (word 0 1) = true := asked (by decide)
theorem witness_Rig_lock_restore : Asked rigLocked .restore [0, 4] fun s => s.rig.locked = true ∧ circuitOk (word 0 4) = true :=
  asked (by decide)

theorem witness_Rig_lock_keeps_settings : rigLocked.rig.locked = true ∧ (∃ t, exec .fadeInterval rigLocked = .next t) ∧
    Instr.fadeInterval ≠ .rigUnlock ∧ ∀ x y, Instr.fadeInterval ≠ .powerOn x y :=
  ⟨rfl, ⟨_, rfl⟩, by decide, nofun⟩

/-! Looks and reads. -/

theorem witness_Look_write_opens : Asked rich .lookWrite [1, 39, 15, 4, 0, 1, 244, 1, 44, 0, 100, 0, 0, 1, 39, 15, 0, 0, 2, 255] fun s =>
    bankOk 1 = true ∧ lookOk (word 39 15) = true ∧ 1 ≤ word 4 0 ∧ word 4 0 ≤ 1024 ∧ ((1 : Byte) = 1 ∧ lookOk (word 39 15) = true) ∧
    ((2 : Byte) = 2 ∧ (255 : Byte) ≠ 0) ∧ s.changingBank 1 = false ∧ (s.bank 1).locked = false ∧
    s.lookFits 1 (word 39 15) (word 4 0) = true := asked (by decide)

theorem witness_Look_write_range : Asked rich .lookWrite [1, 0, 20, 0, 2, 0, 0, 0, 0, 0, 0, 0, 0, 0, 0, 0, 0, 0, 2, 0] fun _ =>
    ((2 : Byte) == 0 || (2 : Byte) == 1 || ((2 : Byte) == 2 && (0 : Byte) != 0)) = false := asked (by decide)
theorem witness_Look_write_changing : Asked dark .lookWrite [2, 0, 20, 0, 2, 0, 0, 0, 0, 0, 0, 0, 0, 0, 0, 0, 0, 0, 0, 9] fun s =>
    s.changeover.phase = .darkening ∧ s.changeover.target = some 2 := asked (by decide)
theorem witness_Look_write_locked : Asked rich .lookWrite [6, 0, 20, 0, 2, 0, 0, 0, 0, 0, 0, 0, 0, 0, 0, 0, 0, 0, 1, 0] fun s =>
    bankOk 6 = true ∧ (s.bank 6).locked = true := asked (by decide)
theorem witness_Look_delete_changing : Asked dark .lookDelete [2, 0, 5] fun s => bankOk 2 = true ∧ lookOk (word 0 5) = true ∧
    s.changeover.phase = .darkening ∧ s.changeover.target = some 2 := asked (by decide)
theorem witness_Look_delete_locked : Asked rich .lookDelete [6, 0, 5] fun s => (s.bank 6).locked = true := asked (by decide)

/-- Bank 2 holds all the look headers there are. -/
def headersFull : State :=
  { State.reset with banks := [(2, ⟨false, [], (List.range 768).map fun i => (i + 1, some ⟨⟨0, 0, 0, 0, none, .absent⟩, [⟨1, 0⟩]⟩)⟩)] }

theorem witness_Look_write_full : Asked headersFull .lookWrite [2, 4, 0, 0, 1, 0, 0, 0, 0, 0, 0, 0, 0, 0, 0, 0, 0, 0, 1, 0] fun s =>
    bankOk 2 = true ∧ lookOk (word 4 0) = true ∧ 1 ≤ word 0 1 ∧ word 0 1 ≤ 1024 ∧ s.changingBank 2 = false ∧
    (s.bank 2).locked = false ∧ s.lookFits 2 (word 4 0) (word 0 1) = false := asked (by decide +kernel)

theorem witness_Look_delete : Asked rich .lookDelete [1, 0, 5] fun s => bankOk 1 = true ∧ lookOk (word 0 5) = true ∧
    s.changingBank 1 = false ∧ (s.bank 1).locked = false ∧ (s.look 1 (word 0 5)).isSome = true := asked (by decide)
theorem witness_Look_delete_absent : Asked rich .lookDelete [1, 0, 7] fun s => lookOk (word 0 7) = true ∧
    (s.bank 1).locked = false ∧ s.look 1 (word 0 7) = none := asked (by decide)

theorem witness_Reads_channel : Asked rich .patchReadChannel [6, 4, 0] fun _ => bankOk 6 = true ∧ channelOk (word 4 0) = true :=
  asked (by decide)
theorem witness_Reads_circuit_records : Asked rich .patchReadCircuit [1, 8, 0] fun _ => bankOk 1 = true ∧ circuitOk (word 8 0) = true :=
  asked (by decide)
theorem witness_Reads_circuit : Asked rich .circuitRead [0, 1] fun _ => circuitOk (word 0 1) = true := asked (by decide)
theorem witness_Reads_rig : Asked rich .rigRead [] fun _ => True := asked trivial
theorem witness_Reads_curve : Asked rich .curveRead [15] fun _ => (15 : Byte).toNat ≤ 15 := asked (by decide)
theorem witness_Reads_look : Asked rich .lookRead [1, 0, 5, 4, 0] fun s => bankOk 1 = true ∧ lookOk (word 0 5) = true ∧
    1 ≤ word 4 0 ∧ word 4 0 ≤ 1024 ∧ (s.look 1 (word 0 5)).isSome = true := asked (by decide)
theorem witness_Reads_look_absent : Asked rich .lookRead [1, 39, 15, 0, 1] fun s => bankOk 1 = true ∧ lookOk (word 39 15) = true ∧
    1 ≤ word 0 1 ∧ s.look 1 (word 39 15) = none := asked (by decide)
theorem witness_Reads_playback : Asked rich .playbackRead [8] fun _ => playbackOk 8 = true := asked (by decide)
theorem witness_Reads_fade : Asked rich .fadeRead [1] fun s => 1 ≤ (1 : Byte).toNat ∧ (1 : Byte).toNat ≤ 48 ∧
    (s.fades.find? fun f => f.number == 1).isSome = true := asked (by decide)
theorem witness_Reads_fade_absent : Asked rich .fadeRead [48] fun s => 1 ≤ (48 : Byte).toNat ∧ (48 : Byte).toNat ≤ 48 ∧
    s.fades.find? (fun f => f.number == 48) = none := asked (by decide)
theorem witness_Reads_entry : Asked rich .channelRead [1, 4, 0] fun _ => playbackOk 1 = true ∧ channelOk (word 4 0) = true :=
  asked (by decide)
theorem witness_Reads_mixer : Asked rich .mixerRead [4, 0] fun _ => 1 ≤ word 4 0 ∧ word 4 0 ≤ 1024 := asked (by decide)
theorem witness_Reads_output : Asked rich .outputRead [8, 0] fun _ => circuitOk (word 8 0) = true := asked (by decide)
theorem witness_Reads_rack : Asked rich .rackRead [4, 16] fun _ => linkOfNumber 4 = some .d ∧ rackOk 16 = true := asked (by decide)
theorem witness_Reads_transfer : Asked rich .transferRead [1, 1] fun _ => linkOfNumber 1 = some .a ∧ rackOk 1 = true := asked (by decide)
theorem witness_Reads_status : Asked rich .status [] fun _ => True := asked trivial
theorem witness_Reads_range : bankOk (0 : Byte).toNat = false ∧ bankOk (7 : Byte).toNat = false ∧ channelOk (word 0 0) = false ∧
    channelOk (word 4 1) = false ∧ circuitOk (word 0 0) = false ∧ circuitOk (word 8 1) = false ∧ 15 < (16 : Byte).toNat ∧
    lookOk (word 0 0) = false ∧ lookOk (word 39 16) = false ∧ word 0 0 = 0 ∧ 1024 < word 4 1 ∧ playbackOk (0 : Byte).toNat = false ∧
    playbackOk (9 : Byte).toNat = false ∧ 48 < (49 : Byte).toNat ∧ 4 < (5 : Byte).toNat ∧ rackOk (0 : Byte).toNat = false ∧
    rackOk (17 : Byte).toNat = false := by decide
theorem test_reads_range : ([(.patchReadChannel, .patchReadChannel, [1, 4, 1]), (.patchReadCircuit, .patchReadCircuit, [7, 0, 1]), (.circuitRead, .circuitRead, [8, 1]),
      (.curveRead, .curveRead, [16]), (.lookRead, .lookRead, [1, 0, 5, 4, 1]), (.playbackRead, .playbackRead, [9]), (.fadeRead, .fadeRead, [49]),
      (.channelRead, .channelRead, [1, 0, 0]), (.mixerRead, .mixerRead, [0, 0]), (.outputRead, .outputRead, [0, 0]), (.rackRead, .rackRead, [5, 1]),
      (.transferRead, .transferRead, [1, 17])] : List (Instr × ReqCode × List Byte)).all fun x =>
      answers (run x.1 (asking rich x.2.1 x.2.2)) == [(.range, 0, [])] := by decide

/-! Playbacks and fades. -/

theorem witness_Interpolation_rule : ((99 : Nat) < 100) ∧ ((100 : Nat) ≤ 100 ∧ (0 : Nat) = 0) ∧ ((100 : Nat) ≤ 350 ∧ 0 < 500) ∧
    (100 + 500 ≤ 600) ∧ (rich.entry 1 1).owner = some 1 ∧ (1000 : Nat) ≤ 3000 ∧ (0 : Nat) ≤ 0 := by decide

theorem asking_canonical {s : State} (h : s.Canonical) (c : ReqCode) (ps : List Byte) : (asking s c ps).Canonical :=
  ⟨h.banks, h.looks, h.circuits, h.curves, h.playbacks, h.entries, h.captures, h.rows⟩

theorem asking_fades_ok {s : State} (h : s.FadesOk) (c : ReqCode) (ps : List Byte) : (asking s c ps).FadesOk :=
  ⟨h.slots, h.distinct, h.ranges, h.owners, h.owned, h.between, h.running, h.within, h.held, h.states⟩

theorem witness_Go_starts_a_fade : Asked rich .go [1, 0, 5, 0, 0, 0] fun s => s.Canonical ∧ s.FadesOk ∧
    EntriesOk [⟨1, 1000⟩, ⟨2, 0⟩] ∧ playbackOk 1 = true ∧ lookOk (word 0 5) = true ∧ ((0 : Byte) = 0 ∨ (0 : Byte) = 1) ∧ s.changeover.phase = .idle ∧
    s.look s.liveBank (word 0 5) = some ⟨⟨100, 50, 0, 0, none, .absent⟩, [⟨1, 1000⟩, ⟨2, 0⟩]⟩ ∧ s.fades.length < 48 ∧ s.SlotSecured s ∧
    (s.entry 1 1).level ≤ 1000 ∧ 0 < max 100 50 :=
  asked ⟨asking_canonical rich_canonical _ _, asking_fades_ok rich_fades_ok _ _, by unfold EntriesOk; decide, by decide, by decide, by decide,
    by decide, by decide, by decide, rfl, by decide⟩
theorem witness_Go_with_every_slot_taken : Asked fortyEight .go [2, 0, 5, 0, 0, 0] fun s => s.Canonical ∧ s.FadesOk ∧
    EntriesOk [⟨1, 1000⟩, ⟨2, 0⟩] ∧ playbackOk 2 = true ∧ s.changeover.phase = .idle ∧
    s.look s.liveBank (word 0 5) = some ⟨⟨100, 50, 0, 0, none, .absent⟩, [⟨1, 1000⟩, ⟨2, 0⟩]⟩ ∧ s.fades.length = 48 ∧
    ∃ f rest, s.fades = f :: rest :=
  asked ⟨asking_canonical fortyEight_canonical _ _, asking_fades_ok fortyEight_fades_ok _ _, by unfold EntriesOk; decide, by decide,
    by decide, by decide, by decide, _, _, rfl⟩
/-- With every slot taken the oldest fade is named in the answer, its entry stands at its target, and its number is free for the new one. -/
theorem test_go_every_slot_taken :
    let t := run .go (asking fortyEight .go [2, 0, 5, 0, 0, 0])
    answers t = [(.done, 2, [1, 1, 0, 100, 1, 1, 1])] ∧ t.entry 1 1 = ⟨1000, none, 0, 1000, .up⟩ ∧ (t.playback 1).forced = true ∧
      t.fades.length = 48 := by decide +kernel
theorem witness_Go_follow_at_once : Asked { rich with banks := [(1, ⟨false, [], [(6, some ⟨⟨0, 0, 0, 0, some ⟨5, 0⟩, .absent⟩, [⟨3, 4096⟩]⟩)]⟩)] }
    .go [8, 0, 6, 0, 0, 0] fun s => s.look s.liveBank (word 0 6) = some ⟨⟨0, 0, 0, 0, some ⟨5, 0⟩, .absent⟩, [⟨3, 4096⟩]⟩ ∧ lookOk 5 = true :=
  asked (by decide)
theorem witness_Go_with_no_time : Asked rich .go [8, 0, 6, 1, 0, 0] fun s => s.Canonical ∧ s.FadesOk ∧
    EntriesOk [⟨3, 4096⟩] ∧ playbackOk 8 = true ∧ lookOk (word 0 6) = true ∧ s.changeover.phase = .idle ∧
    s.look s.liveBank (word 0 6) = some ⟨⟨0, 0, 0, 0, some ⟨5, 20⟩, .absent⟩, [⟨3, 4096⟩]⟩ ∧ s.fades.length < 48 ∧
    word 0 0 = 0 ∧ 0 < (⟨5, 20⟩ : Follow).delay :=
  asked ⟨asking_canonical rich_canonical _ _, asking_fades_ok rich_fades_ok _ _, by unfold EntriesOk; decide, by decide⟩

theorem witness_Oldest_fade_is_fast_completed :
    rich.fades = ⟨1, 1, some 5, 100, 50, 0, 0, none, .absent, 30, false, 1, 100⟩ :: [] := rfl

theorem witness_Release_range : Asked rich .release [0, 0, 9] fun _ => playbackOk (0 : Byte).toNat = false := asked (by decide)
theorem witness_Release_every_slot_taken : Asked fortyEight .release [1, 0, 9] fun s => s.Canonical ∧ s.FadesOk ∧ playbackOk 1 = true ∧
    s.qualifying 1 ≠ [] ∧ s.fades.length = 48 ∧ 0 < word 0 9 :=
  asked ⟨asking_canonical fortyEight_canonical _ _, asking_fades_ok fortyEight_fades_ok _ _, by decide, by decide +kernel, by decide, by decide⟩
theorem witness_Release_at_once : Asked rich .release [1, 0, 0] fun s => s.Canonical ∧ s.FadesOk ∧ playbackOk 1 = true ∧
    s.fades.length < 48 ∧ word 0 0 = 0 :=
  asked ⟨asking_canonical rich_canonical _ _, asking_fades_ok rich_fades_ok _ _, by decide⟩
theorem witness_Release_nothing : Asked rich .release [8, 0, 1] fun s => s.Canonical ∧ s.FadesOk ∧ playbackOk 8 = true ∧
    s.fades.length < 48 ∧ s.qualifying 8 = [] :=
  asked ⟨asking_canonical rich_canonical _ _, asking_fades_ok rich_fades_ok _ _, by decide⟩
theorem witness_Release_fade : Asked rich .release [1, 0, 1] fun s => s.Canonical ∧ s.FadesOk ∧ playbackOk 1 = true ∧
    s.fades.length < 48 ∧ 0 < word 0 1 ∧ s.qualifying 1 ≠ [] :=
  asked ⟨asking_canonical rich_canonical _ _, asking_fades_ok rich_fades_ok _ _, by decide⟩

/-- Playback 3 is HELD with a follow that waits. -/
def heldPlayback : State :=
  { State.reset with playbacks := [(3, { Playback.initial with state := .held, pendingFollow := some ⟨5, 9⟩ })] }

theorem heldPlayback_fades_ok : heldPlayback.FadesOk := fades_ok_of_listed (by unfold FadesListed; decide)

theorem witness_Hold_idle : Asked rich .hold [8] fun s => s.FadesOk ∧ playbackOk 8 = true ∧ (s.playback 8).state = .idle :=
  asked ⟨asking_fades_ok rich_fades_ok _ _, by decide⟩
theorem witness_Hold_running : Asked rich .hold [1] fun s => s.FadesOk ∧ playbackOk 1 = true ∧ (s.playback 1).state ≠ .idle :=
  asked ⟨asking_fades_ok rich_fades_ok _ _, by decide⟩
theorem witness_Resume_not_held : Asked rich .resume [1] fun s => s.FadesOk ∧ playbackOk 1 = true ∧ (s.playback 1).state ≠ .held :=
  asked ⟨asking_fades_ok rich_fades_ok _ _, by decide⟩
theorem witness_Resume_held : Asked heldPlayback .resume [3] fun s => s.FadesOk ∧ playbackOk 3 = true ∧ (s.playback 3).state = .held :=
  asked ⟨asking_fades_ok heldPlayback_fades_ok _ _, by decide⟩
theorem witness_Stop_loop : Asked rich .stopLoop [8] fun _ => playbackOk 8 = true := asked (by decide)
theorem witness_Master : Asked rich .master [1, 255, 255] fun _ => playbackOk 1 = true := asked (by decide)
theorem witness_Playback_range : Asked rich .hold [9] fun _ => playbackOk (9 : Byte).toNat = false ∧ playbackOk (0 : Byte).toNat = false :=
  asked (by decide)

theorem witness_Desk_clear_taken : Asked rich .deskClear [] fun s => s.changeover.phase = .idle := asked (by decide)
theorem witness_Desk_clear_held :
    let s : State := { rich with ports := ⟨{ PortState.initial with queue := [⟨3, .deskClear, []⟩], headHeld := true }, PortState.initial⟩ }
    s.changeover.phase = .idle ∧ (s.port .p1).queue = ⟨3, .deskClear, []⟩ :: [] ∧ (s.port .p1).headHeld = true ∧
      (s.port (otherPort .p1)).queue = [] := by decide
theorem witness_Desk_clear_darkening : Asked dark .deskClear [] fun s => s.changeover.phase = .darkening := asked (by decide)

theorem witness_Fade_interval_moves_running_fades : followWaits.FadesOk ∧ followWaits.fadeTimer = .running ∧
    (∀ f ∈ followWaits.fades, f.held = true ∨ f.elapsed + 1 < f.completion) ∧ followWaits.NoneDue fun _ => True :=
  ⟨followWaits_fades_ok, rfl, by decide, none_due_of_listed (by decide)⟩
theorem witness_Fade_interval_fires_a_follow : followDue.FadesOk ∧ followDue.fadeTimer = .running ∧
    (∀ f ∈ followDue.fades, f.held = true ∨ f.elapsed + 1 < f.completion) ∧ followDue.Canonical ∧ playbackOk 2 = true ∧
    (followDue.playback 2).pendingFollow = some ⟨5, 1⟩ ∧ (followDue.playback 2).state ≠ .held ∧ lookOk 5 = true ∧
    followDue.NoneDue fun q => 2 < q :=
  ⟨followDue_fades_ok, rfl, by decide, followDue_canonical, rfl, rfl, by decide, by decide, none_due_of_listed (by decide)⟩
/-- The due follow starts its look, the waiting one counts down and the HELD one is frozen (R77, R81). -/
theorem test_follow_fires :
    let t := run .fadeInterval followDue
    (t.playback 2).lastLook = some 5 ∧ t.fades.length = 2 ∧ (t.playback 3).pendingFollow = some ⟨7, 1⟩ ∧
      (t.playback 4).pendingFollow = some ⟨5, 0⟩ := by decide +kernel

/-- The parts of the turned entries of every fade: whether some moves up, and whether some moves down. -/
def Turned (s : State) (up down : Nat → Bool) : Prop :=
  ∀ f ∈ s.fades,
    (up f.number = true ↔ ∃ ch, (s.entry f.playback ch).owner = some f.number ∧ (s.entry f.playback ch).target ≤ (s.entry f.playback ch).start) ∧
    (down f.number = true ↔ ∃ ch, (s.entry f.playback ch).owner = some f.number ∧ (s.entry f.playback ch).start < (s.entry f.playback ch).target)

theorem listed_channel {s : State} {p n : Nat} {P : Entry → Prop} : (∃ ch, (s.entry p ch).owner = some n ∧ P (s.entry p ch)) ↔
    ∃ ch ∈ s.playbacks.flatMap (fun e => e.2.entries.map Prod.fst), (s.entry p ch).owner = some n ∧ P (s.entry p ch) := by
  refine ⟨fun ⟨ch, h⟩ => ⟨ch, ?_, h⟩, fun ⟨ch, _, h⟩ => ⟨ch, h⟩⟩
  rcases entry_cases s p ch with h' | ⟨e, m, _, m'⟩
  · rw [h'] at h; cases h.1
  · exact List.mem_flatMap.mpr ⟨e, m, List.mem_map.mpr ⟨_, m', rfl⟩⟩

theorem turned_of_listed {s : State} {up down : Nat → Bool} (h : ∀ f ∈ s.fades,
    let listed := s.playbacks.flatMap fun e => e.2.entries.map Prod.fst
    (up f.number = true ↔ ∃ ch ∈ listed, (s.entry f.playback ch).owner = some f.number ∧ (s.entry f.playback ch).target ≤ (s.entry f.playback ch).start) ∧
    (down f.number = true ↔ ∃ ch ∈ listed, (s.entry f.playback ch).owner = some f.number ∧ (s.entry f.playback ch).start < (s.entry f.playback ch).target)) :
    Turned s up down := fun f m => ⟨(h f m).1.trans (listed_channel (P := fun e => e.target ≤ e.start)).symm,
      (h f m).2.trans (listed_channel (P := fun e => e.start < e.target)).symm⟩

/-- A fade completes at the next fade interval event (R78, R79), as `Obligations.Fade_interval_ends_passes` says it. -/
def completesNext (up down : Nat → Bool) (f : Fade) : Bool :=
  (!f.held && f.elapsed + 1 == f.completion) && (!f.loop.looping ||
    max (if up f.number then f.upDelay + f.upTime else 0) (if down f.number then f.downDelay + f.downTime else 0) == 0)

/-- A playback's follow after the event, before any fires (R76, R77), as that statement says it. -/
def waitsNext (s : State) (up down : Nat → Bool) (p : Nat) : Option PendingFollow :=
  match ((s.fades.filter fun f => f.playback == p && completesNext up down f).filterMap Fade.follow).getLast? with
  | some w => some ⟨w.look, w.delay⟩
  | none => s.countedFollow p

/-- A playback's follow fires at the event (R77), as that statement says it. -/
def FiresNext (s : State) (up down : Nat → Bool) (p k : Nat) : Prop :=
  playbackOk p = true ∧ (s.playback p).state ≠ .held ∧ waitsNext s up down p = some ⟨k, 0⟩

theorem fires_only {s : State} {up down : Nat → Bool} {last : Nat}
    (h : ∀ p ∈ List.range' 1 8, last < p → (s.playback p).state = .held ∨ (waitsNext s up down p).all (fun w => w.remaining != 0) = true) :
    ∀ p k, last < p → ¬ FiresNext s up down p k := by
  rintro p k hl ⟨hp, hs, hw⟩
  rcases h p (List.mem_range'_1.mpr (by simp [playbackOk] at hp; omega)) hl with h | h
  · exact hs h
  · rw [hw] at h; simp at h

/-- The hypotheses of an event in which no follow fires. -/
def EndsQuietly (s : State) (up down : Nat → Bool) : Prop :=
  s.FadesOk ∧ s.fadeTimer = .running ∧ Turned s up down ∧ ∀ p k, ¬ FiresNext s up down p k

/-- The hypotheses of an event in which the follow of playback `p` is the last to fire. -/
def EndsFiring (s : State) (up down : Nat → Bool) (p k : Nat) : Prop :=
  s.FadesOk ∧ s.fadeTimer = .running ∧ Turned s up down ∧ s.Canonical ∧ FiresNext s up down p k ∧
    (∀ q j, p < q → ¬ FiresNext s up down q j) ∧ lookOk k = true

theorem ends_quietly {s : State} {up down : Nat → Bool} (hf : FadesListed s) (hr : s.fadeTimer = .running) (ht : Turned s up down)
    (h : ∀ p ∈ List.range' 1 8, 0 < p → (s.playback p).state = .held ∨ (waitsNext s up down p).all (fun w => w.remaining != 0) = true) :
    EndsQuietly s up down := by
  refine ⟨fades_ok_of_listed hf, hr, ht, fun p k hk => ?_⟩
  exact fires_only h p k (by have := hk.1; simp [playbackOk] at this; omega) hk

/-- In `ending` fade 3 comes down, so that turned it goes up, and fade 1 goes up, so that turned it comes down. -/
def endingUp (n : Nat) : Bool := n == 3
def endingDown (n : Nat) : Bool := n == 1

theorem witness_Fade_interval_completes : EndsQuietly (ending 100 50 .absent (some ⟨5, 20⟩)) endingUp endingDown ∧
    (endingFade 100 50 .absent (some ⟨5, 20⟩)).loop.looping = false :=
  ⟨ends_quietly (by unfold FadesListed; decide) rfl (turned_of_listed (by decide)) (by decide), rfl⟩
theorem witness_Fade_interval_bounces : EndsQuietly (ending 100 50 (.passes 255) none) endingUp endingDown ∧ (Loop.passes 255).looping = true ∧
    0 < max 0 (0 + 50) := ⟨ends_quietly (by unfold FadesListed; decide) rfl (turned_of_listed (by decide)) (by decide), by decide⟩
theorem witness_Fade_interval_bounces_to_nothing : EndsQuietly (ending 100 0 .endless (some ⟨5, 1⟩)) endingUp endingDown ∧
    Loop.endless.looping = true ∧ max 0 (0 + 0) = 0 :=
  ⟨ends_quietly (by unfold FadesListed; decide) rfl (turned_of_listed (by decide)) (by decide), by decide⟩
theorem witness_Fade_interval_completes_with_follow : EndsFiring (ending 100 50 .absent (some ⟨6, 0⟩)) endingUp endingDown 1 6 :=
  ⟨fades_ok_of_listed (by unfold FadesListed; decide), rfl, turned_of_listed (by decide),
    ⟨rich_canonical.banks, rich_canonical.looks, rich_canonical.circuits, rich_canonical.curves, by decide, by decide, rich_canonical.captures,
      rich_canonical.rows⟩, ⟨by decide, by decide, by decide⟩, fires_only (by decide), by decide⟩

/-- Three fades complete in one event: fade 2 before fade 1 on playback 1, each with a follow, and fade 3 on playback 2; fade 4 bounces. -/
def endings (w₂ w₁ w₃ : Option Follow) : State :=
  { rich with
    playbacks := [(1, { Playback.initial with state := .running, entries := [(1, ⟨990, some 1, 0, 1000, .up⟩), (2, ⟨10, some 2, 1000, 0, .down⟩)] }),
                  (2, { Playback.initial with state := .running, pendingFollow := some ⟨5, 9⟩, entries := [(1, ⟨500, some 3, 1000, 0, .down⟩)] }),
                  (3, { Playback.initial with state := .running, entries := [(7, ⟨500, some 4, 1000, 0, .down⟩)] })]
    fades := [⟨3, 2, some 5, 10, 10, 0, 0, w₃, .absent, 9, false, 1, 10⟩, ⟨2, 1, some 5, 10, 10, 0, 0, w₂, .absent, 9, false, 1, 10⟩,
              ⟨4, 3, some 5, 30, 10, 0, 0, none, .endless, 9, false, 1, 10⟩, ⟨1, 1, some 5, 10, 10, 0, 0, w₁, .absent, 9, false, 1, 10⟩] }

/-- In `endings` only fade 1 goes up. -/
def endingsUp (n : Nat) : Bool := n != 1

theorem witness_Fade_interval_several_complete : EndsQuietly (endings (some ⟨6, 3⟩) (some ⟨5, 9⟩) none) endingsUp endingDown :=
  ends_quietly (by unfold FadesListed; decide) rfl (turned_of_listed (by decide)) (by decide)
/-- The follow of the fade created last waits; one already pending counts down; the one that bounces keeps its slot, its count recomputed. -/
theorem test_several_complete :
    let t := run .fadeInterval (endings (some ⟨6, 3⟩) (some ⟨5, 9⟩) none)
    ((t.playback 1).pendingFollow, (t.playback 2).pendingFollow) = (some ⟨5, 9⟩, some ⟨5, 8⟩) ∧
      t.fades.map (fun f => (f.number, f.completion)) = [(4, 30)] ∧ t.entry 1 2 = ⟨0, none, 1000, 0, .down⟩ := by decide +kernel
theorem witness_Fade_interval_several_fire : EndsFiring (endings (some ⟨6, 3⟩) (some ⟨5, 0⟩) (some ⟨6, 0⟩)) endingsUp endingDown 2 6 :=
  ⟨fades_ok_of_listed (by unfold FadesListed; decide), rfl, turned_of_listed (by decide),
    ⟨rich_canonical.banks, rich_canonical.looks, rich_canonical.circuits, rich_canonical.curves, by decide, by decide, rich_canonical.captures,
      rich_canonical.rows⟩, ⟨by decide, by decide, by decide⟩, fires_only (by decide), by decide⟩
/-- Both follows fire in the event that schedules them: look 5 on playback 1 with a new fade, look 6, which has no times, on playback 2. -/
theorem test_several_fire :
    let t := run .fadeInterval (endings (some ⟨6, 3⟩) (some ⟨5, 0⟩) (some ⟨6, 0⟩))
    ((t.playback 1).lastLook, (t.playback 2).lastLook) = (some 5, some 6) ∧ t.fades.map Fade.number = [4, 1] ∧
      (t.playback 2).pendingFollow = some ⟨5, 20⟩ := by decide +kernel

/-- A bounce turns the entry round where it stands and counts the down part alone (R78). -/
theorem test_bounce :
    let t := run .fadeInterval (ending 100 50 (.passes 2) none)
    t.entry 1 1 = ⟨1000, some 1, 1000, 0, .down⟩ ∧ (t.fades.map Fade.completion) = [10, 50] ∧ (t.fades.map Fade.elapsed) = [6, 0] := by
  decide +kernel

/-! From channel to slot. -/

theorem witness_Level_chain : rich.LevelsOk ∧ (rich.playback 1).master = 4096 ∧ (rich.playback 1).master ≤ 4096 ∧
    rich.captureOf 12 = none ∧ (rich.records rich.liveBank).filter (fun r => r.circuit == 9) = [] ∧
    (⟨1, 10, 50, none⟩ : PatchRec) ∈ (rich.records rich.liveBank).filter (fun r => r.circuit == 10) :=
  ⟨rich_levels_ok, by decide, by decide, by decide, by decide, by decide⟩
theorem witness_Level_chain_capture : ({ rich with captures := [(1, some 0)] } : State).captureOf 1 = some 0 := by decide

theorem witness_Curve_and_slot_conversion : (curve3.length = 17 ∧ (∀ p ∈ curve3, p ≤ 4096) ∧ nonDecreasing curve3 = true) ∧
    (4096 : Nat) ≤ 4096 ∧ (4095 : Nat) < 4096 ∧ (3840 : Nat) % 256 = 0 ∧ (8 : Nat) ≤ 8 ∧ (rich.circuit 10).mode = .dimmed := by decide
theorem witness_Curve_switched : ((rich.setCircuit 20 { Circuit.initial with mode := .switched }).circuit 20).mode = .switched := by
  decide

theorem witness_Guard_one : (rich.circuit 9).role = .retired ∧ (rich.circuit 6).role = .spareFree ∧ (rich.circuit 3).role = .spareHeld ∧
    ((rich.setCircuit 20 { Circuit.initial with mode := .off }).circuit 20).mode = .off := by decide

/-- A circuit of its own in rack A/1 at the given thermal state. -/
def guarded (c : Circuit) (w : Thermal) : State := (rich.setCircuit 20 c).setRow .a 1 { RackRow.initial with thermal := w }

theorem witness_Guard_two : ((guarded Circuit.initial .hot).circuit 20).guard1 = false ∧
    ((guarded Circuit.initial .hot).row (linkOf 20) (rackOf 20)).thermal = .hot := by decide
theorem witness_Guard_three : let c : Circuit := { Circuit.initial with short := ⟨true, false⟩ }
    (guarded c .warm).circuit 20 = c ∧ c.guard1 = false ∧ c.short.isSet = true ∧ c.shortDetect = true ∧
      ((guarded c .warm).row (linkOf 20) (rackOf 20)).thermal ≠ .hot := by decide
theorem witness_Guard_four : (rich.circuit 4).guard1 = false ∧ (rich.row (linkOf 4) (rackOf 4)).thermal ≠ .hot ∧
    (rich.circuit 4).short.isSet = false ∧ (rich.circuit 4).role = .failed ∧ (rich.circuit 4).pairing = .confirmed 5 ∧
    (rich.circuit 12).pairing = .restoring 13 := by decide
theorem witness_Guard_five : let c : Circuit := { Circuit.initial with park := some 255 }
    (guarded c .warm).circuit 20 = c ∧ c.guard1 = false ∧ c.short.isSet = false ∧ c.guard4 = false ∧ c.park = some 255 ∧
      ((guarded c .warm).row (linkOf 20) (rackOf 20)).thermal = .warm := by decide
theorem witness_Guard_six : (rich.circuit 10).guard1 = false ∧ (rich.circuit 10).guard4 = false ∧ (rich.circuit 10).park = none ∧
    ({ rich with blackout := true } : State).blackout = true := by decide
theorem witness_Guard_seven : (rich.circuit 10).guard1 = false ∧ (rich.circuit 10).short.isSet = false ∧
    (rich.circuit 10).guard4 = false ∧ (rich.circuit 10).park = none ∧ rich.blackout = false := by decide

theorem witness_Mixer_capture : Asked rich .capture [4, 0, 255, 255] fun _ => channelOk (word 4 0) = true := asked (by decide)
theorem witness_Mixer_capture_range : channelOk (word 0 0) = false ∧ channelOk (word 4 1) = false := by decide
theorem test_capture_range : answers (run .capture (asking rich .capture [4, 1, 0, 0])) = [(.range, 0, [])] := by decide
theorem witness_Mixer_uncapture_absent : Asked rich .uncapture [0, 1] fun s => channelOk (word 0 1) = true ∧
    s.captureOf (word 0 1) = none := asked (by decide)
theorem witness_Mixer_uncapture : Asked { rich with captures := [(1, some 0)] } .uncapture [0, 1] fun s =>
    channelOk (word 0 1) = true ∧ s.captureOf (word 0 1) = some 0 := asked (by decide)
theorem witness_Mixer_uncapture_all : Asked rich .uncapture [0, 0] fun _ => True := asked trivial
theorem witness_Mixer_uncapture_range : Asked rich .uncapture [4, 1] fun _ => 1024 < word 4 1 := asked (by decide)
theorem witness_Mixer_grand : Asked rich .grand [16, 1] fun _ => True := asked trivial
theorem witness_Mixer_blackout : Asked rich .blackout [1] fun _ => (1 : Byte) = 1 := asked rfl
theorem witness_Mixer_blackout_range : Asked rich .blackout [2] fun _ => (2 : Byte) ≠ 0 ∧ (2 : Byte) ≠ 1 := asked (by decide)

/-! Changeover. -/

theorem witness_Changeover_dark : Asked rich .changeover [6, 0, 1] fun s => bankOk 6 = true ∧ s.changeover.phase = .idle ∧
    6 ≠ s.liveBank ∧ 0 < word 0 1 := asked (by decide)
theorem witness_Changeover_snap : Asked rich .changeover [2, 0, 0] fun s => bankOk 2 = true ∧ s.changeover.phase = .idle ∧
    2 ≠ s.liveBank ∧ word 0 0 = 0 := asked (by decide)
theorem witness_Changeover_range : Asked rich .changeover [0, 0, 1] fun _ => bankOk 0 = false := asked (by decide)
theorem witness_Changeover_changing : Asked dark .changeover [1, 0, 1] fun s => bankOk 1 = true ∧ s.changeover.phase = .darkening :=
  asked (by decide)
theorem witness_Changeover_conflict : Asked rich .changeover [1, 0, 0] fun s => bankOk 1 = true ∧ s.changeover.phase = .idle ∧
    1 = s.liveBank := asked (by decide)
theorem witness_Go_range : Asked rich .go [9, 0, 5, 0, 0, 0] fun _ => playbackOk 9 = false := asked (by decide)
theorem witness_Go_changing : Asked dark .go [8, 39, 15, 1, 0, 0] fun s => playbackOk 8 = true ∧ lookOk (word 39 15) = true ∧
    (1 : Byte) = 1 ∧ s.changeover.phase = .darkening := asked (by decide)
theorem witness_Go_absent : Asked rich .go [1, 0, 7, 0, 0, 0] fun s => lookOk (word 0 7) = true ∧ s.changeover.phase = .idle ∧
    s.look s.liveBank (word 0 7) = none := asked (by decide)

/-- The same rig with its switch due. -/
def due : State := { rich with changeover := ⟨.darkening, some 2, 100, 100, 0, true⟩ }

theorem witness_Switch_event_makes_target_live : due.changeover.switchDue = true ∧ due.changeover.target = some 2 ∧
    exec .switchEvent due = .next (run .switchEvent due) ∧ (run .switchEvent due).liveBank ≠ due.liveBank :=
  ⟨rfl, rfl, rfl, by decide⟩

/-! Dimmer links. -/

/-- Link A after one frame: rack 1 polled with its order, its window open. -/
def polled : State := run (.pollFrameEnd .a) (run (.frameDue .a) rich)

theorem witness_Frame_due_window : (polled.link .a).frameTimer = .running ∧ (polled.link .a).window = some 1 := by decide +kernel
theorem witness_Frame_due_empty : (rich.link .d).frameTimer = .running ∧ (rich.link .d).window = none ∧
    (rich.link .d).pollOrder = [] := by decide
theorem witness_Frame_due_promoted : (rich.link .a).frameTimer = .running ∧ (rich.link .a).window = none ∧
    (rich.link .a).lastPolled = none ∧ (rich.link .a).pollOrder.find? (fun r => decide ((rich.link .a).lastPolled ≠ some r) &&
      ((rich.row .a r).pendingOrder.isSome || (rich.row .a r).news)) = some 1 := by decide

/-- Link A with rack 1 last polled, its wait count as given, and no order on the link. -/
def waiting (w : Nat) : State :=
  rich.setLink .a { rich.link .a with
    lastPolled := some 1
    pollOrder := [2, 1]
    rows := [(1, { RackRow.initial with present := true, wait := w }), (2, { RackRow.initial with present := true })] }

theorem witness_Frame_due_waits : ((waiting 7).link .a).window = none ∧ ((waiting 7).link .a).lastPolled = some 1 ∧
    1 ∈ ((waiting 7).link .a).pollOrder ∧ 1 ≤ ((waiting 7).row .a 1).wait ∧ ((waiting 7).row .a 1).wait ≤ 7 := by decide
theorem witness_Frame_due_head : ((waiting 0).link .a).window = none ∧ ((waiting 0).link .a).lastPolled = some 1 ∧
    ((waiting 0).row .a 1).wait = 0 ∧ ((waiting 0).link .a).pollOrder.find? (fun r => decide (((waiting 0).link .a).lastPolled ≠ some r) &&
      (((waiting 0).row .a r).pendingOrder.isSome || ((waiting 0).row .a r).news)) = none ∧
    ((waiting 0).link .a).pollOrder.head? = some 2 := by decide

theorem witness_Poll_frame_end : ((run (.frameDue .a) rich).link .a).polling = some 1 := by decide
theorem witness_Silent_malformed : (polled.link .a).window = some 1 ∧ parseReply [3, 1] = none := by decide +kernel
theorem witness_Silent_other_rack : (polled.link .a).window = some 1 ∧
    parseReply [3, 2, 1, 0, 0, 0, 0, 0, 0, 6] = some ⟨2, true, .normal, none, []⟩ ∧ (2 : Nat) ≠ 1 := by decide +kernel
theorem witness_Waits : (polled.link .a).window = some 1 ∧
    parseReply [3, 1, 2, 0, 0, 0, 0, 0, 0, 6] = some ⟨1, false, .normal, none, []⟩ := by decide +kernel
theorem witness_No_window : (rich.link .a).window = none := by decide

theorem witness_Ready_reply_updates_rack :
    let s := rich.setLink .a { rich.link .a with window := some 2 }
    rackOk 2 = true ∧ (s.link .a).window = some 2 ∧ (s.link .a).carried = none ∧ s.rig.autoTransfer = false ∧
      parseReply [3, 2, 1, 2, 0, 0, 0, 1, 32, 3, 0, 44] = some ⟨2, true, .hot, none, [⟨32, .dimmerFail⟩]⟩ := by decide

/-- Auto-transfer on; circuits 1 and 7 of rack A/1 are SUSPECT, and one spare is free. -/
def suspects : State :=
  (({ rich with rig := ⟨true, 0, 204, false⟩ } : State).setCircuit 1 { Circuit.initial with health := .suspect }).setCircuit 7
    { Circuit.initial with health := .suspect }

/-- The window of rack A/1 open on a poll that carried this order. -/
def open1 (s : State) (o : Option Order) : State := s.setLink .a { s.link .a with window := some 1, carried := o }

theorem witness_Ready_reply_auto : ((open1 suspects none).link .a).window = some 1 ∧ ((open1 suspects none).link .a).carried = none ∧
    parseReply [3, 1, 1, 0, 0, 0, 0, 2, 1, 3, 7, 3, 0, 21] = some ⟨1, true, .normal, none, [⟨1, .dimmerFail⟩, ⟨7, .dimmerFail⟩]⟩ ∧
    (open1 suspects none).Canonical := by
  refine ⟨by decide +kernel, by decide +kernel, by decide, ?_⟩
  refine ⟨by decide +kernel, by decide +kernel, by decide +kernel, by decide +kernel, by decide +kernel, by decide +kernel, by decide +kernel, ?_⟩
  intro l; cases l <;> decide +kernel
/-- Two circuits fail in one reply: the first takes the one spare, the second is left with its new mark (R161 to R163). -/
theorem test_two_failures :
    let t := run (.replyArrival .a [3, 1, 1, 0, 0, 0, 0, 2, 1, 3, 7, 3, 0, 21]) (open1 suspects none)
    ((t.circuit 1).pairing, (t.circuit 6).role, (t.circuit 7).role, (t.circuit 7).pairing) = (.ordered 6, .spareHeld, .failed, .unpaired) := by
  decide +kernel

/-! What became of an order: the pending order of rack A/1 by kind and count. -/

/-- Rack A/1 with this pending order. -/
def pending (o : Order) (n : Nat) : State := rich.setRow .a 1 { rich.row .a 1 with pendingOrder := some ⟨o, n⟩ }

theorem witness_Orders_transfer : ((pending ⟨.transfer, 2, 3⟩ 0).row .a 1).pendingOrder = some ⟨⟨.transfer, 2, 3⟩, 0⟩ ∧
    circuitAt .a 1 2 ≠ circuitAt .a 1 3 ∧ ((pending ⟨.transfer, 2, 3⟩ 0).circuit (circuitAt .a 1 2)).pairing = .ordered (circuitAt .a 1 3) := by
  decide
theorem witness_Orders_resend : ((pending ⟨.transfer, 4, 5⟩ 0).row .a 1).pendingOrder = some ⟨⟨.transfer, 4, 5⟩, 0⟩ ∧
    circuitAt .a 1 4 ≠ circuitAt .a 1 5 ∧ ((pending ⟨.transfer, 4, 5⟩ 0).circuit (circuitAt .a 1 4)).pairing = .confirmed (circuitAt .a 1 5) := by
  decide
theorem witness_Orders_undo : ((pending ⟨.undo, 12, 13⟩ 0).row .a 1).pendingOrder = some ⟨⟨.undo, 12, 13⟩, 0⟩ ∧
    circuitAt .a 1 12 ≠ circuitAt .a 1 13 := by decide
theorem witness_Orders_counted : ((pending ⟨.transfer, 2, 3⟩ 1).row .a 1).pendingOrder = some ⟨⟨.transfer, 2, 3⟩, 1⟩ ∧
    (none : Option Order) ≠ some ⟨.transfer, 2, 3⟩ ∧ 1 + 1 < 3 := by decide
theorem witness_Orders_abandoned : ((pending ⟨.transfer, 2, 3⟩ 2).row .a 1).pendingOrder = some ⟨⟨.transfer, 2, 3⟩, 2⟩ ∧
    (some ⟨.undo, 2, 3⟩ : Option Order) ≠ some ⟨.transfer, 2, 3⟩ ∧ 3 ≤ 2 + 1 := by decide
theorem witness_Orders_not_carried : ((open1 rich none).row .a 1).pendingOrder.map PendingOrder.order ≠ ((open1 rich none).link .a).carried := by
  decide
theorem witness_Orders_carried : rackOk 1 = true ∧ ((open1 rich (some ⟨.transfer, 2, 3⟩)).link .a).window = some 1 ∧
    ((open1 rich (some ⟨.transfer, 2, 3⟩)).row .a 1).pendingOrder = some ⟨⟨.transfer, 2, 3⟩, 0⟩ ∧
    ((open1 rich (some ⟨.transfer, 2, 3⟩)).link .a).carried = some ⟨.transfer, 2, 3⟩ ∧
    parseReply [3, 1, 1, 0, 1, 2, 3, 0, 0, 11] = some ⟨1, true, .normal, some ⟨.transfer, 2, 3⟩, []⟩ ∧
    parseReply [3, 1, 1, 0, 0, 0, 0, 0, 0, 5] = some ⟨1, true, .normal, none, []⟩ := by decide +kernel

theorem witness_Rack_set_in : Asked rich .rackSet [1, 16, 1] fun s => linkOfNumber 1 = some .a ∧ rackOk 16 = true ∧
    s.rig.locked = false ∧ (s.row .a 16).present = false := asked (by decide)
theorem witness_Rack_set_out : Asked rich .rackSet [1, 2, 0] fun s => linkOfNumber 1 = some .a ∧ rackOk 2 = true ∧
    s.rig.locked = false ∧ (s.row .a 2).present = true ∧ s.owedOrders .a 2 = [] := asked (by decide +kernel)
theorem witness_Rack_set_range : 4 < (5 : Byte).toNat ∧ rackOk (0 : Byte).toNat = false ∧ rackOk (17 : Byte).toNat = false ∧ 1 < (2 : Byte).toNat := by
  decide
theorem test_rackSet_range : answers (run .rackSet (asking rigLocked .rackSet [4, 16, 2])) = [(.range, 0, [])] := by decide
theorem witness_Rack_set_owing : Asked rich .rackSet [1, 1, 0] fun s => rackOk 1 = true ∧ s.rig.locked = false ∧
    s.owedOrders .a 1 ≠ [] := asked (by decide +kernel)
theorem witness_Rack_set_again : Asked rich .rackSet [1, 1, 1] fun s => rackOk 1 = true ∧ s.rig.locked = false ∧
    (s.row .a 1).present = true := asked (by decide)
theorem witness_Rack_set_out_again : Asked rich .rackSet [4, 16, 0] fun s => linkOfNumber 4 = some .d ∧ rackOk 16 = true ∧
    s.rig.locked = false ∧ (s.row .d 16).present = false ∧ s.owedOrders .d 16 = [] := asked (by decide +kernel)

theorem witness_Reassign_ordinary : Asked rich .reassign [0, 32, 0, 6] fun s => circuitOk (word 0 32) = true ∧ circuitOk (word 0 6) = true ∧
    s.rig.locked = false ∧ (s.circuit (word 0 32)).role = .ordinary ∧ (s.circuit (word 0 6)).role = .spareFree ∧
    linkOf (word 0 32) = linkOf (word 0 6) ∧ rackOf (word 0 32) = rackOf (word 0 6) := asked (by decide)
theorem witness_Reassign_range : circuitOk (word 8 1) = false ∧ circuitOk (word 0 0) = false := by decide
theorem test_reassign_range : answers (run .reassign (asking rich .reassign [0, 8, 8, 1])) = [(.range, 0, [])] ∧
    answers (run .restore (asking rigLocked .restore [0, 0])) = [(.range, 0, [])] := by decide
theorem witness_Reassign_failed : Asked rich .reassign [0, 8, 0, 6] fun s => s.rig.locked = false ∧
    (s.circuit (word 0 8)).role = .failed ∧ (s.circuit (word 0 8)).pairing = .unpaired ∧
    (s.circuit (word 0 6)).role = .spareFree ∧ rackOf (word 0 8) = rackOf (word 0 6) := asked (by decide)
theorem witness_Reassign_conflict : Asked rich .reassign [0, 2, 0, 6] fun s => circuitOk (word 0 2) = true ∧ circuitOk (word 0 6) = true ∧
    s.rig.locked = false ∧ (s.circuit (word 0 2)).pairing ≠ .unpaired := asked (by decide)
theorem witness_Reassign_other_rack : Asked rich .reassign [0, 33, 0, 6] fun s => (s.circuit (word 0 33)).role = .ordinary ∧
    (s.circuit (word 0 6)).role = .spareFree ∧ rackOf (word 0 33) ≠ rackOf (word 0 6) := asked (by decide)
theorem witness_Restore_conflict : Asked rich .restore [0, 8] fun s => circuitOk (word 0 8) = true ∧ s.rig.locked = false ∧
    (s.circuit (word 0 8)).pairing = .unpaired := asked (by decide)
theorem witness_Reassign_placed : Asked rich .reassign [0, 8, 0, 6] fun s =>
    (s.row (linkOf (word 0 8)) (rackOf (word 0 8))).pendingOrder = some ⟨⟨.transfer, 2, 3⟩, 0⟩ ∧ 2 ≠ indexOf (word 0 8) := asked (by decide)
theorem witness_Restore_waits : Asked rich .restore [0, 4] fun s => (s.circuit 5).role ≠ .failed ∧
    (s.row (linkOf (word 0 4)) (rackOf (word 0 4))).pendingOrder = some ⟨⟨.transfer, 2, 3⟩, 0⟩ ∧ 2 ≠ indexOf (word 0 4) := asked (by decide)
theorem test_restore_answer : answers (run .restore (asking rich .restore [0, 4])) = [(.done, 0, [2, 4, 5, 0, 0, 1])] := by decide
theorem witness_Restore : Asked rich .restore [0, 4] fun s => circuitOk (word 0 4) = true ∧ s.rig.locked = false ∧
    (s.circuit (word 0 4)).role = .failed ∧ (s.circuit (word 0 4)).pairing = .confirmed 5 ∧ (5 : Nat) ≠ word 0 4 := asked (by decide)

/-- The same rig with auto-transfer on. -/
def auto (reserve : Nat) : State := { rich with rig := ⟨true, reserve, 204, false⟩ }

theorem auto_canonical (n : Nat) : (auto n).Canonical :=
  ⟨rich_canonical.banks, rich_canonical.looks, rich_canonical.circuits, rich_canonical.curves, rich_canonical.playbacks,
    rich_canonical.entries, rich_canonical.captures, rich_canonical.rows⟩

theorem witness_Automatic_choice : (auto 0).Canonical ∧ (auto 0).rig.autoTransfer = true ∧ ((auto 0).circuit 10).role = .ordinary ∧
    (((List.range' 1 32).map (circuitAt (linkOf 10) (rackOf 10))).find? fun x =>
      ((auto 0).circuit x).role == .spareFree && !((auto 0).circuit x).dimmerFail.isSet) = some 6 ∧
    (auto 0).rig.spareReserve < (auto 0).eligibleSpares := ⟨auto_canonical 0, by decide +kernel⟩
theorem witness_Automatic_choice_reserve : (auto 1).Canonical ∧ (auto 1).rig.autoTransfer = true ∧
    ((auto 1).circuit 10).role = .ordinary ∧ (auto 1).eligibleSpares ≤ (auto 1).rig.spareReserve := ⟨auto_canonical 1, by decide +kernel⟩
theorem witness_Automatic_choice_none : ((auto 0).circuit 40).role = .ordinary ∧
    (((List.range' 1 32).map (circuitAt (linkOf 40) (rackOf 40))).find? fun x =>
      ((auto 0).circuit x).role == .spareFree && !((auto 0).circuit x).dimmerFail.isSet) = none := by decide +kernel

theorem witness_Fault_clear : Asked rich .faultClear [8, 0] fun s => s.Canonical ∧ circuitOk (word 8 0) = true :=
  asked ⟨asking_canonical rich_canonical _ _, by decide⟩
theorem witness_Fault_clear_all : Asked rich .faultClear [0, 0] fun s => s.Canonical := asked (asking_canonical rich_canonical _ _)
theorem witness_Fault_clear_range : 2048 < word 8 1 := by decide
/-- The rig in use with a notice of each kind, a new mark and a flag of playback 2. -/
def noticed : State :=
  let s := (rich.setCircuit 20 { Circuit.initial with short := ⟨true, true⟩ }).setRow .b 3 { RackRow.initial with lostNotice := true, abandonedNotice := true }
  (s.setPlayback 2 { s.playback 2 with forced := true }).setRow .d 16 { RackRow.initial with returnedNotice := true, abandonedNotice := true }
/-- Two racks had a notice, the data gives each kind's count, and the flag and the setting of the circuit stay (R193). -/
theorem test_statusAck_data :
    let t := run .statusAck (asking noticed .statusAck [])
    answers t = [(.done, 2, [1, 0, 1, 0, 1, 0, 2, 0, 1] ++ [0, 0, 0, 1] ++ List.replicate 12 0)] ∧
      (t.circuit 20).short = ⟨true, false⟩ ∧ (t.row .d 16).abandonedNotice = false := by decide +kernel
theorem witness_Status_ack : Asked rich .statusAck [] fun s => s.Canonical := asked (asking_canonical rich_canonical _ _)

theorem witness_Power_on : (false && true) = false ∧ (true && false) = false ∧ (false && false) = false ∧ rackOk 16 = true := by decide

end Sys2Proof.Tests
end

section
/-!
SUPPORT. The request engine once more, in the form the proofs use: the state with other ports, what each request row performs, and
all that a command can do to the state. Every "whatever the command" statement is one application of `exec_cases`.
-/

namespace Sys2Proof.Machine

/-! ### Other ports -/

/-- The same state with other console ports and another port served last. -/
def State.withPorts (s : State) (q : Ports) (l : Option Port) : State := { s with ports := q, servedLast := l }

section
variable (s : State) (q : Ports) (l : Option Port)

@[simp] theorem State.withPorts_liveBank : (s.withPorts q l).liveBank = s.liveBank := rfl
@[simp] theorem State.bank_withPorts (b : Nat) : (s.withPorts q l).bank b = s.bank b := rfl
@[simp] theorem State.records_withPorts (b : Nat) : (s.withPorts q l).records b = s.records b := rfl
@[simp] theorem State.look_withPorts (b n : Nat) : (s.withPorts q l).look b n = s.look b n := rfl
@[simp] theorem State.circuit_withPorts (n : Nat) : (s.withPorts q l).circuit n = s.circuit n := rfl
@[simp] theorem State.poolCount_withPorts : (s.withPorts q l).poolCount = s.poolCount := rfl
@[simp] theorem State.resolve_withPorts (ck : Nat) : (s.withPorts q l).resolve ck = s.resolve ck := rfl
@[simp] theorem State.hasRoom_withPorts (b ch ck : Nat) : (s.withPorts q l).hasRoom b ch ck = s.hasRoom b ch ck := rfl
@[simp] theorem State.editRefusal_withPorts (x : Bool) (b : Nat) :
    (s.withPorts q l).editRefusal x b = s.editRefusal x b := rfl
theorem State.setRecords_withPorts (b : Nat) (rs : List PatchRec) :
    (s.withPorts q l).setRecords b rs = (s.setRecords b rs).withPorts q l := rfl
theorem State.setBank_withPorts (b : Nat) (v : Bank) :
    (s.withPorts q l).setBank b v = (s.setBank b v).withPorts q l := rfl

theorem State.withPorts_same : s.SameButPorts (s.withPorts q l) := rfl

end

theorem State.SameButPorts.refl (s : State) : s.SameButPorts s := rfl

theorem State.SameButPorts.trans {s t u : State} (h : s.SameButPorts t) (h' : t.SameButPorts u) : s.SameButPorts u := by
  unfold State.SameButPorts at *
  rw [h'] ; rw [h]

theorem State.SameButPorts.eq {s t : State} (h : s.SameButPorts t) : t = s.withPorts t.ports t.servedLast := h

theorem State.setPort_same (s : State) (p : Port) (v : PortState) : s.SameButPorts (s.setPort p v) := by cases p <;> rfl

theorem State.closeEarly_same (s : State) (p : Port) : s.SameButPorts (s.closeEarly p) := by
  rw [State.closeEarly_eq]; exact s.setPort_same ..

theorem State.taken_same (s : State) (p : Port) : s.SameButPorts (s.taken p) := by
  rw [State.taken_eq]; exact (s.setPort_same ..).trans rfl

theorem State.answer_same (s : State) (p : Port) (r : Request) (y : Reply) : s.SameButPorts (s.answer p r y) :=
  s.setPort_same ..

/-- The taking of a request from a port leaves the other port. -/
theorem State.taken_other (s : State) (p : Port) : (s.taken p).port (otherPort p) = s.port (otherPort p) := by
  rw [State.taken_eq]; cases p <;> rfl

theorem State.setPort_other (s : State) (p : Port) (v : PortState) :
    (s.setPort p v).port (otherPort p) = s.port (otherPort p) := by cases p <;> rfl

/-! ### What a request row performs -/

/-- A request is performed without regard to the console ports: they are as they were, and neither the rest nor the reply depends
on them. -/
def IgnoresPorts (perform : List Byte → State → State × Reply) : Prop :=
  ∀ ps s q l, perform ps (s.withPorts q l) = ((perform ps s).1.withPorts q l, (perform ps s).2)

/-- A request row completes with the reply its performing gives, with the effect its performing has on all but the ports. -/
theorem State.serves_of_perform {s u : State} {c : Instr} {code : ReqCode} {perform : List Byte → State → State × Reply}
    {ps : List Byte} {y : Reply} {after : State → Prop} (hexec : exec c s = .next (s.serve code perform))
    (hignores : IgnoresPorts perform) (h : perform ps s = (u, y)) (hpending : u.pending = s.pending)
    (hafter : ∀ t, u.SameButPorts t → after t) : s.Serves c code ps y after := by
  refine State.serves_of hexec fun p sq => ?_
  rw [(s.taken_same p).eq, hignores, h]
  exact ⟨rfl, rfl, rfl, hpending, hafter _ ((u.withPorts_same ..).trans (State.answer_same ..))⟩

/-- A request row that leaves all but the ports as it was completes so. -/
theorem State.serves_unchanged {s : State} {c : Instr} {code : ReqCode} {perform : List Byte → State → State × Reply}
    {ps : List Byte} {y : Reply} (hexec : exec c s = .next (s.serve code perform)) (hignores : IgnoresPorts perform)
    (h : perform ps s = (s, y)) : s.Serves c code ps y s.SameButPorts :=
  State.serves_of_perform hexec hignores h rfl fun _ ht => ht

/-- What the engine performs for a request of a code. An announcing request performs nothing: it opens a transfer. -/
def ReqCode.perform : ReqCode → List Byte → State → State × Reply
  | .patchSet => Machine.patchSet
  | .patchSetIf => Machine.patchSetIf
  | .patchClear => Machine.patchClear
  | .patchClearIf => Machine.patchClearIf
  | .patchClearChannel => Machine.patchClearChannel
  | .patchSwap => Machine.patchSwap
  | .patchRange => Machine.patchRange
  | .patchLoad => fun _ s => (s, .refuse .malformed)
  | .patchReadChannel => Machine.patchReadChannel
  | .patchReadCircuit => Machine.patchReadCircuit
  | .bankCopy => Machine.bankCopy
  | .bankErase => Machine.bankErase
  | .bankLock => setBankLock true
  | .bankUnlock => setBankLock false
  | .circuitSet => Machine.circuitSet
  | .circuitRead => Machine.circuitRead
  | .rigSet => Machine.rigSet
  | .rigRead => Machine.rigRead
  | .rigLock => setRigLock true
  | .rigUnlock => setRigLock false
  | .curveLoad => Machine.curveLoad
  | .curveRead => Machine.curveRead
  | .lookWrite => fun _ s => (s, .refuse .malformed)
  | .lookRead => Machine.lookRead
  | .lookDelete => Machine.lookDelete
  | .go => Machine.go
  | .release => Machine.release
  | .hold => Machine.hold
  | .resume => Machine.resume
  | .stopLoop => Machine.stopLoop
  | .master => Machine.master
  | .deskClear => Machine.deskClear
  | .playbackRead => Machine.playbackRead
  | .fadeRead => Machine.fadeRead
  | .channelRead => Machine.channelRead
  | .capture => Machine.capture
  | .uncapture => Machine.uncapture
  | .grand => Machine.grand
  | .blackout => Machine.blackout
  | .mixerRead => Machine.mixerRead
  | .outputRead => Machine.outputRead
  | .changeover => Machine.changeover
  | .rackSet => Machine.rackSet
  | .rackRead => Machine.rackRead
  | .faultClear => Machine.faultClear
  | .reassign => Machine.reassign
  | .restore => Machine.restore
  | .transferRead => Machine.transferRead
  | .status => Machine.status
  | .statusAck => Machine.statusAck

/-- Every request row but the announcing ones and DESK-CLEAR is the service of its code. -/
theorem exec_serve {c : Instr} {code : ReqCode} (h : c.requestCode = some code) (ha : code.announcing = false)
    (hd : code ≠ .deskClear) (s : State) : exec c s = .next (s.serve code code.perform) := by
  cases c <;> cases h
  case patchLoad.refl | lookWrite.refl => cases ha
  case deskClear.refl => exact absurd rfl hd
  all_goals rfl

/-- What an announcing request asks of its parameters. -/
def ReqCode.opening : ReqCode → Request → State → Except ReqOutcome Transfer
  | .patchLoad => patchLoadOpening
  | .lookWrite => lookWriteOpening
  | _ => fun _ _ => .error .malformed

theorem exec_serveOpening {c : Instr} {code : ReqCode} (h : c.requestCode = some code) (ha : code.announcing = true)
    (s : State) : exec c s = .next (s.serveOpening code code.opening) := by
  cases c <;> cases h <;> cases ha <;> rfl

/-- The taking of a request of a code that is performed at once: it is performed and answered, or the engine takes none. -/
theorem serve_perform_cases {s t : State} {code : ReqCode} (h : s.serve code code.perform = t) :
    t = s ∨ ∃ p r, s.nextRequest = some (p, r) ∧ r.code = code ∧
      t = (code.perform r.params (s.taken p)).1.answer p r (code.perform r.params (s.taken p)).2 := by
  rcases s.serve_cases code code.perform with ⟨p, r, hn, hc, e⟩ | ⟨-, e⟩
  · exact .inr ⟨p, r, hn, hc, h ▸ e⟩
  · exact .inl (h ▸ e)

/-- A DESK-CLEAR is served, or held at the head of its queue. -/
theorem execDeskClear_cases (s : State) :
    execDeskClear s = .next (s.serve .deskClear deskClear) ∨
    ∃ p r, s.nextRequest = some (p, r) ∧ r.code = .deskClear ∧ execDeskClear s =
      .next (((s.closeEarly p).setPort p { (s.closeEarly p).port p with headHeld := true }).serving p) := by
  unfold execDeskClear
  cases hn : s.nextRequest with
  | none => exact .inl (by simp [State.serve, hn])
  | some pr =>
    obtain ⟨p, r⟩ := pr
    by_cases hc : r.code = .deskClear ∧ r.params = [] ∧ s.darkening = true
    · exact .inr ⟨p, r, rfl, hc.1, by simp [hc]⟩
    · exact .inl (by simp only [hc, if_false])

/-- All that a request row can do: where the engine takes no request of its code nothing changes; else the request is performed and
answered, or it opens a transfer, or its opening is refused, or it is a DESK-CLEAR held in DARKENING. -/
theorem exec_request_cases {c : Instr} {code : ReqCode} {s t : State} (h : c.requestCode = some code)
    (hx : exec c s = .next t) :
    t = s ∨ ∃ p r, s.nextRequest = some (p, r) ∧ r.code = code ∧
      (t = (code.perform r.params (s.taken p)).1.answer p r (code.perform r.params (s.taken p)).2 ∨
       (∃ tr, t = (s.taken p).setPort p { (s.taken p).port p with transfer := some tr, inactivityTimer := .running }) ∨
       (∃ o, t = ((s.taken p).setPort p { (s.taken p).port p with dataHold := [] }).answer p r (.refuse o)) ∨
       t = (((s.closeEarly p).setPort p { (s.closeEarly p).port p with headHeld := true }).serving p)) := by
  by_cases ha : code.announcing = true
  · rw [exec_serveOpening h ha] at hx
    obtain rfl := Host.Outcome.next.inj hx
    cases hn : s.nextRequest with
    | none => exact .inl (by simp [State.serveOpening, hn])
    | some pr =>
      obtain ⟨p, r⟩ := pr
      by_cases hc : r.code = code
      · refine .inr ⟨p, r, rfl, hc, .inr ?_⟩
        rw [State.serveOpening_next s _ hn hc]
        cases code.opening r (s.taken p) with
        | ok tr => exact .inl ⟨tr, rfl⟩
        | error o => exact .inr (.inl ⟨o, rfl⟩)
      · exact .inl (by simp [State.serveOpening, hn, hc])
  · have hserve : exec c s = .next (s.serve code code.perform) ∨ ∃ p r, s.nextRequest = some (p, r) ∧ r.code = code ∧
        exec c s = .next (((s.closeEarly p).setPort p { (s.closeEarly p).port p with headHeld := true }).serving p) := by
      by_cases hd : code = .deskClear
      · subst hd
        obtain rfl : c = .deskClear := by cases c <;> cases h; rfl
        exact execDeskClear_cases s
      · exact .inl (exec_serve h (Bool.not_eq_true _ ▸ ha) hd s)
    rcases hserve with e | ⟨p, r, hn, hc, e⟩
    · rcases serve_perform_cases (Host.Outcome.next.inj (e.symm.trans hx)) with rfl | ⟨p, r, hn, hc, e⟩
      · exact .inl rfl
      · exact .inr ⟨p, r, hn, hc, .inl e⟩
    · exact .inr ⟨p, r, hn, hc, .inr (.inr (.inr (Host.Outcome.next.inj (hx.symm.trans e))))⟩

/-! ### All that a command can do -/

/-- Nothing but the ports, the port served last and the reset line differs. -/
def State.SameButLines (s t : State) : Prop :=
  t = { s with ports := t.ports, servedLast := t.servedLast, resetLine := t.resetLine }

theorem State.SameButPorts.lines {s t : State} (h : s.SameButPorts t) : s.SameButLines t := by
  unfold State.SameButLines; rw [h]

theorem State.SameButLines.banks {s t : State} (h : s.SameButLines t) : t.banks = s.banks := by rw [h]
theorem State.SameButLines.circuits {s t : State} (h : s.SameButLines t) : t.circuits = s.circuits := by rw [h]
theorem State.SameButLines.links {s t : State} (h : s.SameButLines t) : t.links = s.links := by rw [h]

theorem State.SameButPorts.circuits {s t : State} (h : s.SameButPorts t) : t.circuits = s.circuits := by rw [h]
theorem State.SameButPorts.banks {s t : State} (h : s.SameButPorts t) : t.banks = s.banks := by rw [h]

/-- A part of the state that no port and no line reaches: what holds of a state holds of it with other ports and lines. -/
def PortFree (Q : State → Prop) : Prop := ∀ u v, State.SameButLines u v → Q u → Q v

/-- An arrival whose event changes its port alone changes no more. -/
theorem State.onFrame_same (s : State) (p : Port) (xs : List LineSymbol) (take : FrameClass → State → Option State)
    (h : ∀ f u v, take f u = some v → u.SameButPorts v) : s.SameButPorts (s.onFrame p xs take) := by
  rcases s.onFrame_cases p xs take with ⟨-, e⟩ | ⟨-, -, e⟩ | ⟨f, t, -, -, ht, e⟩ | e <;> rw [e]
  · exact .refl s
  · exact s.setPort_same ..
  · exact (s.setPort_same ..).trans (h _ _ _ ht)
  · exact .refl s

theorem takeRequest_same {p : Port} {f : FrameClass} {u v : State} (h : takeRequest p f u = some v) :
    u.SameButPorts v := by
  cases f <;> try cases h
  unfold takeRequest at h
  dsimp only at h
  split at h <;> cases h
  · exact (State.closeEarly_same ..).trans (State.setPort_same ..)
  · exact (State.closeEarly_same ..).trans (State.answer_same ..)

theorem takeMalformed_same {p : Port} {f : FrameClass} {u v : State} (h : takeMalformed p f u = some v) :
    u.SameButPorts v := by
  cases f <;> cases h
  split
  · exact State.setPort_same ..
  · exact (State.closeEarly_same ..).trans (State.setPort_same ..)

/-- The state after a frame-due event on a link: an open window closes silent, the level frame goes out, and a rack is polled (R139). -/
def State.framed (s : State) (l : LinkId) : State :=
  (s.windowSilent l).setLink l
    ({ (s.windowSilent l).link l with levelOut := levelFrame ((s.windowSilent l).linkSlots l) } : Link).poll

theorem execFrameDue_eq (l : LinkId) (s : State) :
    execFrameDue l s = if (s.link l).frameTimer = .running then .next (s.framed l) else .next s := rfl

/-- All that a command can do, but for the ports and the lines: nothing, a performed request, a desk clear, data delivered, a
power-on, a switch event, a fade interval, or an event of a link. -/
theorem exec_cases {Q : State → Prop} {c : Instr} {s t : State} (hx : exec c s = .next t) (free : PortFree Q) (same : Q s)
    (request : ∀ code p r u, c.requestCode = some code → s.nextRequest = some (p, r) → r.code = code → s.SameButPorts u →
      Q (code.perform r.params u).1)
    (heldClear : ∀ ps u, s.SameButPorts u → Q (deskClear ps u).1)
    (dataFrame : ∀ p xs, Q (s.onFrame p xs (takeData p)))
    (heldData : ∀ p, Q (s.deliverHeld p))
    (power : ∀ x y, c = .powerOn x y → Q t)
    (switch : c = .switchEvent → s.changeover.switchDue = true → Q s.switchOver)
    (fade : Q (s.fadeTick.setChangeover s.fadeTick.changeover.tick))
    (frameDue : ∀ l, Q (s.framed l))
    (pollEnd : ∀ l r, Q (s.setLink l { s.link l with window := some r, polling := none }))
    (expiry : ∀ l, Q (s.windowSilent l))
    (reply : ∀ l bytes, c = .replyArrival l bytes → Q t) : Q t := by
  have ports {u v : State} (h : u.SameButPorts v) : Q u → Q v := free u v h.lines
  cases hc : c.requestCode with
  | some code =>
    rcases exec_request_cases hc hx with rfl | ⟨p, r, hn, hcode, rfl | ⟨tr, rfl⟩ | ⟨o, rfl⟩ | rfl⟩
    · exact same
    · exact ports (State.answer_same ..) (request code p r _ hc hn hcode (s.taken_same p))
    · exact ports ((s.taken_same p).trans (State.setPort_same ..)) same
    · exact ports (((s.taken_same p).trans (State.setPort_same ..)).trans (State.answer_same ..)) same
    · exact ports (((s.closeEarly_same p).trans (State.setPort_same ..)).trans rfl) same
  | none =>
    cases c <;> cases hc
    case powerOn.refl x y => exact power x y rfl
    case consoleReset.refl => cases hx; exact free s _ rfl same
    case consoleResetRelease.refl => cases hx; exact free s _ rfl same
    case requestFrameArrival.refl p xs => cases hx; exact ports (s.onFrame_same p xs _ fun _ _ _ => takeRequest_same) same
    case malformedFrameArrival.refl p xs => cases hx; exact ports (s.onFrame_same p xs _ fun _ _ _ => takeMalformed_same) same
    case dataFrameArrival.refl p xs => cases hx; exact dataFrame p xs
    case dataHoldDelivery.refl p => cases hx; exact heldData p
    case inactivityTimeout.refl p =>
      simp only [exec, execInactivityTimeout] at hx
      split at hx <;> cases hx
      · exact ports (s.closeEarly_same p) same
      · exact same
    case heldDeskClearPerformed.refl =>
      simp only [exec, execHeldDeskClearPerformed] at hx
      split at hx
      · cases hx; exact same
      · split at hx
        · cases hx; exact same
        · cases hx
          exact ports (State.answer_same ..) (heldClear _ _ (s.setPort_same ..))
    case switchEvent.refl =>
      simp only [exec, execSwitchEvent] at hx
      split at hx <;> cases hx
      · exact switch rfl ‹_›
      · exact same
    case fadeInterval.refl =>
      simp only [exec, execFadeInterval] at hx
      split at hx
      · exact Host.Outcome.next.inj hx ▸ fade
      · exact Host.Outcome.next.inj hx ▸ same
    case frameDue.refl l =>
      simp only [exec, execFrameDue_eq] at hx
      split at hx
      · exact Host.Outcome.next.inj hx ▸ frameDue l
      · exact Host.Outcome.next.inj hx ▸ same
    case pollFrameEnd.refl l =>
      simp only [exec, execPollFrameEnd] at hx
      split at hx <;> cases hx
      · exact same
      · exact pollEnd l _
    case windowExpiry.refl l => cases hx; exact expiry l
    case replyArrival.refl l bytes => exact reply l bytes rfl
    case answerWhollySent.refl p =>
      simp only [exec, execAnswerWhollySent] at hx
      split at hx <;> cases hx
      · exact same
      · exact ports (s.setPort_same ..) same

/-- A step takes a command off the queue and runs it; with none it idles. -/
theorem step_cases {s t : State} (h : step s = .next t) :
    t = s ∨ ∃ c rest, s.pending = c :: rest ∧ exec c { s with pending := rest } = .next t := by
  unfold step at h
  split at h
  · exact .inl (Host.Outcome.next.inj h).symm
  · exact .inr ⟨_, _, ‹_›, h⟩

/-- What no port reaches is kept by a write of a port. -/
theorem PortFree.setPort {Q : State → Prop} (free : PortFree Q) (u : State) (p : Port) (v : PortState)
    (_ : v.transfer = (u.port p).transfer) : Q u → Q (u.setPort p v) := free u _ (u.setPort_same p v).lines

section
variable {Q : State → Prop} (keeps : ∀ u p v, v.transfer = (State.port u p).transfer → Q u → Q (u.setPort p v))
  (deliver : ∀ u p t data, (State.port u p).transfer = some t → Q u → Q (u.deliver p t data))
include keeps deliver

/-- A held frame's delivery keeps what a delivery to the open transfer and a write of the other items of a port keep. -/
theorem deliverHeld_keeps {s : State} (hs : Q s) (p : Port) : Q (s.deliverHeld p) := by
  unfold State.deliverHeld
  split
  · exact hs
  · split
    · refine deliver _ _ _ _ ?_ (keeps _ _ _ rfl hs)
      rw [State.port_setPort, if_pos rfl]
      assumption
    · split
      · exact hs
      · exact keeps _ _ _ rfl (keeps _ _ _ rfl hs)

/-- The held frames, one by one, and then the frame that arrived. -/
theorem onFrame_takeData {s : State} (hs : Q s) (p : Port) (xs : List LineSymbol) : Q (s.onFrame p xs (takeData p)) := by
  have all : ∀ n u, Q u → Q (u.deliverAllHeld p n) := by
    intro n
    induction n with
    | zero => exact fun u hu => hu
    | succ n ih =>
      intro u hu
      unfold State.deliverAllHeld
      split
      · exact ih _ (deliverHeld_keeps keeps deliver hu p)
      · exact hu
  rcases s.onFrame_cases p xs (takeData p) with ⟨-, e⟩ | ⟨-, -, e⟩ | ⟨f, t, -, -, ht, e⟩ | e <;> rw [e]
  · exact hs
  · exact keeps _ _ _ rfl hs
  · unfold takeData at ht
    split at ht <;> try cases ht
    have h1 := all ((s.buffering p (receive (s.port p).receiveBuffer xs).1).port p).dataHold.length _
      (keeps s p { s.port p with receiveBuffer := (receive (s.port p).receiveBuffer xs).1 } rfl hs)
    dsimp only at ht
    split at ht
    · cases ht; exact deliver _ _ _ _ ‹_› h1
    · split at ht <;> cases ht
      · exact keeps _ _ _ rfl h1
      · exact keeps _ _ _ rfl h1
  · exact hs

end

end Sys2Proof.Machine
end

section
/-!
SUPPORT. The canonical form of every collection: each write of the state keeps it, hence each operation, hence each step.
-/

namespace Sys2Proof

/-! ### Tables -/

theorem Tbl.Canonical.get_of_all {α β : Type} [DecidableEq β] {d : α} {d' : β} {f : α → Tbl β} {t : Tbl α}
    (h : ∀ e ∈ t, Tbl.Canonical d' (f e.2)) (hd : Tbl.Canonical d' (f d)) (k : Nat) : Tbl.Canonical d' (f (t.get d k)) := by
  rcases Tbl.get_cases d t k with e | e
  · rw [e]; exact hd
  · exact h _ e

/-- What is listed after a write was written or was listed before. -/
theorem Tbl.mem_set {α : Type} [DecidableEq α] {d : α} {t : Tbl α} {k : Nat} {v : α} {e : Nat × α} (h : e ∈ t.set d k v) :
    e = (k, v) ∨ e ∈ t := by
  unfold Tbl.set at h
  split at h
  · exact .inr (List.mem_filter.mp h).1
  · exact (Tbl.mem_insert h).imp_right fun h => (List.mem_filter.mp h).1

theorem Tbl.mem_canon {α : Type} [DecidableEq α] {d : α} {t : Tbl α} {e : Nat × α} (h : e ∈ t.canon d) : e ∈ t := by
  induction t with
  | nil => exact h
  | cons x t ih =>
    rcases Tbl.mem_set h with rfl | h
    · exact List.mem_cons_self
    · exact List.mem_cons_of_mem _ (ih h)

/-- What is listed after a change of every value is the change of what was listed. -/
theorem Tbl.mem_mapVals {α : Type} [DecidableEq α] {d : α} {f : Nat → α → α} {t : Tbl α} {e : Nat × α}
    (h : e ∈ t.mapVals d f) : ∃ x ∈ t, e = (x.1, f x.1 x.2) := by
  obtain ⟨x, hx, rfl⟩ := List.mem_map.mp (Tbl.mem_canon h)
  exact ⟨x, hx, rfl⟩

end Sys2Proof

namespace Sys2Proof.Machine

/-! ### Power-on and reply arrival, by their outcomes -/

/-- All that a power-on can do. -/
theorem exec_powerOn_cases {s t : State} {x y : Bool} (hx : exec (.powerOn x y) s = .next t) :
    ((x && y) = false ∧ t = s.powerOnLost) ∨
    ((x && y) = true ∧ t = (((s.powerOnRetained.placeAll .a).placeAll .b).placeAll .c).placeAll .d) := by
  simp only [exec, execPowerOn, retentionOf] at hx
  cases hxy : x && y <;> rw [hxy] at hx
  · exact .inl ⟨rfl, (Host.Outcome.next.inj hx).symm⟩
  · exact .inr ⟨rfl, (Host.Outcome.next.inj hx).symm⟩

/-- All that a reply arrival can do: nothing, a silent poll, or from the rack the window is open for a READY or a WAIT. -/
theorem exec_replyArrival_cases {s t : State} {l : LinkId} {bytes : List Byte}
    (hx : exec (.replyArrival l bytes) s = .next t) :
    t = s ∨ t = s.windowSilent l ∨ ∃ r, (s.link l).window = some r ∧
      ((∃ y, t = (s.closeWindow l).takeReady l r (s.link l).carried y) ∨
        t = (s.closeWindow l).setRow l r (s.row l r).waitReply) := by
  simp only [exec, execReplyArrival] at hx
  split at hx
  · exact .inl (Host.Outcome.next.inj hx).symm
  · rename_i r hr
    split at hx
    · exact .inr (.inl (Host.Outcome.next.inj hx).symm)
    · split at hx
      · exact .inr (.inl (Host.Outcome.next.inj hx).symm)
      · split at hx
        · exact .inr (.inr ⟨r, hr, .inl ⟨_, (Host.Outcome.next.inj hx).symm⟩⟩)
        · exact .inr (.inr ⟨r, hr, .inr (Host.Outcome.next.inj hx).symm⟩)

/-! ### Writes -/

namespace State.Canonical

variable {s t : State}

/-- The canonical form is of the collections alone. -/
theorem congr (h : s.Canonical) (hb : t.banks = s.banks) (hc : t.circuits = s.circuits) (hk : t.curves = s.curves)
    (hp : t.playbacks = s.playbacks) (hq : t.captures = s.captures) (hl : t.links = s.links) : t.Canonical := by
  have hlink (l : LinkId) : t.link l = s.link l := by cases l <;> simp only [State.link, hl]
  exact ⟨hb ▸ h.banks, hb ▸ h.looks, hc ▸ h.circuits, hk ▸ h.curves, hp ▸ h.playbacks, hp ▸ h.entries, hq ▸ h.captures,
    fun l => hlink l ▸ h.rows l⟩

theorem portFree : PortFree State.Canonical := fun u v huv hu =>
  hu.congr huv.banks huv.circuits (by rw [huv]) (by rw [huv]) (by rw [huv]) huv.links

/-- Any one bank's looks stand in canonical form. -/
theorem bank_looks (h : s.Canonical) (b : Nat) : Tbl.Canonical none (s.bank b).looks :=
  Tbl.Canonical.get_of_all (d := Bank.initial) (f := Bank.looks) h.looks (Tbl.Canonical.nil none) b

/-- Any one playback's entries stand in canonical form. -/
theorem playback_entries (h : s.Canonical) (p : Nat) : Tbl.Canonical Entry.initial (s.playback p).entries :=
  Tbl.Canonical.get_of_all (d := Playback.initial) (f := Playback.entries) h.entries (Tbl.Canonical.nil _) p

theorem setBank (h : s.Canonical) (b : Nat) {v : Bank} (hv : Tbl.Canonical none v.looks) : (s.setBank b v).Canonical :=
  { h with
    banks := h.banks.set b v
    looks := fun e he => by
      rcases Tbl.mem_set he with rfl | he
      · exact hv
      · exact h.looks e he }

theorem setRecords (h : s.Canonical) (b : Nat) (rs : List PatchRec) : (s.setRecords b rs).Canonical :=
  h.setBank b (v := { s.bank b with records := rs }) (h.bank_looks b)

theorem setLook (h : s.Canonical) (b n : Nat) (v : Option Look) : (s.setLook b n v).Canonical :=
  h.setBank b (v := { s.bank b with looks := (s.bank b).looks.set none n v }) ((h.bank_looks b).set n v)

theorem rewriteRecords (h : s.Canonical) (f : PatchRec → PatchRec) : (s.rewriteRecords f).Canonical :=
  { h with
    banks := Tbl.canonical_mapVals Bank.initial (fun _ b => { b with records := sortRecs (b.records.map f) }) s.banks
    looks := fun e (he : e ∈ s.banks.mapVals Bank.initial fun _ b => { b with records := sortRecs (b.records.map f) }) => by
      obtain ⟨x, hx, rfl⟩ := Tbl.mem_mapVals he
      exact h.looks x hx }

theorem setCircuit (h : s.Canonical) (n : Nat) (v : Circuit) : (s.setCircuit n v).Canonical :=
  { h with circuits := h.circuits.set n v }

theorem mapCircuits (h : s.Canonical) (f : Circuit → Circuit) : (s.mapCircuits f).Canonical :=
  { h with circuits := Tbl.canonical_mapVals Circuit.initial (fun _ => f) s.circuits }

theorem setCurve (h : s.Canonical) (n : Nat) (v : List Nat) : (s.setCurve n v).Canonical :=
  { h with curves := h.curves.set n v }

theorem setRig (h : s.Canonical) (v : Rig) : (s.setRig v).Canonical := { h with }
theorem setFades (h : s.Canonical) (v : List Fade) : (s.setFades v).Canonical := { h with }
theorem updateFade (h : s.Canonical) (f : Fade) : (s.updateFade f).Canonical := { h with }
theorem setChangeover (h : s.Canonical) (v : Changeover) : (s.setChangeover v).Canonical := { h with }

theorem setPlayback (h : s.Canonical) (p : Nat) {v : Playback} (hv : Tbl.Canonical Entry.initial v.entries) :
    (s.setPlayback p v).Canonical :=
  { h with
    playbacks := h.playbacks.set p v
    entries := fun e he => by
      rcases Tbl.mem_set he with rfl | he
      · exact hv
      · exact h.entries e he }

/-- Writing a playback's own fields, its entries as they are. -/
theorem setPlayback_fields (h : s.Canonical) (p : Nat) {v : Playback} (hv : v.entries = (s.playback p).entries) :
    (s.setPlayback p v).Canonical := h.setPlayback p (hv ▸ h.playback_entries p)

theorem setEntry (h : s.Canonical) (p ch : Nat) (v : Entry) : (s.setEntry p ch v).Canonical :=
  h.setPlayback p (v := { s.playback p with entries := (s.playback p).entries.set Entry.initial ch v })
    ((h.playback_entries p).set ch v)

theorem mapEntries (h : s.Canonical) (p : Nat) (f : Entry → Entry) : (s.mapEntries p f).Canonical :=
  h.setPlayback p (v := { s.playback p with entries := (s.playback p).entries.mapVals Entry.initial fun _ => f })
    (Tbl.canonical_mapVals Entry.initial (fun _ => f) _)

theorem mapPlaybacks (h : s.Canonical) {f : Playback → Playback}
    (hf : ∀ p, Tbl.Canonical Entry.initial p.entries → Tbl.Canonical Entry.initial (f p).entries) :
    (s.mapPlaybacks f).Canonical :=
  { h with
    playbacks := Tbl.canonical_mapVals Playback.initial (fun _ => f) s.playbacks
    entries := fun e (he : e ∈ s.playbacks.mapVals Playback.initial fun _ => f) => by
      obtain ⟨x, hx, rfl⟩ := Tbl.mem_mapVals he
      exact hf _ (h.entries x hx) }

theorem setCaptures (h : s.Canonical) {v : Tbl (Option Nat)} (hv : Tbl.Canonical none v) : (s.setCaptures v).Canonical :=
  { h with captures := hv }

theorem setLink (h : s.Canonical) (l : LinkId) {v : Link} (hv : Tbl.Canonical RackRow.initial v.rows) :
    (s.setLink l v).Canonical := by
  refine ⟨?_, ?_, ?_, ?_, ?_, ?_, ?_, fun m => ?_⟩
  · simpa using h.banks
  · simpa using h.looks
  · simpa using h.circuits
  · simpa using h.curves
  · simpa using h.playbacks
  · simpa using h.entries
  · simpa using h.captures
  · rw [State.link_setLink]
    split
    · exact hv
    · exact h.rows m

/-- Writing a link's own fields, its rack rows as they are. -/
theorem setLink_fields (h : s.Canonical) (l : LinkId) {v : Link} (hv : v.rows = (s.link l).rows) :
    (s.setLink l v).Canonical := h.setLink l (hv ▸ h.rows l)

theorem setRow (h : s.Canonical) (l : LinkId) (r : Nat) (v : RackRow) : (s.setRow l r v).Canonical :=
  h.setLink l ((h.rows l).set r v)

theorem setPending (h : s.Canonical) (l : LinkId) (r : Nat) (w : Option PendingOrder) : (s.setPending l r w).Canonical :=
  h.setRow l r _

/-- A fold whose every step keeps the form keeps it. -/
theorem foldl {α : Type} {f : State → α → State} (hf : ∀ (s : State) a, s.Canonical → (f s a).Canonical) (xs : List α)
    (h : s.Canonical) : (xs.foldl f s).Canonical := by
  induction xs generalizing s with
  | nil => exact h
  | cons a t ih => exact ih (hf s a h)

/-- The same for a fold that carries a second value. -/
theorem foldlPair {α β : Type} {f : State × β → α → State × β}
    (hf : ∀ (x : State × β) a, x.1.Canonical → (f x a).1.Canonical) (xs : List α) {x : State × β} (h : x.1.Canonical) :
    (xs.foldl f x).1.Canonical := by
  induction xs generalizing x with
  | nil => exact h
  | cons a t ih => exact ih (hf x a h)

/-! ### The fade engine -/

theorem rederive (h : s.Canonical) (p : Nat) : (s.rederive p).Canonical := h.setPlayback_fields p rfl

theorem rederiveForced (h : s.Canonical) (x : Option (Nat × Nat)) : (s.rederiveForced x).Canonical := by
  cases x with
  | none => exact h
  | some x => exact h.rederive x.2

theorem cancelFollow (h : s.Canonical) (p : Nat) : (s.cancelFollow p).Canonical := h.setPlayback_fields p rfl
theorem missFollow (h : s.Canonical) (p : Nat) : (s.missFollow p).Canonical := h.setPlayback_fields p rfl

theorem resumePlayback (h : s.Canonical) (p : Nat) : (s.resumePlayback p).Canonical := by
  unfold State.resumePlayback
  split
  · exact (h.setFades _).setPlayback_fields p rfl
  · exact h

theorem takeEntry (h : s.Canonical) (n p ch target : Nat) (part : Part) : (s.takeEntry n p ch target part).Canonical := by
  unfold State.takeEntry
  dsimp only
  split
  · exact (h.setEntry ..).setFades _
  · exact ((h.setFades _).setEntry ..).setFades _

theorem takeLook (h : s.Canonical) (n p : Nat) (es : List LookEntry) : (s.takeLook n p es).Canonical :=
  h.foldl (fun _ _ hs => hs.takeEntry ..) es

theorem takeDown (h : s.Canonical) (n p : Nat) (chs : List Nat) : (s.takeDown n p chs).Canonical :=
  h.foldl (fun _ _ hs => hs.takeEntry ..) chs

theorem secureSlot (h : s.Canonical) : s.secureSlot.1.Canonical := by
  unfold State.secureSlot State.fastComplete
  split
  · split
    · exact h
    · exact ((h.setFades _).mapEntries ..).setPlayback_fields _ rfl
  · exact h

theorem complete (h : s.Canonical) (f : Fade) : (s.complete f).Canonical := by
  unfold State.complete
  dsimp only
  split
  · exact (h.mapEntries ..).setFades _
  · exact ((h.mapEntries ..).setFades _).setPlayback_fields _ rfl

theorem launch (h : s.Canonical) (p num : Nat) (o : Option Nat) (l : Look) : (s.launch p num o l).1.Canonical := by
  unfold State.launch
  dsimp only
  have h1 := (h.secureSlot.resumePlayback p).cancelFollow p
  generalize (s.secureSlot.1.resumePlayback p).cancelFollow p = s1 at h1 ⊢
  have h2 := (h1.setFades (s1.fades ++ [newFade s1.freeSlot p num o l])).takeLook s1.freeSlot p l.entries
  generalize (s1.setFades (s1.fades ++ [newFade s1.freeSlot p num o l])).takeLook s1.freeSlot p l.entries = s2 at h2 ⊢
  have h3 (f : Fade) := (h2.updateFade f).setPlayback_fields p (v := { s2.playback p with lastLook := some num }) rfl
  split
  · exact (((h3 _).complete _).rederive p).rederiveForced _
  · exact ((h3 _).rederive p).rederiveForced _

theorem fireDue (h : s.Canonical) (p : Nat) : (s.fireDue p).Canonical := by
  unfold State.fireDue State.fireFollow
  split
  · exact h
  · split
    · dsimp only
      split
      · exact ((h.cancelFollow p).missFollow p).rederive p
      · split
        · exact ((h.cancelFollow p).missFollow p).rederive p
        · exact (h.cancelFollow p).launch ..
    · exact h

theorem followStep (h : s.Canonical) (fresh : List Nat) (p : Nat) : (followStep fresh s p).Canonical := by
  unfold Machine.followStep State.countFollow
  split
  · exact h
  · refine State.Canonical.fireDue ?_ p
    split
    · exact h
    · split
      · exact h
      · exact h.setPlayback_fields p rfl

theorem bounce (h : s.Canonical) (f : Fade) : (s.bounce f).1.Canonical := by
  unfold State.bounce
  dsimp only
  split
  · exact (h.mapEntries ..).complete _
  · exact (h.mapEntries ..).setFades _

theorem advanceFade (h : s.Canonical) (fresh : List Nat) (n : Nat) : (advanceFade (s, fresh) n).1.Canonical := by
  unfold Machine.advanceFade
  dsimp only
  split
  · exact h
  · split
    · exact h
    · rename_i f _ _
      have h1 : ((s.updateFade { f with elapsed := f.elapsed + 1 }).mapEntries f.playback
          (Fade.move { f with elapsed := f.elapsed + 1 })).Canonical := (h.setFades _).mapEntries ..
      generalize (s.updateFade { f with elapsed := f.elapsed + 1 }).mapEntries f.playback
        (Fade.move { f with elapsed := f.elapsed + 1 }) = s1 at h1 ⊢
      split
      · exact h1
      · split
        · split
          · exact (h1.bounce _).rederive f.playback
          · exact h1.bounce _
        · exact (h1.complete _).rederive f.playback

theorem fadeTick (h : s.Canonical) : s.fadeTick.Canonical :=
  (foldlPair (fun x n hx => hx.advanceFade x.2 n) _ (x := (s, [])) h).foldl (fun _ p hs => hs.followStep _ p) _

theorem deskClear (h : s.Canonical) : s.deskClear.Canonical :=
  ((h.setFades _).mapPlaybacks fun q _ => Tbl.canonical_mapVals Entry.initial (fun _ => Entry.disown) q.entries).setCaptures (.nil none)

theorem switchOver (h : s.Canonical) : s.switchOver.Canonical :=
  ((((State.Canonical.congr (t := { s with liveBank := s.changeover.target.getD s.liveBank }) h rfl rfl rfl rfl rfl rfl).setFades
    _).mapPlaybacks fun q _ =>
      Tbl.canonical_mapVals Entry.initial (fun _ e => { e with level := 0, owner := none }) q.entries).setCaptures (.nil none)).setChangeover _

/-! ### The rig -/

theorem placeOrder (h : s.Canonical) (l : LinkId) (r : Nat) (o : Order) : (s.placeOrder l r o).Canonical := by
  rcases s.placeOrder_cases l r o with ⟨-, e⟩ | ⟨-, e⟩ <;> rw [e]
  · exact h.setPending ..
  · exact h

theorem placeNext (h : s.Canonical) (l : LinkId) (r : Nat) : (s.placeNext l r).Canonical := by
  rcases s.placeNext_cases l r with ⟨_, _, -, -, e⟩ | ⟨-, e⟩ <;> rw [e]
  · exact h.setPending ..
  · exact h

theorem placeAll (h : s.Canonical) (l : LinkId) : (s.placeAll l).Canonical := h.foldl (fun _ r hs => hs.placeNext l r) _

theorem pairUp (h : s.Canonical) (failed spare : Nat) : (s.pairUp failed spare).Canonical :=
  ((h.setCircuit ..).setCircuit ..).placeOrder ..

theorem confirmFailure (h : s.Canonical) (n : Nat) : (s.confirmFailure n).Canonical := by
  unfold State.confirmFailure State.seekSpare
  dsimp only
  split
  · split
    · split
      · exact (h.setCircuit ..).pairUp ..
      · exact (h.setCircuit ..).setCircuit ..
    · exact (h.setCircuit ..).setCircuit ..
  · exact h.setCircuit ..

theorem acknowledge (h : s.Canonical) (l : LinkId) (r : Nat) (o : Order) : (s.acknowledge l r o).Canonical := by
  unfold State.acknowledge State.ackTransfer State.ackUndo
  dsimp only
  refine State.Canonical.placeNext ?_ l r
  split
  · split
    · exact ((h.setPending ..).setCircuit ..).rewriteRecords _
    · exact (((h.setPending ..).setCircuit ..).setCircuit ..).rewriteRecords _
  · exact (((h.setPending ..).rewriteRecords _).setCircuit ..).setCircuit ..

theorem abandon (h : s.Canonical) (l : LinkId) (r : Nat) (o : Order) : (s.abandon l r o).Canonical := by
  unfold State.abandon State.revertPairing
  dsimp only
  refine State.Canonical.placeNext ?_ l r
  split
  · exact (h.setRow ..).setCircuit ..
  · exact ((h.setRow ..).setCircuit ..).setCircuit ..
  · exact ((h.setRow ..).setCircuit ..).setCircuit ..

theorem oweUndo (h : s.Canonical) (l : LinkId) (r : Nat) (o : Order) : (s.oweUndo l r o).Canonical := by
  unfold State.oweUndo
  split
  · split
    · exact h.setPending ..
    · exact h
  · exact h.setPending ..

theorem closeWindow (h : s.Canonical) (l : LinkId) : (s.closeWindow l).Canonical := h.setLink_fields l rfl

theorem windowSilent (h : s.Canonical) (l : LinkId) : (s.windowSilent l).Canonical := by
  unfold State.windowSilent
  split
  · exact h
  · exact (h.closeWindow l).setRow ..

theorem framed (h : s.Canonical) (l : LinkId) : (s.framed l).Canonical := by
  refine (h.windowSilent l).setLink_fields l ?_
  unfold Link.poll
  split <;> rfl

theorem takeAck (h : s.Canonical) (l : LinkId) (r : Nat) (c a : Option Order) : (s.takeAck l r c a).1.Canonical := by
  unfold State.takeAck
  split
  · exact h
  · split
    · split
      · exact h.acknowledge ..
      · split
        · exact h.setPending ..
        · exact h.abandon ..
    · exact h

theorem takeHealth (h : s.Canonical) (l : LinkId) (r : Nat) (ps : List Report) (b : Bool) (i : Nat) :
    (takeHealth l r ps (s, b) i).1.Canonical := by
  unfold Machine.takeHealth
  dsimp only
  split
  · split
    · exact h.setCircuit ..
    · exact h.confirmFailure _
    · exact h.setCircuit ..
    · exact h
  · exact h

theorem takeReady (h : s.Canonical) (l : LinkId) (r : Nat) (c : Option Order) (y : ReplyFrame) :
    (s.takeReady l r c y).Canonical := by
  unfold State.takeReady
  dsimp only
  have h2 := (h.setRow l r { (s.row l r).readyReply with thermal := y.thermal }).takeAck l r c y.ack
  have h3 := foldlPair (f := takeReport l r) (fun _ _ hx => hx.setCircuit ..) y.reports
    (x := (((s.setRow l r { (s.row l r).readyReply with thermal := y.thermal }).takeAck l r c y.ack).1, false)) h2
  exact (foldlPair (f := Machine.takeHealth l r y.reports) (fun x i hx => hx.takeHealth l r y.reports x.2 i) (List.range' 1 32)
    (x := (_, false)) h3).setRow ..

/-- A reply arrival keeps the form: a silent poll, a WAIT, or a READY taken stage by stage. -/
theorem replyArrival (h : s.Canonical) {l : LinkId} {bytes : List Byte} (hx : exec (.replyArrival l bytes) s = .next t) :
    t.Canonical := by
  rcases exec_replyArrival_cases hx with e | e | ⟨r, -, ⟨y, e⟩ | e⟩ <;> rw [e]
  · exact h
  · exact h.windowSilent l
  · exact (h.closeWindow l).takeReady ..
  · exact (h.closeWindow l).setRow ..

/-! ### Resets -/

theorem reset : State.reset.Canonical :=
  ⟨Tbl.Canonical.nil _, fun _ he => (List.not_mem_nil he).elim, Tbl.Canonical.nil _, Tbl.Canonical.nil _, Tbl.Canonical.nil _,
    fun _ he => (List.not_mem_nil he).elim, Tbl.Canonical.nil _, fun l => by cases l <;> exact Tbl.Canonical.nil _⟩

theorem link_powerOn (k : Link) : Tbl.Canonical RackRow.initial k.powerOn.rows :=
  Tbl.canonical_mapVals RackRow.initial (fun _ => RackRow.powerOn) k.rows

theorem link_ackNotices (k : Link) : Tbl.Canonical RackRow.initial k.ackNotices.rows :=
  Tbl.canonical_mapVals RackRow.initial (fun _ => RackRow.ackNotices) k.rows

theorem powerOnRetained (h : s.Canonical) : s.powerOnRetained.Canonical :=
  { reset with
    banks := Tbl.canonical_mapVals Bank.initial (fun _ b => { b with locked := true }) s.banks
    looks := fun e (he : e ∈ s.banks.mapVals Bank.initial fun _ b => { b with locked := true }) => by
      obtain ⟨x, hx, rfl⟩ := Tbl.mem_mapVals he
      exact h.looks x hx
    circuits := Tbl.canonical_mapVals Circuit.initial (fun _ => Circuit.powerOn) s.circuits
    curves := h.curves
    rows := fun l => by cases l <;> exact link_powerOn _ }

theorem powerOn (h : s.Canonical) {x y : Bool} (hx : exec (.powerOn x y) s = .next t) : t.Canonical := by
  rcases exec_powerOn_cases hx with ⟨-, e⟩ | ⟨-, e⟩ <;> rw [e]
  · exact reset.congr rfl rfl rfl rfl rfl rfl
  · exact (((h.powerOnRetained.placeAll .a).placeAll .b).placeAll .c).placeAll .d

theorem acknowledgeAll (h : s.Canonical) : s.acknowledgeAll.Canonical :=
  { (h.mapPlaybacks (f := Playback.ackFlags) fun _ hp => hp).mapCircuits Circuit.ackMarks with
    rows := fun l => by cases l <;> exact link_ackNotices _ }

/-! ### Requests and data -/

/-- Storing a record keeps the form. -/
theorem storeRecord (h : s.Canonical) {b ch ck prop n : Nat} {r : PatchRec} (e : s.storeRecord b ch ck prop = .ok (t, r, n)) :
    t.Canonical := by
  obtain ⟨_, _, -, ⟨_, -, rfl, -⟩ | ⟨-, -, rfl, -⟩⟩ := s.storeRecord_ok e
  · exact h.setRecords ..
  · exact h.setRecords ..

theorem rangePair {x : RunTally} (h : x.state.Canonical) (b ch ck prop i : Nat) :
    (rangePair b ch ck prop x i).state.Canonical := by
  unfold Machine.rangePair
  split
  · exact h.storeRecord ‹_›
  · exact h

theorem loadRecord {x : State × LoadTransfer} (h : x.1.Canonical) (r : Nat × Nat × Nat) : (loadRecord x r).1.Canonical := by
  unfold Machine.loadRecord
  dsimp only
  split
  · exact h
  · split
    · exact h
    · exact h.storeRecord ‹_›

theorem deliver (h : s.Canonical) (p : Port) (tr : Transfer) (data : List Byte) : (s.deliver p tr data).Canonical := by
  have ports {u v : State} (huv : u.SameButPorts v) : u.Canonical → v.Canonical := portFree u v huv.lines
  unfold State.deliver
  split
  · rename_i tl
    have h1 : (loadFrame s tl data).1.Canonical := by
      unfold loadFrame
      split
      · exact h
      · exact foldlPair (fun _ _ hx => hx.loadRecord _) _ h
    dsimp only
    split
    · rw [State.closeFull_eq]; exact ports (State.setPort_same ..) h1
    · exact ports (State.setPort_same ..) h1
  · dsimp only
    split
    · rw [State.closeFull_eq]
      refine ports (State.setPort_same ..) ?_
      unfold decideWrite
      split
      · exact h
      · split
        · exact h
        · split
          · exact h.setLook ..
          · exact h
    · exact ports (s.setPort_same ..) h

end State.Canonical
end Sys2Proof.Machine
end

section
/-!
SUPPORT. What a request can do, said once for each: a refused request changes nothing; a granted one edits a bank, edits the circuit
table, or leaves both as they are.
-/

namespace Sys2Proof.Machine

/-! ### Bank edits -/

/-- A bank may be edited: it is not the target of a changeover in DARKENING, and it is unlocked (R10). -/
def State.Editable (s : State) (b : Nat) : Prop := s.changingBank b = false ∧ (s.bank b).locked = false

theorem State.editable_of_refusal {s : State} {x : Bool} {b : Nat} (h : s.editRefusal x b = none) : x = true ∧ s.Editable b :=
  s.editRefusal_none.mp h

/-- From `s` to `t` a request edited a bank. -/
inductive State.BankEdit (s : State) : State → Prop
  | store {b ch ck prop n t r} (may : s.Editable b) (hch : channelOk ch = true) (hck : circuitOk ck = true)
      (h : s.storeRecord b ch ck prop = .ok (t, r, n)) : BankEdit s t
  | remove {b} (keep : PatchRec → Bool) (may : s.Editable b) : BankEdit s (s.setRecords b ((s.records b).filter keep))
  | swap {b x y} (may : s.Editable b) (hx : circuitOk x = true) (hy : circuitOk y = true) (hne : x ≠ y)
      (sx : (s.circuit x).swappable = true) (sy : (s.circuit y).swappable = true) :
      BankEdit s (s.setRecords b (sortRecs ((s.records b).map (PatchRec.exchange x y))))
  | range {b ch ck prop n} (may : s.Editable b) (hch : ∀ i < n, channelOk (ch + i) = true)
      (hck : ∀ i < n, circuitOk (ck + i) = true) :
      BankEdit s ((List.range n).foldl (rangePair b ch ck prop) ⟨s, 0, none⟩).state
  | copy {src dst} (may : s.Editable dst)
      (room : s.poolCount - (s.records dst).length + (s.records src).length ≤ Config.poolRecords) :
      BankEdit s (s.setRecords dst (s.records src))
  | erase {b} (may : s.Editable b) : BankEdit s (s.setBank b { s.bank b with records := [], looks := [] })
  | lock {b} (on : Bool) : BankEdit s (s.setBank b { s.bank b with locked := on })
  | deleteLook {b n} (may : s.Editable b) : BankEdit s (s.setLook b n none)

/-- One pair of a range changes the banks alone. -/
theorem rangePair_frame (b ch ck prop : Nat) (x : RunTally) (i : Nat) :
    (rangePair b ch ck prop x i).state = { x.state with banks := (rangePair b ch ck prop x i).state.banks } := by
  unfold rangePair
  split
  · exact State.storeRecord_frame _ ‹_›
  · rfl

theorem rangeFold_frame (b ch ck prop : Nat) (is : List Nat) (x : RunTally) :
    (is.foldl (rangePair b ch ck prop) x).state =
      { x.state with banks := (is.foldl (rangePair b ch ck prop) x).state.banks } := by
  induction is generalizing x with
  | nil => rfl
  | cons i is ih =>
    rw [List.foldl_cons, ih]
    conv => lhs; rw [rangePair_frame]

/-- A bank edit changes the banks alone. -/
theorem State.BankEdit.frame {s t : State} (h : s.BankEdit t) : t = { s with banks := t.banks } := by
  cases h with
  | store _ _ _ h => exact s.storeRecord_frame h
  | range => exact rangeFold_frame ..
  | _ => rfl

/-! ### Grants -/

/-- A request that changes anything is answered DONE or PARTIAL, and then relates the states before and after as `R` says. -/
def Grants (perform : List Byte → State → State × Reply) (R : State → State → Prop) : Prop :=
  ∀ ps s, (perform ps s).1 = s ∨
    (((perform ps s).2.outcome = .done ∨ (perform ps s).2.outcome = .inPart) ∧ R s (perform ps s).1)

theorem Grants.mono {perform : List Byte → State → State × Reply} {R R' : State → State → Prop} (h : Grants perform R)
    (hR : ∀ s t, R s t → R' s t) : Grants perform R' :=
  fun ps s => (h ps s).imp_right fun ⟨ho, hr⟩ => ⟨ho, hR _ _ hr⟩

theorem patchSet_grants : Grants patchSet State.BankEdit := by
  intro ps s
  unfold patchSet
  split
  · split
    · exact .inl rfl
    · rename_i hb
      obtain ⟨hr, may⟩ := State.editable_of_refusal hb
      simp only [Bool.and_eq_true] at hr
      split
      · exact .inl rfl
      · exact .inr ⟨.inl rfl, .store may hr.1.2 hr.2 ‹_›⟩
  · exact .inl rfl

theorem patchSetIf_grants : Grants patchSetIf State.BankEdit := by
  intro ps s
  unfold patchSetIf
  split
  · rename_i present ex
    generalize (if present = 0 then none else some ex.toNat) = expected
    split
    · exact .inl rfl
    · rename_i hb
      obtain ⟨hr, may⟩ := State.editable_of_refusal hb
      simp only [Bool.and_eq_true] at hr
      split
      · exact .inl rfl
      · dsimp only
        split
        · split
          · exact .inl rfl
          · exact .inr ⟨.inl rfl, .store may hr.1.1.2 hr.1.2 ‹_›⟩
        · exact .inl rfl
  · exact .inl rfl

theorem patchClear_grants : Grants patchClear State.BankEdit := by
  intro ps s
  unfold patchClear
  split
  · split
    · exact .inl rfl
    · rename_i hb
      split
      · exact .inl rfl
      · split
        · exact .inl rfl
        · exact .inr ⟨.inl rfl, .remove _ (State.editable_of_refusal hb).2⟩
  · exact .inl rfl

theorem patchClearIf_grants : Grants patchClearIf State.BankEdit := by
  intro ps s
  unfold patchClearIf
  split
  · split
    · exact .inl rfl
    · rename_i hb
      split
      · exact .inl rfl
      · split
        · exact .inl rfl
        · split
          · exact .inr ⟨.inl rfl, .remove _ (State.editable_of_refusal hb).2⟩
          · exact .inl rfl
  · exact .inl rfl

theorem patchClearChannel_grants : Grants patchClearChannel State.BankEdit := by
  intro ps s
  unfold patchClearChannel
  split
  · split
    · exact .inl rfl
    · exact .inr ⟨.inl rfl, .remove _ (State.editable_of_refusal ‹_›).2⟩
  · exact .inl rfl

theorem patchSwap_grants : Grants patchSwap State.BankEdit := by
  intro ps s
  unfold patchSwap
  split
  · split
    · exact .inl rfl
    · rename_i hb
      obtain ⟨hr, may⟩ := State.editable_of_refusal hb
      simp only [Bool.and_eq_true] at hr
      split
      · rename_i hs
        simp only [Bool.and_eq_true] at hs
        split
        · exact .inl rfl
        · exact .inr ⟨.inl rfl, .swap may hr.1.2 hr.2 ‹_› hs.1 hs.2⟩
      · exact .inl rfl
  · exact .inl rfl

theorem patchRange_grants : Grants patchRange State.BankEdit := by
  intro ps s
  unfold patchRange
  split
  · rename_i b ch1 ch0 ck1 ck0 n1 n0 pr
    split
    · exact .inl rfl
    · rename_i hb
      obtain ⟨hr, may⟩ := State.editable_of_refusal hb
      simp only [Bool.and_eq_true, decide_eq_true_eq, channelOk, circuitOk, bankOk] at hr
      have edit := State.BankEdit.range (ch := word ch1 ch0) (ck := word ck1 ck0) (n := word n1 n0)
        (prop := clampProportion pr.toNat) may
        (fun i hi => by simp only [channelOk, Bool.and_eq_true, decide_eq_true_eq]; omega)
        (fun i hi => by simp only [circuitOk, Bool.and_eq_true, decide_eq_true_eq]; omega)
      dsimp only
      split
      · exact .inr ⟨.inl rfl, edit⟩
      · exact .inr ⟨.inr rfl, edit⟩
  · exact .inl rfl

theorem bankCopy_grants : Grants bankCopy State.BankEdit := by
  intro ps s
  unfold bankCopy
  split
  · split
    · exact .inl rfl
    · rename_i hb
      split
      · exact .inl rfl
      · split
        · exact .inl rfl
        · exact .inr ⟨.inl rfl, .copy (State.editable_of_refusal hb).2 (Nat.le_of_not_lt ‹_›)⟩
  · exact .inl rfl

theorem bankErase_grants : Grants bankErase State.BankEdit := by
  intro ps s
  unfold bankErase
  split
  · split
    · exact .inl rfl
    · split
      · exact .inl rfl
      · exact .inr ⟨.inl rfl, .erase (State.editable_of_refusal ‹_›).2⟩
  · exact .inl rfl

theorem setBankLock_grants (on : Bool) : Grants (setBankLock on) State.BankEdit := by
  intro ps s
  unfold setBankLock
  split
  · split
    · exact .inr ⟨.inl rfl, .lock on⟩
    · exact .inl rfl
  · exact .inl rfl

theorem lookDelete_grants : Grants lookDelete State.BankEdit := by
  intro ps s
  unfold lookDelete
  split
  · split
    · exact .inl rfl
    · rename_i hb
      split
      · exact .inl rfl
      · exact .inr ⟨.inl rfl, .deleteLook (State.editable_of_refusal hb).2⟩
  · exact .inl rfl

/-! ### Circuit edits -/

/-- From `s` to `t` a request edited circuit records: a CIRCUIT-SET, cleared faults or marks, a REASSIGN, or a RESTORE. -/
inductive State.CircuitEdit (s : State) : State → Prop
  | set {ck role} (x : CircuitSelection) (hck : circuitOk ck = true) (h : s.roleRefusal ck role = none) :
      CircuitEdit s (s.setCircuit ck (((s.circuit ck).applyRole role).applySettings x))
  | clearFaults (ck : Nat) : CircuitEdit s (s.setCircuit ck (s.circuit ck).clearFaults)
  | clearAll : CircuitEdit s (s.mapCircuits Circuit.clearFaults)
  | acknowledge : CircuitEdit s s.acknowledgeAll
  | reassign {ck sp u} (hck : circuitOk ck = true) (hsp : circuitOk sp = true) (free : (s.circuit sp).role = .spareFree)
      (same : sameRack ck sp = true)
      (hu : ((s.circuit ck).role = .ordinary ∧ u = s.setCircuit ck { s.circuit ck with role := .failed, health := .failed }) ∨
        ((s.circuit ck).role = .failed ∧ (s.circuit ck).pairing = .unpaired ∧ u = s)) : CircuitEdit s (u.pairUp ck sp)
  | restore {ck sp u} (hck : circuitOk ck = true) (hf : (s.circuit ck).role = .failed)
      (hp : (s.circuit ck).pairing = .confirmed sp)
      (hu : u = s.setCircuit ck { s.circuit ck with pairing := .restoring sp, resend := false }) :
      CircuitEdit s ((u.setCircuit sp { u.circuit sp with pairing := .restoring ck }).oweUndo (linkOf ck) (rackOf ck)
        ⟨.undo, indexOf ck, indexOf sp⟩)

theorem circuitSet_grants : Grants circuitSet State.CircuitEdit := by
  intro ps s
  unfold circuitSet
  split
  · split
    · exact .inl rfl
    · dsimp only
      split
      · exact .inl rfl
      · rename_i hr
        simp only [Bool.not_eq_true', Bool.not_eq_false, Bool.and_eq_true] at hr
        split
        · exact .inl rfl
        · split
          · exact .inl rfl
          · exact .inr ⟨.inl rfl, .set _ hr.1.1 ‹_›⟩
  · exact .inl rfl

theorem faultClear_grants : Grants faultClear State.CircuitEdit := by
  intro ps s
  unfold faultClear
  split
  · split
    · exact .inr ⟨.inl rfl, .clearAll⟩
    · split
      · exact .inl rfl
      · exact .inr ⟨.inl rfl, .clearFaults _⟩
  · exact .inl rfl

theorem statusAck_grants : Grants statusAck State.CircuitEdit := by
  intro ps s
  unfold statusAck
  split
  · exact .inr ⟨.inl rfl, .acknowledge⟩
  · exact .inl rfl

theorem reassign_grants : Grants reassign State.CircuitEdit := by
  intro ps s
  unfold reassign
  split
  · dsimp only
    split
    · exact .inl rfl
    · rename_i hr
      split
      · exact .inl rfl
      · split
        · exact .inl rfl
        · rename_i hc
          simp only [Bool.not_eq_true', Bool.and_eq_true, Bool.not_eq_false,
            Circuit.reassignable, Bool.or_eq_true, beq_iff_eq] at hr hc
          obtain ⟨⟨hck, free⟩, same⟩ := hc
          refine .inr ⟨.inl rfl, .reassign hr.1 hr.2 free same ?_⟩
          rcases hck with ho | ⟨hf, hp⟩
          · exact .inl ⟨ho, by simp [ho]⟩
          · exact .inr ⟨hf, hp, by simp [hf]⟩
  · exact .inl rfl

theorem restore_grants : Grants restore State.CircuitEdit := by
  intro ps s
  unfold restore
  split
  · dsimp only
    split
    · exact .inl rfl
    · rename_i hr
      split
      · exact .inl rfl
      · split
        · rename_i hf
          split
          · exact .inr ⟨.inl rfl, .restore (by simpa using hr) hf ‹_› rfl⟩
          · exact .inl rfl
        · exact .inl rfl
  · exact .inl rfl

/-! ### The other requests -/

/-- Neither a bank nor a circuit record differs, nor which bank is live. -/
def State.ApartFromPatch (s t : State) : Prop := t.banks = s.banks ∧ t.circuits = s.circuits ∧ t.liveBank = s.liveBank

theorem State.FadeEngineOnly.apart {s t : State} (h : s.FadeEngineOnly t) : s.ApartFromPatch t := by
  rw [h]; exact ⟨rfl, rfl, rfl⟩

theorem rigSet_grants : Grants rigSet State.ApartFromPatch := by
  intro ps s
  unfold rigSet
  split
  · split
    · exact .inl rfl
    · split
      · exact .inl rfl
      · exact .inr ⟨.inl rfl, rfl, rfl, rfl⟩
  · exact .inl rfl

theorem setRigLock_grants (on : Bool) : Grants (setRigLock on) State.ApartFromPatch := by
  intro ps s
  unfold setRigLock
  split
  · exact .inr ⟨.inl rfl, rfl, rfl, rfl⟩
  · exact .inl rfl

theorem curveLoad_grants : Grants curveLoad State.ApartFromPatch := by
  intro ps s
  unfold curveLoad
  repeat' split
  case isFalse.isFalse.isFalse.isFalse => exact .inr ⟨.inl rfl, rfl, rfl, rfl⟩
  all_goals exact .inl rfl

theorem go_grants : Grants go State.ApartFromPatch := by
  intro ps s
  unfold go
  split
  · rename_i p n1 n0 present t1 t0
    generalize (if present = 0 then none else some (word t1 t0)) = time
    split
    · exact .inl rfl
    · split
      · exact .inl rfl
      · split
        · exact .inl rfl
        · refine .inr ⟨.inl rfl, ?_⟩
          dsimp only
          split
          · exact ((s.launch_only ..).trans (State.fireDue_only ..)).apart
          · exact (s.launch_only ..).apart
  · exact .inl rfl

/-- A RELEASE changes the fade engine alone. -/
theorem release_only (ps : List Byte) (s : State) : s.FadeEngineOnly (release ps s).1 := by
  unfold release
  split
  · dsimp only
    split
    · exact .refl s
    · rename_i p t1 t0 _
      have h1 := s.setPlayback_only p.toNat { s.playback p.toNat with pendingFollow := none, lastLook := none }
      generalize s.setPlayback p.toNat { s.playback p.toNat with pendingFollow := none, lastLook := none } = u at h1 ⊢
      have h2 := h1.trans u.secureSlot_only
      split
      · exact h1.trans (State.rederive_only ..)
      · split
        · exact (h2.trans (State.rederive_only ..)).trans (State.rederiveForced_only ..)
        · have h3 (f : Fade) (n q : Nat) (cs : List Nat) := (h2.trans (u.secureSlot.1.setFades_only
            (u.secureSlot.1.fades ++ [f]))).trans (State.takeDown_only _ n q cs)
          split
          · exact (((h3 ..).trans (State.complete_only ..)).trans (State.rederive_only ..)).trans (State.rederiveForced_only ..)
          · exact ((h3 ..).trans (State.rederive_only ..)).trans (State.rederiveForced_only ..)
  · exact .refl s

theorem release_grants : Grants release State.ApartFromPatch := by
  intro ps s
  have granted : (release ps s).1 = s ∨ (release ps s).2.outcome = .done := by
    unfold release
    split
    · dsimp only
      split
      · exact .inl rfl
      · repeat' split
        all_goals exact .inr rfl
    · exact .inl rfl
  exact granted.imp_right fun h => ⟨.inl h, (release_only ps s).apart⟩

theorem hold_grants : Grants hold State.ApartFromPatch := by
  intro ps s
  unfold hold
  split
  · split
    · exact .inl rfl
    · split
      · exact .inl rfl
      · exact .inr ⟨.inl rfl, rfl, rfl, rfl⟩
  · exact .inl rfl

theorem resume_grants : Grants resume State.ApartFromPatch := by
  intro ps s
  unfold resume
  split
  · split
    · exact .inl rfl
    · split
      · exact .inr ⟨.inl rfl, (s.resumePlayback_only _).apart⟩
      · exact .inl rfl
  · exact .inl rfl

theorem stopLoop_grants : Grants stopLoop State.ApartFromPatch := by
  intro ps s
  unfold stopLoop
  split
  · split
    · exact .inl rfl
    · exact .inr ⟨.inl rfl, rfl, rfl, rfl⟩
  · exact .inl rfl

theorem master_grants : Grants master State.ApartFromPatch := by
  intro ps s
  unfold master
  split
  · split
    · exact .inl rfl
    · exact .inr ⟨.inl rfl, rfl, rfl, rfl⟩
  · exact .inl rfl

theorem deskClear_grants : Grants deskClear State.ApartFromPatch := by
  intro ps s
  unfold deskClear
  split
  · exact .inr ⟨.inl rfl, rfl, rfl, rfl⟩
  · exact .inl rfl

theorem capture_grants : Grants capture State.ApartFromPatch := by
  intro ps s
  unfold capture
  split
  · split
    · exact .inl rfl
    · exact .inr ⟨.inl rfl, rfl, rfl, rfl⟩
  · exact .inl rfl

theorem uncapture_grants : Grants uncapture State.ApartFromPatch := by
  intro ps s
  unfold uncapture
  split
  · split
    · exact .inr ⟨.inl rfl, rfl, rfl, rfl⟩
    · split
      · exact .inl rfl
      · split
        · exact .inl rfl
        · exact .inr ⟨.inl rfl, rfl, rfl, rfl⟩
  · exact .inl rfl

theorem grand_grants : Grants grand State.ApartFromPatch := by
  intro ps s
  unfold grand
  split
  · exact .inr ⟨.inl rfl, rfl, rfl, rfl⟩
  · exact .inl rfl

theorem blackout_grants : Grants blackout State.ApartFromPatch := by
  intro ps s
  unfold blackout
  split
  · split
    · exact .inr ⟨.inl rfl, rfl, rfl, rfl⟩
    · exact .inl rfl
  · exact .inl rfl

theorem rackSet_grants : Grants rackSet State.ApartFromPatch := by
  intro ps s
  unfold rackSet
  split
  · split
    · exact .inl rfl
    · split
      · exact .inl rfl
      · split
        · exact .inl rfl
        · split
          · exact .inl rfl
          · exact .inr ⟨.inl rfl, by simp, by simp, by simp⟩
  · exact .inl rfl

theorem State.switchOver_patch (s : State) : s.switchOver.banks = s.banks ∧ s.switchOver.circuits = s.circuits := ⟨rfl, rfl⟩

/-- A CHANGEOVER leaves banks and circuits, and with a dark time above 0 the live bank too. -/
theorem changeover_grants (ps : List Byte) (s : State) :
    (changeover ps s).1 = s ∨ ((changeover ps s).2.outcome = .done ∧ (changeover ps s).1.banks = s.banks ∧
      (changeover ps s).1.circuits = s.circuits ∧ ((changeover ps s).1.liveBank = s.liveBank ∨ ∃ b, ps = [b, 0, 0])) := by
  unfold changeover
  split
  · rename_i b t1 t0
    split
    · exact .inl rfl
    · split
      · exact .inl rfl
      · split
        · exact .inl rfl
        · refine .inr ⟨rfl, ?_⟩
          dsimp only
          split
          · rename_i h0
            refine ⟨rfl, rfl, .inr ⟨b, ?_⟩⟩
            have h1 : t1.toNat = 0 ∧ t0.toNat = 0 := by unfold word at h0; omega
            rw [BitVec.eq_of_toNat_eq (x := t1) (y := 0) h1.1, BitVec.eq_of_toNat_eq (x := t0) (y := 0) h1.2]
          · exact ⟨rfl, rfl, .inl rfl⟩
  · exact .inl rfl

/-! ### All requests -/

/-- The reading requests. -/
def ReqCode.reads : ReqCode → Bool
  | .patchReadChannel | .patchReadCircuit | .circuitRead | .rigRead | .curveRead | .lookRead | .playbackRead | .fadeRead
  | .channelRead | .mixerRead | .outputRead | .rackRead | .transferRead | .status => true
  | _ => false

/-- A reading request changes nothing. -/
theorem perform_reads {code : ReqCode} (h : code.reads = true) (ps : List Byte) (s : State) : (code.perform ps s).1 = s := by
  cases code <;> cases h <;>
    simp only [ReqCode.perform, patchReadChannel, patchReadCircuit, circuitRead, rigRead, curveRead, lookRead, playbackRead,
      fadeRead, channelRead, mixerRead, outputRead, rackRead, transferRead, status] <;>
    repeat' split
  all_goals rfl

/-- What a granted request does to banks, circuits and the live bank: a bank edit, a circuit edit, nothing, or the switch event of a
CHANGEOVER of dark time 0. -/
inductive State.Effect (s : State) (code : ReqCode) (ps : List Byte) (t : State) : Prop
  | bank (h : s.BankEdit t)
  | circuit (h : s.CircuitEdit t)
  | apart (h : s.ApartFromPatch t)
  | switch (hc : code = .changeover) (h0 : ∃ b, ps = [b, 0, 0]) (hb : t.banks = s.banks) (hk : t.circuits = s.circuits)

/-- Everything a request can do: nothing, or with the answer DONE or PARTIAL one of these effects. -/
theorem perform_grants (code : ReqCode) (ps : List Byte) (s : State) :
    (code.perform ps s).1 = s ∨ (((code.perform ps s).2.outcome = .done ∨ (code.perform ps s).2.outcome = .inPart) ∧
      s.Effect code ps (code.perform ps s).1) := by
  have bank {f} (h : Grants f State.BankEdit) := h.mono (R' := fun s t => s.Effect code ps t) (fun _ _ => .bank) ps s
  have circuit {f} (h : Grants f State.CircuitEdit) := h.mono (R' := fun s t => s.Effect code ps t) (fun _ _ => .circuit) ps s
  have apart {f} (h : Grants f State.ApartFromPatch) := h.mono (R' := fun s t => s.Effect code ps t) (fun _ _ => .apart) ps s
  cases code with
  | patchSet => exact bank patchSet_grants
  | patchSetIf => exact bank patchSetIf_grants
  | patchClear => exact bank patchClear_grants
  | patchClearIf => exact bank patchClearIf_grants
  | patchClearChannel => exact bank patchClearChannel_grants
  | patchSwap => exact bank patchSwap_grants
  | patchRange => exact bank patchRange_grants
  | bankCopy => exact bank bankCopy_grants
  | bankErase => exact bank bankErase_grants
  | bankLock => exact bank (setBankLock_grants true)
  | bankUnlock => exact bank (setBankLock_grants false)
  | lookDelete => exact bank lookDelete_grants
  | circuitSet => exact circuit circuitSet_grants
  | faultClear => exact circuit faultClear_grants
  | statusAck => exact circuit statusAck_grants
  | reassign => exact circuit reassign_grants
  | restore => exact circuit restore_grants
  | rigSet => exact apart rigSet_grants
  | rigLock => exact apart (setRigLock_grants true)
  | rigUnlock => exact apart (setRigLock_grants false)
  | curveLoad => exact apart curveLoad_grants
  | go => exact apart go_grants
  | release => exact apart release_grants
  | hold => exact apart hold_grants
  | resume => exact apart resume_grants
  | stopLoop => exact apart stopLoop_grants
  | master => exact apart master_grants
  | deskClear => exact apart deskClear_grants
  | capture => exact apart capture_grants
  | uncapture => exact apart uncapture_grants
  | grand => exact apart grand_grants
  | blackout => exact apart blackout_grants
  | rackSet => exact apart rackSet_grants
  | changeover =>
    rcases changeover_grants ps s with h | ⟨ho, hb, hc, hl | h0⟩
    · exact .inl h
    · exact .inr ⟨.inl ho, .apart ⟨hb, hc, hl⟩⟩
    · exact .inr ⟨.inl ho, .switch rfl h0 hb hc⟩
  | patchLoad | lookWrite => exact .inl rfl
  | _ => exact .inl (perform_reads rfl ps s)

end Sys2Proof.Machine
end

section
/-! The canonical form of every collection is kept by every step (O4). -/

namespace Sys2Proof.Machine

namespace State.Canonical

variable {s t : State}

theorem rangeFold {x : RunTally} (h : x.state.Canonical) (b ch ck prop : Nat) (is : List Nat) :
    (is.foldl (Machine.rangePair b ch ck prop) x).state.Canonical := by
  induction is generalizing x with
  | nil => exact h
  | cons i is ih => exact ih (h.rangePair b ch ck prop i)

theorem bankEdit (h : s.Canonical) (e : s.BankEdit t) : t.Canonical := by
  cases e with
  | store _ _ _ e => exact h.storeRecord e
  | remove | swap | copy => exact h.setRecords ..
  | range => exact State.Canonical.rangeFold (x := ⟨s, 0, none⟩) h ..
  | erase => exact h.setBank _ (Tbl.Canonical.nil none)
  | lock => exact h.setBank _ (h.bank_looks _)
  | deleteLook => exact h.setLook ..

theorem circuitEdit (h : s.Canonical) (e : s.CircuitEdit t) : t.Canonical := by
  cases e with
  | set | clearFaults => exact h.setCircuit ..
  | clearAll => exact h.mapCircuits _
  | acknowledge => exact h.acknowledgeAll
  | reassign _ _ _ _ hu =>
    rcases hu with ⟨-, rfl⟩ | ⟨-, -, rfl⟩
    · exact (h.setCircuit ..).pairUp ..
    · exact h.pairUp ..
  | restore _ _ _ hu =>
    subst hu
    exact ((h.setCircuit ..).setCircuit ..).oweUndo ..

theorem rigSet (h : s.Canonical) (ps : List Byte) : (rigSet ps s).1.Canonical := by
  unfold Machine.rigSet
  repeat' split
  case h_1.isFalse.isFalse => exact h.setRig _
  all_goals exact h

theorem setRigLock (h : s.Canonical) (on : Bool) (ps : List Byte) : (setRigLock on ps s).1.Canonical := by
  unfold Machine.setRigLock
  split
  · exact h.setRig _
  · exact h

theorem curveLoad (h : s.Canonical) (ps : List Byte) : (curveLoad ps s).1.Canonical := by
  unfold Machine.curveLoad
  repeat' split
  case isFalse.isFalse.isFalse.isFalse => exact h.setCurve ..
  all_goals exact h

theorem go (h : s.Canonical) (ps : List Byte) : (go ps s).1.Canonical := by
  unfold Machine.go
  split
  · rename_i p n1 n0 present t1 t0
    generalize (if present = 0 then none else some (word t1 t0)) = time
    split
    · exact h
    · split
      · exact h
      · split
        · exact h
        · dsimp only
          split
          · exact (h.launch ..).fireDue _
          · exact h.launch ..
  · exact h

theorem release (h : s.Canonical) (ps : List Byte) : (release ps s).1.Canonical := by
  unfold Machine.release
  split
  · dsimp only
    split
    · exact h
    · rename_i p t1 t0 _
      have h1 := h.setPlayback_fields p.toNat
        (v := { s.playback p.toNat with pendingFollow := none, lastLook := none }) rfl
      generalize s.setPlayback p.toNat { s.playback p.toNat with pendingFollow := none, lastLook := none } = u at h1 ⊢
      split
      · exact h1.rederive _
      · split
        · exact (h1.secureSlot.rederive _).rederiveForced _
        · split
          · exact ((((h1.secureSlot.setFades _).takeDown ..).complete _).rederive _).rederiveForced _
          · exact (((h1.secureSlot.setFades _).takeDown ..).rederive _).rederiveForced _
  · exact h

theorem hold (h : s.Canonical) (ps : List Byte) : (hold ps s).1.Canonical := by
  unfold Machine.hold
  repeat' split
  case h_1.isFalse.isFalse => exact (h.setFades _).setPlayback_fields _ rfl
  all_goals exact h

theorem resume (h : s.Canonical) (ps : List Byte) : (resume ps s).1.Canonical := by
  unfold Machine.resume
  repeat' split
  case h_1.isFalse.isTrue => exact h.resumePlayback _
  all_goals exact h

theorem stopLoop (h : s.Canonical) (ps : List Byte) : (stopLoop ps s).1.Canonical := by
  unfold Machine.stopLoop
  repeat' split
  case h_1.isFalse => exact h.setFades _
  all_goals exact h

theorem master (h : s.Canonical) (ps : List Byte) : (master ps s).1.Canonical := by
  unfold Machine.master
  repeat' split
  case h_1.isFalse => exact h.setPlayback_fields _ rfl
  all_goals exact h

theorem deskClearRequest (h : s.Canonical) (ps : List Byte) : (Machine.deskClear ps s).1.Canonical := by
  unfold Machine.deskClear
  split
  · exact h.deskClear
  · exact h

theorem capture (h : s.Canonical) (ps : List Byte) : (capture ps s).1.Canonical := by
  unfold Machine.capture
  split
  · split
    · exact h
    · exact h.setCaptures (h.captures.set _ _)
  · exact h

theorem uncapture (h : s.Canonical) (ps : List Byte) : (uncapture ps s).1.Canonical := by
  unfold Machine.uncapture
  split
  · split
    · exact h.setCaptures (Tbl.Canonical.nil none)
    · split
      · exact h
      · split
        · exact h
        · exact h.setCaptures (h.captures.set _ _)
  · exact h

theorem changeover (h : s.Canonical) (ps : List Byte) : (Machine.changeover ps s).1.Canonical := by
  unfold Machine.changeover
  split
  · split
    · exact h
    · split
      · exact h
      · split
        · exact h
        · dsimp only
          split
          · exact (h.setChangeover _).switchOver
          · exact h.setChangeover _
  · exact h

theorem rackSet (h : s.Canonical) (ps : List Byte) : (rackSet ps s).1.Canonical := by
  unfold Machine.rackSet
  split
  · split
    · exact h
    · rename_i l _
      split
      · exact h
      · split
        · exact h
        · split
          · exact h
          · refine h.setLink l ?_
            split
            · exact h.rows l
            · split
              · exact (h.rows l).set _ (((s.link l).row _).configured true)
              · exact (h.rows l).set _ (((s.link l).row _).configured false)
  · exact h

/-- What a request performs keeps the canonical form. -/
theorem perform (h : s.Canonical) (code : ReqCode) (ps : List Byte) : (code.perform ps s).1.Canonical := by
  have bank {f} (hf : Grants f State.BankEdit) : (f ps s).1.Canonical := by
    rcases hf ps s with e | ⟨-, e⟩
    · rw [e]; exact h
    · exact h.bankEdit e
  have circuit {f} (hf : Grants f State.CircuitEdit) : (f ps s).1.Canonical := by
    rcases hf ps s with e | ⟨-, e⟩
    · rw [e]; exact h
    · exact h.circuitEdit e
  cases code with
  | patchSet => exact bank patchSet_grants
  | patchSetIf => exact bank patchSetIf_grants
  | patchClear => exact bank patchClear_grants
  | patchClearIf => exact bank patchClearIf_grants
  | patchClearChannel => exact bank patchClearChannel_grants
  | patchSwap => exact bank patchSwap_grants
  | patchRange => exact bank patchRange_grants
  | bankCopy => exact bank bankCopy_grants
  | bankErase => exact bank bankErase_grants
  | bankLock => exact bank (setBankLock_grants true)
  | bankUnlock => exact bank (setBankLock_grants false)
  | lookDelete => exact bank lookDelete_grants
  | circuitSet => exact circuit circuitSet_grants
  | faultClear => exact circuit faultClear_grants
  | statusAck => exact circuit statusAck_grants
  | reassign => exact circuit reassign_grants
  | restore => exact circuit restore_grants
  | rigSet => exact h.rigSet ps
  | rigLock => exact h.setRigLock true ps
  | rigUnlock => exact h.setRigLock false ps
  | curveLoad => exact h.curveLoad ps
  | go => exact h.go ps
  | release => exact h.release ps
  | hold => exact h.hold ps
  | resume => exact h.resume ps
  | stopLoop => exact h.stopLoop ps
  | master => exact h.master ps
  | deskClear => exact h.deskClearRequest ps
  | capture => exact h.capture ps
  | uncapture => exact h.uncapture ps
  | grand =>
    show (grand ps s).1.Canonical
    unfold grand
    split
    · exact h.congr rfl rfl rfl rfl rfl rfl
    · exact h
  | blackout =>
    show (Machine.blackout ps s).1.Canonical
    unfold Machine.blackout
    split
    · split
      · exact h.congr rfl rfl rfl rfl rfl rfl
      · exact h
    · exact h
  | rackSet => exact h.rackSet ps
  | changeover => exact h.changeover ps
  | patchLoad | lookWrite => exact h
  | _ => rw [perform_reads rfl]; exact h

/-- Every command keeps the canonical form. -/
theorem exec (h : s.Canonical) {c : Instr} (hx : exec c s = .next t) : t.Canonical := by
  have ports {u : State} (hu : s.SameButPorts u) : u.Canonical := portFree s u hu.lines h
  apply exec_cases hx portFree h
  case request => exact fun code _ r _ _ _ _ hu => (ports hu).perform code r.params
  case heldClear => exact fun ps _ hu => (ports hu).deskClearRequest ps
  case dataFrame => exact onFrame_takeData portFree.setPort (fun _ _ _ _ _ hu => hu.deliver ..) h
  case heldData => exact deliverHeld_keeps portFree.setPort (fun _ _ _ _ _ hu => hu.deliver ..) h
  case power => rintro x y rfl; exact h.powerOn hx
  case switch => exact fun _ _ => h.switchOver
  case fade => exact h.fadeTick.setChangeover _
  case frameDue => exact h.framed
  case pollEnd => exact fun l r => h.setLink_fields l rfl
  case expiry => exact h.windowSilent
  case reply => rintro l bytes rfl; exact h.replyArrival hx

end State.Canonical

/-- Settles O4: every write gives a canonical listing from a canonical one, so every command does. -/
theorem canonical_kept : Obligations.Canonical_kept := by
  intro s t h hx
  rcases step_cases hx with rfl | ⟨c, rest, -, hx⟩
  · exact h
  · exact (h.congr (t := { s with pending := rest }) rfl rfl rfl rfl rfl rfl).exec hx

end Sys2Proof.Machine
end

section
/-! Bank order and what a record may name are kept by every step (O10). -/

namespace Sys2Proof.Machine

/-! ### Circuit numbering -/

theorem circuitOk_iff (n : Nat) : circuitOk n = true ↔ 1 ≤ n ∧ n ≤ 2048 := by simp [circuitOk]
theorem rackOk_iff (r : Nat) : rackOk r = true ↔ 1 ≤ r ∧ r ≤ 16 := by simp [rackOk]

/-- A circuit stands at its index in its rack on its link. -/
theorem circuitAt_of {n : Nat} (h : circuitOk n = true) : circuitAt (linkOf n) (rackOf n) (indexOf n) = n := by
  rw [circuitOk_iff] at h
  unfold circuitAt linkOf rackOf indexOf linkNumber
  split_ifs <;> simp only <;> omega

/-- The circuit at an index of a rack is a circuit, and lies there. -/
theorem circuitAt_range (l : LinkId) {r i : Nat} (hr : rackOk r = true) (hi : 1 ≤ i ∧ i ≤ 32) :
    circuitOk (circuitAt l r i) = true ∧ linkOf (circuitAt l r i) = l ∧ rackOf (circuitAt l r i) = r ∧
      indexOf (circuitAt l r i) = i := by
  rw [rackOk_iff] at hr
  rw [circuitOk_iff]
  unfold circuitAt linkOf rackOf indexOf linkNumber
  cases l <;> simp only <;> refine ⟨by omega, ?_, by omega, by omega⟩
  · rw [if_pos (by omega)]
  · rw [if_neg (by omega), if_pos (by omega)]
  · rw [if_neg (by omega), if_neg (by omega), if_pos (by omega)]
  · rw [if_neg (by omega), if_neg (by omega), if_neg (by omega)]

theorem sameRack_iff (n m : Nat) : sameRack n m = true ↔ linkOf n = linkOf m ∧ rackOf n = rackOf m := by simp [sameRack]

/-! ### What a record may name -/

section
variable {s t : State}

/-- What a record may name is of the role and the pairing of the circuit it uses. -/
theorem State.NamesOk.congr {r : PatchRec} (h : s.NamesOk r) (hr : (t.circuit r.circuit).role = (s.circuit r.circuit).role)
    (hp : (t.circuit r.circuit).pairing = (s.circuit r.circuit).pairing) : t.NamesOk r := by
  unfold State.NamesOk at *
  rw [hr, hp]
  exact h

/-- A record uses an ORDINARY circuit, a FAILED one whose load is not on a spare, or a spare in use. -/
theorem State.NamesOk.role {r : PatchRec} (h : s.NamesOk r) :
    (r.original = none ∧ (s.circuit r.circuit).role = .ordinary) ∨
    (r.original = none ∧ (s.circuit r.circuit).role = .failed ∧
      ((s.circuit r.circuit).pairing = .unpaired ∨ ∃ m, (s.circuit r.circuit).pairing = .ordered m)) ∨
    ∃ o, r.original = some o ∧ (s.circuit r.circuit).role = .spareInUse ∧ (s.circuit r.circuit).pairing.partner = some o := by
  unfold State.NamesOk at h
  split at h
  · exact h.elim (fun h => .inl ⟨‹_›, h⟩) fun h => .inr (.inl ⟨‹_›, h⟩)
  · exact .inr (.inr ⟨_, ‹_›, h⟩)

/-- A record that keeps no original circuit uses an ORDINARY circuit, or a FAILED one whose load is not on a spare. -/
theorem State.namesOk_none {ch ck prop : Nat} (h : (s.circuit ck).role = .ordinary ∨ ((s.circuit ck).role = .failed ∧
    ((s.circuit ck).pairing = .unpaired ∨ ∃ m, (s.circuit ck).pairing = .ordered m))) : s.NamesOk ⟨ch, ck, prop, none⟩ := h

theorem State.namesOk_some {ch ck prop o : Nat} (hr : (s.circuit ck).role = .spareInUse)
    (hp : (s.circuit ck).pairing.partner = some o) : s.NamesOk ⟨ch, ck, prop, some o⟩ := ⟨hr, hp⟩

/-- A record of a bank names the circuit it uses. -/
theorem State.named_of_mem {b : Nat} {r : PatchRec} (h : r ∈ s.records b) : s.named r.circuit = true := by
  unfold State.named
  rcases Tbl.get_cases Bank.initial s.banks b with e | e
  · have h : r ∈ (s.banks.get Bank.initial b).records := h
    rw [e] at h
    exact (List.not_mem_nil h).elim
  · exact List.any_eq_true.mpr ⟨_, e, List.any_eq_true.mpr ⟨r, h, by simp [PatchRec.names]⟩⟩

/-! ### The pairings of the rig -/

/-- The relations of the rig are of the circuit records and the links alone. -/
theorem State.RigOk.congr (h : s.RigOk) (hc : t.circuits = s.circuits) (hl : t.links = s.links) : t.RigOk := by
  obtain ⟨⟩ := t
  obtain ⟨⟩ := s
  cases hc
  cases hl
  exact { h with }

/-- A FAILED circuit on its spare, or on its way there, and the spare. -/
theorem State.RigOk.pair (h : s.RigOk) {n m : Nat} (hn : circuitOk n = true) (hf : (s.circuit n).role = .failed)
    (hp : (s.circuit n).pairing.partner = some m) :
    circuitOk m = true ∧ n ≠ m ∧ sameRack n m = true ∧ (s.circuit m).role = (s.circuit n).pairing.spareRole ∧
      (s.circuit m).pairing = (s.circuit n).pairing.withPartner n := by
  obtain ⟨hm, hr, hs, hq⟩ := h.failed n m hn hf hp
  refine ⟨hm, ?_, hr, hs, hq⟩
  rintro rfl
  rw [hf] at hs
  cases hpair : (s.circuit n).pairing <;> rw [hpair] at hs <;> cases hs

/-- The pending order of a rack and the pairing it serves: a FAILED circuit of the rack and its spare there. -/
theorem State.RigOk.pending (h : s.RigOk) {l : LinkId} {r : Nat} (hr : rackOk r = true) {w : PendingOrder}
    (hw : (s.row l r).pendingOrder = some w) :
    circuitOk (circuitAt l r w.order.circuitIndex) = true ∧
    (s.circuit (circuitAt l r w.order.circuitIndex)).role = .failed ∧
    ((w.order.kind = .transfer ∧
        (s.circuit (circuitAt l r w.order.circuitIndex)).pairing = .ordered (circuitAt l r w.order.spareIndex)) ∨
      (w.order.kind = .transfer ∧
        (s.circuit (circuitAt l r w.order.circuitIndex)).pairing = .confirmed (circuitAt l r w.order.spareIndex)) ∨
      (w.order.kind = .undo ∧
        (s.circuit (circuitAt l r w.order.circuitIndex)).pairing = .restoring (circuitAt l r w.order.spareIndex))) := by
  obtain ⟨hmem, -⟩ := h.order l r w hr hw
  obtain ⟨i, hi, ho⟩ := List.mem_filterMap.mp hmem
  have hi : 1 ≤ i ∧ i ≤ 32 := by have := List.mem_range'_1.mp hi; omega
  obtain ⟨hok, hlink, hrack, hindex⟩ := circuitAt_range l hr hi
  unfold State.owedOrder at ho
  split at ho
  · rename_i hf
    have spare {p : Nat} (hp : (s.circuit (circuitAt l r i)).pairing.partner = some p) : circuitAt l r (indexOf p) = p := by
      obtain ⟨hpok, -, hsame, -⟩ := h.pair hok hf hp
      obtain ⟨h1, h2⟩ := (sameRack_iff _ _).mp hsame
      calc circuitAt l r (indexOf p) = circuitAt (linkOf p) (rackOf p) (indexOf p) := by rw [← h1, ← h2, hlink, hrack]
        _ = p := circuitAt_of hpok
    cases hp : (s.circuit (circuitAt l r i)).pairing with
    | unpaired => rw [hp] at ho; cases ho
    | ordered p =>
      simp only [hp, Option.some.injEq] at ho
      rw [← ho]
      exact ⟨hok, hf, .inl ⟨rfl, by rw [hp]; simp [spare (by rw [hp]; rfl)]⟩⟩
    | confirmed p =>
      simp only [hp] at ho
      split at ho
      case isFalse => cases ho
      simp only [Option.some.injEq] at ho
      rw [← ho]
      exact ⟨hok, hf, .inr (.inl ⟨rfl, by rw [hp]; simp [spare (by rw [hp]; rfl)]⟩)⟩
    | restoring p =>
      simp only [hp, Option.some.injEq] at ho
      rw [← ho]
      exact ⟨hok, hf, .inr (.inr ⟨rfl, by rw [hp]; simp [spare (by rw [hp]; rfl)]⟩)⟩
  · cases ho

/-- The rack a reply window is open for is a rack. -/
theorem State.RigOk.window_rack (h : s.RigOk) {l : LinkId} {r : Nat} (hw : (s.link l).window = some r) : rackOk r = true :=
  ((h.pollOrder l r).mp (h.polled l r (.inr (.inr hw)))).1

/-- The circuit an edit resolves to is a circuit, and a record stored with it may name it. -/
theorem State.RigOk.resolve (h : s.RigOk) {ck used : Nat} {orig : Option Nat} (hck : circuitOk ck = true)
    (e : s.resolve ck = some (used, orig)) : circuitOk used = true ∧ ∀ ch prop, s.NamesOk ⟨ch, used, prop, orig⟩ := by
  rcases s.resolve_cases e with ⟨hr, rfl, rfl⟩ | ⟨hr, hp, rfl, rfl⟩ | ⟨hr, hp, rfl⟩
  · exact ⟨hck, fun _ _ => State.namesOk_none (.inl hr)⟩
  · exact ⟨hck, fun _ _ => State.namesOk_none (.inr ⟨hr, hp⟩)⟩
  · rcases hp with hp | hp <;>
    · obtain ⟨hok, -, -, hrole, hpair⟩ := h.pair (m := used) hck hr (by rw [hp]; rfl)
      rw [hp] at hrole hpair
      exact ⟨hok, fun _ _ => State.namesOk_some hrole (by rw [hpair]; rfl)⟩

/-! ### Writes of banks -/

/-- What is asked of one bank's records: bank order without two alike, numbers in range, circuits they may name. -/
structure State.RecordsOk (s : State) (rs : List PatchRec) : Prop where
  sorted : rs.Pairwise fun r r' => recBefore r r' = true
  ranges : ∀ r ∈ rs, channelOk r.channel = true ∧ circuitOk r.circuit = true
  names : ∀ r ∈ rs, s.NamesOk r

theorem State.PatchOk.records (h : s.PatchOk) (b : Nat) : s.RecordsOk (s.records b) := ⟨h.sorted b, h.ranges b, h.names b⟩

theorem State.patchOk_iff : s.PatchOk ↔ ∀ b, s.RecordsOk (s.records b) :=
  ⟨State.PatchOk.records, fun h => ⟨fun b => (h b).sorted, fun b => (h b).ranges, fun b => (h b).names⟩⟩

/-- The records of every bank as they were, and each may still name its circuit. -/
theorem State.PatchOk.of_records (h : s.PatchOk) (hb : ∀ b, t.records b = s.records b)
    (hn : ∀ b, ∀ r ∈ s.records b, s.NamesOk r → t.NamesOk r) : t.PatchOk :=
  State.patchOk_iff.mpr fun b => (hb b).symm ▸ ⟨h.sorted b, h.ranges b, fun r hr => hn b r hr (h.names b r hr)⟩

theorem State.records_congr (h : t.banks = s.banks) (b : Nat) : t.records b = s.records b := by
  simp only [State.records, State.bank, h]

theorem State.circuit_congr (h : t.circuits = s.circuits) (n : Nat) : t.circuit n = s.circuit n := by
  simp only [State.circuit, h]

/-- Banks and circuit records as they were. -/
theorem State.PatchOk.congr (h : s.PatchOk) (hb : t.banks = s.banks) (hc : t.circuits = s.circuits) : t.PatchOk :=
  h.of_records (State.records_congr hb) fun _ r _ hr =>
    hr.congr (by rw [State.circuit_congr hc]) (by rw [State.circuit_congr hc])

theorem State.patchOk_portFree : PortFree State.PatchOk := fun _ _ huv hu => hu.congr huv.banks huv.circuits

/-- One bank written, with records as they should be. -/
theorem State.PatchOk.setBank (h : s.PatchOk) (b : Nat) {v : Bank} (hv : s.RecordsOk v.records) : (s.setBank b v).PatchOk := by
  rw [State.patchOk_iff]
  intro b'
  rw [State.records_setBank]
  split
  · exact ⟨hv.sorted, hv.ranges, fun r hr => (hv.names r hr).congr rfl rfl⟩
  · exact ⟨h.sorted b', h.ranges b', fun r hr => (h.names b' r hr).congr rfl rfl⟩

theorem State.PatchOk.setRecords (h : s.PatchOk) (b : Nat) {rs : List PatchRec} (hrs : s.RecordsOk rs) :
    (s.setRecords b rs).PatchOk := h.setBank b (v := { s.bank b with records := rs }) hrs

/-- A sub-list of records as they should be is one. -/
theorem State.RecordsOk.filter {rs : List PatchRec} (h : s.RecordsOk rs) (keep : PatchRec → Bool) :
    s.RecordsOk (rs.filter keep) :=
  ⟨h.sorted.filter _, fun r hr => h.ranges r (List.mem_filter.mp hr).1, fun r hr => h.names r (List.mem_filter.mp hr).1⟩

theorem State.RecordsOk.nil : s.RecordsOk [] := ⟨.nil, fun _ h => (List.not_mem_nil h).elim, fun _ h => (List.not_mem_nil h).elim⟩

theorem State.RecordsOk.replaceRec {rs : List PatchRec} (h : s.RecordsOk rs) (ch ck prop : Nat) :
    s.RecordsOk (replaceRec rs ch ck prop) := by
  have keys {x : PatchRec} (hx : x ∈ Machine.replaceRec rs ch ck prop) :
      ∃ r ∈ rs, x.channel = r.channel ∧ x.circuit = r.circuit ∧ x.original = r.original := by
    obtain ⟨r, hr, rfl⟩ := mem_replaceRec hx
    refine ⟨r, hr, ?_⟩
    split <;> exact ⟨rfl, rfl, rfl⟩
  refine ⟨sorted_replaceRec ch ck prop h.sorted, fun x hx => ?_, fun x hx => ?_⟩
  · obtain ⟨r, hr, h1, h2, -⟩ := keys hx
    rw [h1, h2]; exact h.ranges r hr
  · obtain ⟨r, hr, -, h2, h3⟩ := keys hx
    have := h.names r hr
    unfold State.NamesOk at *
    rw [h2, h3]; exact this

theorem State.RecordsOk.insertRec {rs : List PatchRec} (h : s.RecordsOk rs) {x : PatchRec}
    (hk : ∀ r ∈ rs, ¬ (r.channel = x.channel ∧ r.circuit = x.circuit)) (hr : channelOk x.channel = true ∧ circuitOk x.circuit = true)
    (hn : s.NamesOk x) : s.RecordsOk (insertRec x rs) := by
  refine ⟨sorted_insertRec h.sorted hk, fun y hy => ?_, fun y hy => ?_⟩
  · rcases mem_insertRec.mp hy with rfl | hy
    · exact hr
    · exact h.ranges y hy
  · rcases mem_insertRec.mp hy with rfl | hy
    · exact hn
    · exact h.names y hy

/-- Storing a record, as R8 resolves its circuit, leaves every bank as it should be. -/
theorem State.PatchOk.storeRecord (h : s.PatchOk) (hrig : s.RigOk) {b ch ck prop n : Nat} {r : PatchRec}
    (hch : channelOk ch = true) (hck : circuitOk ck = true) (e : s.storeRecord b ch ck prop = .ok (t, r, n)) : t.PatchOk := by
  obtain ⟨used, orig, hres, ⟨_, -, rfl, -⟩ | ⟨hnone, -, rfl, -⟩⟩ := s.storeRecord_ok e
  · exact h.setRecords b ((h.records b).replaceRec ..)
  · obtain ⟨hok, hnames⟩ := hrig.resolve hck hres
    exact h.setRecords b ((h.records b).insertRec (findRec_none.mp hnone) ⟨hch, hok⟩ (hnames ch prop))

/-- Exchanging two circuits keeps different circuits different. -/
theorem PatchRec.exchange_circuit (x y : Nat) (r : PatchRec) :
    (r.exchange x y).circuit = if r.circuit = x then y else if r.circuit = y then x else r.circuit := by
  unfold PatchRec.exchange
  split_ifs <;> rfl

theorem PatchRec.exchange_fields (x y : Nat) (r : PatchRec) :
    (r.exchange x y).channel = r.channel ∧ (r.exchange x y).proportion = r.proportion ∧ (r.exchange x y).original = r.original := by
  unfold PatchRec.exchange
  split_ifs <;> exact ⟨rfl, rfl, rfl⟩

theorem PatchRec.exchange_circuit_inj {x y : Nat} {r r' : PatchRec} (h : (r.exchange x y).circuit = (r'.exchange x y).circuit) :
    r.circuit = r'.circuit := by
  simp only [PatchRec.exchange_circuit] at h
  split_ifs at h <;> omega

/-- The records of a bank with two circuits exchanged are again of different keys. -/
theorem keys_exchange {rs : List PatchRec} (hs : rs.Pairwise fun a b => recBefore a b = true) (x y : Nat) :
    (rs.map (PatchRec.exchange x y)).Pairwise fun a b => ¬ (b.channel = a.channel ∧ b.circuit = a.circuit) :=
  List.pairwise_map.mpr ((keys_of_sorted hs).imp fun {a b} hk hab => hk
    ⟨(b.exchange_fields x y).1 ▸ (a.exchange_fields x y).1 ▸ hab.1, PatchRec.exchange_circuit_inj hab.2⟩)

theorem Circuit.swappable_iff (c : Circuit) :
    c.swappable = true ↔ (c.role = .ordinary ∨ c.role = .failed) ∧ c.pairing = .unpaired := by
  simp [Circuit.swappable]

/-- A record of a circuit that may be swapped keeps no original circuit. -/
theorem State.NamesOk.original_of_swappable {r : PatchRec} (h : s.NamesOk r) (hs : (s.circuit r.circuit).swappable = true) :
    r.original = none := by
  rw [Circuit.swappable_iff] at hs
  rcases h.role with ⟨ho, -⟩ | ⟨ho, -⟩ | ⟨o, -, hr, -⟩
  · exact ho
  · exact ho
  · rcases hs.1 with e | e <;> rw [e] at hr <;> cases hr

theorem State.namesOk_of_swappable {r : PatchRec} (ho : r.original = none) (hs : (s.circuit r.circuit).swappable = true) :
    s.NamesOk r := by
  rw [Circuit.swappable_iff] at hs
  unfold State.NamesOk
  rw [ho]
  exact hs.1.imp_right fun h => ⟨h, .inl hs.2⟩

theorem State.RecordsOk.exchange {rs : List PatchRec} (h : s.RecordsOk rs) {x y : Nat} (hx : circuitOk x = true)
    (hy : circuitOk y = true) (sx : (s.circuit x).swappable = true) (sy : (s.circuit y).swappable = true) :
    s.RecordsOk (sortRecs (rs.map (PatchRec.exchange x y))) := by
  refine ⟨sorted_sortRecs (keys_exchange h.sorted x y), fun _ hm => ?_, fun _ hm => ?_⟩
  · obtain ⟨r, hr, rfl⟩ := List.mem_map.mp (mem_sortRecs.mp hm)
    rw [(r.exchange_fields x y).1, PatchRec.exchange_circuit]
    refine ⟨(h.ranges r hr).1, ?_⟩
    split_ifs
    · exact hy
    · exact hx
    · exact (h.ranges r hr).2
  · obtain ⟨r, hr, rfl⟩ := List.mem_map.mp (mem_sortRecs.mp hm)
    have hn := h.names r hr
    unfold PatchRec.exchange
    split_ifs with h1 h2
    · exact State.namesOk_of_swappable (hn.original_of_swappable (h1 ▸ sx)) sy
    · exact State.namesOk_of_swappable (hn.original_of_swappable (h2 ▸ sy)) sx
    · exact hn

/-- The pairs of a range, each stored or not, leave every bank as it should be. -/
theorem State.PatchOk.rangeFold {b ch ck prop : Nat} (is : List Nat) {x : RunTally} (h : x.state.PatchOk)
    (hrig : x.state.RigOk) (hch : ∀ i ∈ is, channelOk (ch + i) = true) (hck : ∀ i ∈ is, circuitOk (ck + i) = true) :
    (is.foldl (rangePair b ch ck prop) x).state.PatchOk := by
  induction is generalizing x with
  | nil => exact h
  | cons i is ih =>
    have hf := rangePair_frame b ch ck prop x i
    refine ih ?_ (hrig.congr (by rw [hf]) (by rw [hf])) (fun j hj => hch j (by simp [hj])) fun j hj => hck j (by simp [hj])
    unfold rangePair
    split
    · exact h.storeRecord hrig (hch i (by simp)) (hck i (by simp)) ‹_›
    · exact h

/-- A bank edit leaves every bank as it should be. -/
theorem State.PatchOk.bankEdit (h : s.PatchOk) (hrig : s.RigOk) (e : s.BankEdit t) : t.PatchOk := by
  cases e with
  | store _ hch hck e => exact h.storeRecord hrig hch hck e
  | remove keep => exact h.setRecords _ ((h.records _).filter keep)
  | swap _ hx hy _ sx sy => exact h.setRecords _ ((h.records _).exchange hx hy sx sy)
  | @range b ch ck prop n _ hch hck =>
    exact State.PatchOk.rangeFold (x := ⟨s, 0, none⟩) (List.range n) h hrig (fun i hi => hch i (List.mem_range.mp hi))
      fun i hi => hck i (List.mem_range.mp hi)
  | copy => exact h.setRecords _ (h.records _)
  | erase => exact h.setBank _ State.RecordsOk.nil
  | lock => exact h.setBank _ (h.records _)
  | deleteLook => exact h.setBank _ (h.records _)

/-! ### Writes of circuits -/

/-- The banks as they were, and every circuit's role and pairing. -/
theorem State.PatchOk.of_roles (h : s.PatchOk) (hb : t.banks = s.banks) (hr : ∀ n, (t.circuit n).role = (s.circuit n).role)
    (hp : ∀ n, (t.circuit n).pairing = (s.circuit n).pairing) : t.PatchOk :=
  h.of_records (State.records_congr hb) fun _ _ _ hn => hn.congr (hr _) (hp _)

/-- One circuit written; every record that uses it may name it as it now is. -/
theorem State.PatchOk.setCircuit (h : s.PatchOk) (n : Nat) {v : Circuit}
    (hn : ∀ b, ∀ r ∈ s.records b, s.NamesOk r → r.circuit = n → (s.setCircuit n v).NamesOk r) : (s.setCircuit n v).PatchOk :=
  h.of_records (fun _ => rfl) fun b r hr hok => by
    by_cases e : r.circuit = n
    · exact hn b r hr hok e
    · exact hok.congr (by simp [Ne.symm e]) (by simp [Ne.symm e])

/-- One circuit written with its role and pairing as they were. -/
theorem State.PatchOk.setCircuit_same (h : s.PatchOk) (n : Nat) {v : Circuit} (hr : v.role = (s.circuit n).role)
    (hp : v.pairing = (s.circuit n).pairing) : (s.setCircuit n v).PatchOk :=
  h.setCircuit n fun _ r _ hok e => hok.congr (by simp [e, hr]) (by simp [e, hp])

@[simp] theorem Circuit.applySettings_role (c : Circuit) (x : CircuitSelection) : (c.applySettings x).role = c.role := rfl
@[simp] theorem Circuit.applySettings_pairing (c : Circuit) (x : CircuitSelection) :
    (c.applySettings x).pairing = c.pairing := rfl
@[simp] theorem Circuit.applyRole_role (c : Circuit) (new : Role) : (c.applyRole new).role = new := by
  unfold Circuit.applyRole; split <;> simp_all
@[simp] theorem Circuit.applyRole_pairing (c : Circuit) (new : Role) : (c.applyRole new).pairing = c.pairing := by
  unfold Circuit.applyRole; split <;> rfl

/-- A selected role that is not refused is the present one, or the circuit is not named by any record, or it is FAILED with pairing
NONE and becomes ORDINARY, or it is a free spare or retired. -/
theorem State.roleRefusal_none {ck : Nat} {new : Role} (h : s.roleRefusal ck new = none) :
    new = (s.circuit ck).role ∨ s.named ck = false ∨ ((s.circuit ck).role = .failed ∧ new = .ordinary) ∨
      (s.circuit ck).role = .spareFree ∨ (s.circuit ck).role = .retired := by
  unfold State.roleRefusal at h
  split at h
  · exact .inl ‹_›
  · split at h
    · cases h
    · rename_i hallowed
      unfold State.roleChangeAllowed at hallowed
      refine .inr ?_
      split at hallowed <;> simp_all

theorem State.PatchOk.circuitSet (h : s.PatchOk) {ck : Nat} {role : Role} (x : CircuitSelection)
    (hr : s.roleRefusal ck role = none) : (s.setCircuit ck (((s.circuit ck).applyRole role).applySettings x)).PatchOk := by
  refine h.setCircuit ck fun b r hmem hok e => ?_
  subst e
  rcases State.roleRefusal_none hr with hsame | hnamed | ⟨hf, ho⟩ | hfree
  · exact hok.congr (by simp [hsame]) (by simp)
  · rw [State.named_of_mem hmem] at hnamed; cases hnamed
  · rcases hok.role with ⟨-, hr⟩ | ⟨hnone, -⟩ | ⟨o, -, hr, -⟩
    · rw [hf] at hr; cases hr
    · unfold State.NamesOk
      rw [hnone]
      exact .inl (by simp [ho])
    · rw [hf] at hr; cases hr
  · rcases hok.role with ⟨-, hr⟩ | ⟨-, hr, -⟩ | ⟨o, -, hr, -⟩ <;> rcases hfree with hq | hq <;> rw [hr] at hq <;> cases hq

/-- No record uses a circuit of these roles. -/
theorem State.NamesOk.not_idle {r : PatchRec} (h : s.NamesOk r) :
    (s.circuit r.circuit).role ≠ .spareFree ∧ (s.circuit r.circuit).role ≠ .spareHeld ∧ (s.circuit r.circuit).role ≠ .retired := by
  rcases h.role with ⟨-, hr⟩ | ⟨-, hr, -⟩ | ⟨o, -, hr, -⟩ <;> rw [hr] <;> exact ⟨nofun, nofun, nofun⟩

/-- No record uses a FAILED circuit whose load is on its spare. -/
theorem State.NamesOk.not_on_spare {r : PatchRec} (h : s.NamesOk r) (hf : (s.circuit r.circuit).role = .failed) (m : Nat) :
    (s.circuit r.circuit).pairing ≠ .confirmed m ∧ (s.circuit r.circuit).pairing ≠ .restoring m := by
  rcases h.role with ⟨-, hr⟩ | ⟨-, -, hp⟩ | ⟨o, -, hr, -⟩
  · rw [hf] at hr; cases hr
  · rcases hp with hp | ⟨m', hp⟩ <;> rw [hp] <;> exact ⟨nofun, nofun⟩
  · rw [hf] at hr; cases hr

/-- A pairing leaves the banks. -/
theorem State.pairUp_banks (s : State) (failed spare : Nat) : (s.pairUp failed spare).banks = s.banks := by
  unfold State.pairUp
  dsimp only
  generalize hu : State.setCircuit _ spare _ = u
  have hb : u.banks = s.banks := by rw [← hu]; rfl
  rcases u.placeOrder_cases (linkOf failed) (rackOf failed) ⟨.transfer, indexOf failed, indexOf spare⟩ with
    ⟨-, e⟩ | ⟨-, e⟩ <;> rw [e]
  · simpa [State.setPending, State.setRow] using hb
  · exact hb

/-- A pairing of a FAILED circuit that has none with a free spare. -/
theorem State.PatchOk.pairUp (h : s.PatchOk) {failed spare : Nat} (hf : (s.circuit failed).role = .failed)
    (hs : (s.circuit spare).role = .spareFree) : (s.pairUp failed spare).PatchOk := by
  have hne : failed ≠ spare := by rintro rfl; rw [hf] at hs; cases hs
  refine h.of_records (State.records_congr (s.pairUp_banks failed spare)) fun b r hmem hok => ?_
  have hspare : r.circuit ≠ spare := fun e => hok.not_idle.1 (e ▸ hs)
  by_cases e : r.circuit = failed
  · have ho : r.original = none := by
      rcases hok.role with ⟨ho, -⟩ | ⟨ho, -⟩ | ⟨o, -, hr, -⟩
      · exact ho
      · exact ho
      · rw [e, hf] at hr; cases hr
    unfold State.NamesOk
    rw [ho, State.circuit_pairUp s hne, if_pos e]
    exact .inr ⟨hf, .inr ⟨spare, rfl⟩⟩
  · exact hok.congr (by rw [State.circuit_pairUp s hne, if_neg e, if_neg hspare])
      (by rw [State.circuit_pairUp s hne, if_neg e, if_neg hspare])

/-- A circuit that fails keeps the records that name it. -/
theorem State.PatchOk.fail (h : s.PatchOk) {n : Nat} (ho : (s.circuit n).role = .ordinary)
    (hp : (s.circuit n).pairing = .unpaired) : (s.setCircuit n { s.circuit n with role := .failed, health := .failed }).PatchOk := by
  refine h.setCircuit n fun b r _ hok e => ?_
  have hnone : r.original = none := by
    rcases hok.role with ⟨hnone, -⟩ | ⟨hnone, -⟩ | ⟨o, -, hr, -⟩
    · exact hnone
    · exact hnone
    · rw [e, ho] at hr; cases hr
  unfold State.NamesOk
  rw [hnone]
  exact .inr ⟨by simp [e], .inl (by simp [e, hp])⟩

end
end Sys2Proof.Machine
end

section
/-! Bank order and what a record may name: acknowledgements, replies and the step (O10). -/

namespace Sys2Proof.Machine

section
variable {s t : State}

/-! ### Placing orders leaves banks and circuits -/

/-- Neither a bank nor a circuit record differs. -/
def State.SamePatch (s t : State) : Prop := t.banks = s.banks ∧ t.circuits = s.circuits

theorem State.PatchOk.same (h : s.PatchOk) (hst : s.SamePatch t) : t.PatchOk := h.congr hst.1 hst.2

theorem State.setRow_patch (s : State) (l : LinkId) (r : Nat) (v : RackRow) : s.SamePatch (s.setRow l r v) :=
  ⟨by simp [State.setRow], by simp [State.setRow]⟩

theorem State.placeNext_patch (s : State) (l : LinkId) (r : Nat) : s.SamePatch (s.placeNext l r) := by
  rcases s.placeNext_cases l r with ⟨_, _, -, -, e⟩ | ⟨-, e⟩ <;> rw [e]
  · exact s.setRow_patch ..
  · exact ⟨rfl, rfl⟩

theorem State.oweUndo_patch (s : State) (l : LinkId) (r : Nat) (o : Order) : s.SamePatch (s.oweUndo l r o) := by
  unfold State.oweUndo
  split
  · split
    · exact s.setRow_patch ..
    · exact ⟨rfl, rfl⟩
  · exact s.setRow_patch ..

theorem State.windowSilent_patch (s : State) (l : LinkId) : s.SamePatch (s.windowSilent l) := by
  unfold State.windowSilent State.closeWindow
  split
  · exact ⟨rfl, rfl⟩
  · exact ⟨by simp [State.setRow], by simp [State.setRow]⟩

theorem State.placeAll_patch (s : State) (l : LinkId) : s.SamePatch (s.placeAll l) := by
  unfold State.placeAll
  generalize List.range' 1 16 = rs
  induction rs generalizing s with
  | nil => exact ⟨rfl, rfl⟩
  | cons r rs ih =>
    obtain ⟨h1, h2⟩ := s.placeNext_patch l r
    obtain ⟨h3, h4⟩ := ih (s.placeNext l r)
    exact ⟨h3.trans h1, h4.trans h2⟩

/-! ### The two rewritings -/

theorem PatchRec.ontoSpare_channel (failed spare : Nat) (r : PatchRec) : (r.ontoSpare failed spare).channel = r.channel := by
  unfold PatchRec.ontoSpare; split <;> rfl

theorem PatchRec.backTo_channel (failed spare : Nat) (r : PatchRec) : (r.backTo failed spare).channel = r.channel := by
  unfold PatchRec.backTo; split <;> rfl

theorem PatchRec.ontoSpare_circuit (failed spare : Nat) (r : PatchRec) :
    (r.ontoSpare failed spare).circuit = if r.circuit = failed then spare else r.circuit := by
  unfold PatchRec.ontoSpare; split <;> rfl

/-- A rewriting that keeps channels and different circuits different leaves every bank as it should be, where the rewritten records
may name their circuits as these now are. -/
theorem State.PatchOk.rewrite (h : s.PatchOk) {f : PatchRec → PatchRec}
    (ht : ∀ b, t.records b = sortRecs ((s.records b).map f)) (hch : ∀ r, (f r).channel = r.channel)
    (hinj : ∀ b, ∀ r ∈ s.records b, ∀ r' ∈ s.records b, (f r).circuit = (f r').circuit → r.circuit = r'.circuit)
    (hok : ∀ b, ∀ r ∈ s.records b, circuitOk (f r).circuit = true) (hn : ∀ b, ∀ r ∈ s.records b, t.NamesOk (f r)) :
    t.PatchOk := by
  rw [State.patchOk_iff]
  intro b
  rw [ht b]
  refine ⟨sorted_sortRecs ?_, fun x hx => ?_, fun x hx => ?_⟩
  · refine List.pairwise_map.mpr ((keys_of_sorted (h.sorted b)).imp_of_mem fun {r r'} hr hr' hk hab => hk ⟨?_, ?_⟩)
    · rw [← hch r, ← hch r']; exact hab.1
    · exact hinj b r' hr' r hr hab.2
  · obtain ⟨r, hr, rfl⟩ := List.mem_map.mp (mem_sortRecs.mp hx)
    exact ⟨hch r ▸ (h.ranges b r hr).1, hok b r hr⟩
  · obtain ⟨r, hr, rfl⟩ := List.mem_map.mp (mem_sortRecs.mp hx)
    exact hn b r hr

/-! ### The acknowledgement of a TRANSFER -/

/-- The circuits after the acknowledgement of a TRANSFER for a pairing ORDERED. -/
theorem State.circuit_ackTransfer {failed spare : Nat} (hne : failed ≠ spare)
    (hp : (s.circuit failed).pairing = .ordered spare) (n : Nat) :
    (s.ackTransfer failed spare).circuit n =
      if n = failed then { s.circuit failed with pairing := .confirmed spare }
      else if n = spare then { s.circuit spare with role := .spareInUse, pairing := .confirmed failed }
      else s.circuit n := by
  unfold State.ackTransfer
  simp only [hp, State.circuit_rewriteRecords, State.circuit_setCircuit, hne, if_false, eq_comm (b := n)]
  by_cases h1 : n = failed <;> by_cases h2 : n = spare <;> simp [h1, h2, hne, Ne.symm hne]

theorem State.records_ackTransfer (s : State) (failed spare b : Nat) :
    (s.ackTransfer failed spare).records b = sortRecs ((s.records b).map (PatchRec.ontoSpare failed spare)) := by
  unfold State.ackTransfer
  dsimp only
  split <;> simp

/-- No record uses a spare that is held, or free. -/
theorem State.PatchOk.spare_unused (h : s.PatchOk) {spare : Nat}
    (hs : (s.circuit spare).role = .spareHeld ∨ (s.circuit spare).role = .spareFree) {b : Nat} {r : PatchRec}
    (hr : r ∈ s.records b) : r.circuit ≠ spare := by
  rintro rfl
  obtain ⟨h1, h2, -⟩ := (h.names b r hr).not_idle
  exact hs.elim h2 h1

/-- No record uses a FAILED circuit whose load is on its spare. -/
theorem State.PatchOk.failed_unused (h : s.PatchOk) {failed m : Nat} (hf : (s.circuit failed).role = .failed)
    (hp : (s.circuit failed).pairing = .confirmed m ∨ (s.circuit failed).pairing = .restoring m) {b : Nat} {r : PatchRec}
    (hr : r ∈ s.records b) : r.circuit ≠ failed := by
  rintro rfl
  obtain ⟨h1, h2⟩ := (h.names b r hr).not_on_spare hf m
  exact hp.elim h1 h2

/-- Different circuits stay different under a move onto a spare that no record uses. -/
theorem PatchRec.ontoSpare_inj {failed spare : Nat} {r r' : PatchRec} (hr : r.circuit ≠ spare) (hr' : r'.circuit ≠ spare)
    (h : (r.ontoSpare failed spare).circuit = (r'.ontoSpare failed spare).circuit) : r.circuit = r'.circuit := by
  simp only [PatchRec.ontoSpare_circuit] at h
  split_ifs at h <;> omega

/-- The acknowledgement of a TRANSFER for a pairing ORDERED leaves every bank as it should be. -/
theorem State.PatchOk.ackTransfer (h : s.PatchOk) {failed spare : Nat} (hok : circuitOk spare = true)
    (hf : (s.circuit failed).role = .failed) (hp : (s.circuit failed).pairing = .ordered spare)
    (hs : (s.circuit spare).role = .spareHeld) : (s.ackTransfer failed spare).PatchOk := by
  have hne : failed ≠ spare := by rintro rfl; rw [hf] at hs; cases hs
  have unused {b : Nat} {r : PatchRec} (hr : r ∈ s.records b) : r.circuit ≠ spare := h.spare_unused (.inl hs) hr
  refine h.rewrite (s.records_ackTransfer failed spare) (PatchRec.ontoSpare_channel failed spare)
    (fun b r hr r' hr' => PatchRec.ontoSpare_inj (unused hr) (unused hr')) (fun b r hr => ?_) fun b r hr => ?_
  · rw [PatchRec.ontoSpare_circuit]
    split
    · exact hok
    · exact (h.ranges b r hr).2
  · unfold PatchRec.ontoSpare
    split
    · refine State.namesOk_some ?_ ?_ <;> rw [State.circuit_ackTransfer hne hp, if_neg (Ne.symm hne), if_pos rfl]
      rfl
    · rename_i e
      exact (h.names b r hr).congr (by rw [State.circuit_ackTransfer hne hp, if_neg e, if_neg (unused hr)])
        (by rw [State.circuit_ackTransfer hne hp, if_neg e, if_neg (unused hr)])

/-- The acknowledgement of a re-send moves nothing. -/
theorem State.PatchOk.ackResend (h : s.PatchOk) {failed spare : Nat} (hf : (s.circuit failed).role = .failed)
    (hp : (s.circuit failed).pairing = .confirmed spare) : (s.ackTransfer failed spare).PatchOk := by
  have fixed {b : Nat} {r : PatchRec} (hr : r ∈ s.records b) : r.ontoSpare failed spare = r :=
    if_neg (h.failed_unused hf (.inl hp) hr)
  have circuit (n : Nat) : ((s.ackTransfer failed spare).circuit n).role = (s.circuit n).role ∧
      ((s.ackTransfer failed spare).circuit n).pairing = (s.circuit n).pairing := by
    unfold State.ackTransfer
    simp only [hp, State.circuit_rewriteRecords, State.circuit_setCircuit]
    split
    · rename_i e; subst e; exact ⟨rfl, hp.symm ▸ rfl⟩
    · exact ⟨rfl, rfl⟩
  refine h.rewrite (s.records_ackTransfer failed spare) (PatchRec.ontoSpare_channel failed spare)
    (fun b r hr r' hr' e => ?_) (fun b r hr => ?_) fun b r hr => ?_
  · rwa [fixed hr, fixed hr'] at e
  · rw [fixed hr]; exact (h.ranges b r hr).2
  · rw [fixed hr]; exact (h.names b r hr).congr (circuit _).1 (circuit _).2

/-! ### The acknowledgement of an UNDO -/

theorem State.circuit_ackUndo {failed spare : Nat} (hne : failed ≠ spare) (n : Nat) :
    (s.ackUndo failed spare).circuit n =
      if n = failed then { s.circuit failed with role := .ordinary, health := .ok, pairing := .unpaired }
      else if n = spare then { s.circuit spare with role := .spareFree, pairing := .unpaired }
      else s.circuit n := by
  unfold State.ackUndo
  simp only [State.circuit_rewriteRecords, State.circuit_setCircuit, hne, if_false, eq_comm (b := n)]
  by_cases h1 : n = failed <;> by_cases h2 : n = spare <;> simp [h1, h2, hne, Ne.symm hne]

theorem State.records_ackUndo (s : State) (failed spare b : Nat) :
    (s.ackUndo failed spare).records b = sortRecs ((s.records b).map (PatchRec.backTo failed spare)) := by
  unfold State.ackUndo
  simp

/-- Every record of a spare in use stands for the circuit it is paired with. -/
theorem State.PatchOk.original_on_spare (h : s.PatchOk) {failed spare : Nat} (hs : (s.circuit spare).role = .spareInUse)
    (hq : (s.circuit spare).pairing.partner = some failed) {b : Nat} {r : PatchRec} (hr : r ∈ s.records b)
    (e : r.circuit = spare) : r.original = some failed := by
  subst e
  rcases (h.names b r hr).role with ⟨-, hrole⟩ | ⟨-, hrole, -⟩ | ⟨o, ho, -, hpart⟩
  · rw [hs] at hrole; cases hrole
  · rw [hs] at hrole; cases hrole
  · rw [ho, ← hq, hpart]

/-- A record is moved back exactly where it uses the spare. -/
theorem State.PatchOk.backTo_eq (h : s.PatchOk) {failed spare : Nat} (hs : (s.circuit spare).role = .spareInUse)
    (hq : (s.circuit spare).pairing.partner = some failed) {b : Nat} {r : PatchRec} (hr : r ∈ s.records b) :
    r.backTo failed spare = if r.circuit = spare then { r with circuit := failed, original := none } else r := by
  unfold PatchRec.backTo
  by_cases e : r.circuit = spare
  · simp [e, h.original_on_spare hs hq hr e]
  · simp [e]

/-- The acknowledgement of an UNDO leaves every bank as it should be. -/
theorem State.PatchOk.ackUndo (h : s.PatchOk) {failed spare : Nat} (hok : circuitOk failed = true)
    (hf : (s.circuit failed).role = .failed) (hp : (s.circuit failed).pairing = .restoring spare)
    (hs : (s.circuit spare).role = .spareInUse) (hq : (s.circuit spare).pairing.partner = some failed) :
    (s.ackUndo failed spare).PatchOk := by
  have hne : failed ≠ spare := by rintro rfl; rw [hf] at hs; cases hs
  have unused {b : Nat} {r : PatchRec} (hr : r ∈ s.records b) : r.circuit ≠ failed := h.failed_unused hf (.inr hp) hr
  refine h.rewrite (s.records_ackUndo failed spare) (PatchRec.backTo_channel failed spare)
    (fun b r hr r' hr' e => ?_) (fun b r hr => ?_) fun b r hr => ?_
  · have h1 := unused hr
    have h2 := unused hr'
    rw [h.backTo_eq hs hq hr, h.backTo_eq hs hq hr'] at e
    split_ifs at e <;> simp_all
  · rw [h.backTo_eq hs hq hr]
    split
    · exact hok
    · exact (h.ranges b r hr).2
  · rw [h.backTo_eq hs hq hr]
    split
    · exact State.namesOk_none (.inl (by rw [State.circuit_ackUndo hne, if_pos rfl]))
    · rename_i e
      exact (h.names b r hr).congr (by rw [State.circuit_ackUndo hne, if_neg (unused hr), if_neg e])
        (by rw [State.circuit_ackUndo hne, if_neg (unused hr), if_neg e])

/-! ### Replies -/

/-- Banks as they should be, and no ORDINARY circuit paired: what the stages of a READY reply keep. -/
structure State.PatchSound (s : State) : Prop where
  patch : s.PatchOk
  ordinary : ∀ n, circuitOk n = true → (s.circuit n).role = .ordinary → (s.circuit n).pairing = .unpaired

theorem State.PatchSound.same (h : s.PatchSound) (hst : s.SamePatch t) : t.PatchSound :=
  ⟨h.patch.same hst, fun n hn hr => by
    rw [State.circuit_congr hst.2] at hr ⊢
    exact h.ordinary n hn hr⟩

/-- One circuit written with its role and pairing as they were. -/
theorem State.PatchSound.setCircuit (h : s.PatchSound) (n : Nat) {v : Circuit} (hr : v.role = (s.circuit n).role)
    (hp : v.pairing = (s.circuit n).pairing) : (s.setCircuit n v).PatchSound := by
  refine ⟨h.patch.setCircuit_same n hr hp, fun m hm ho => ?_⟩
  rw [State.circuit_setCircuit] at ho ⊢
  split at ho
  · rename_i e
    subst e
    rw [if_pos rfl, hp]
    exact h.ordinary n hm (hr ▸ ho)
  · rename_i e
    rw [if_neg e]
    exact h.ordinary m hm ho

theorem State.PatchSound.pairUp (h : s.PatchSound) {failed spare : Nat} (hf : (s.circuit failed).role = .failed)
    (hs : (s.circuit spare).role = .spareFree) : (s.pairUp failed spare).PatchSound := by
  have hne : failed ≠ spare := by rintro rfl; rw [hf] at hs; cases hs
  refine ⟨h.patch.pairUp hf hs, fun m hm ho => ?_⟩
  rw [State.circuit_pairUp s hne] at ho ⊢
  split_ifs at ho ⊢
  · rw [hf] at ho; cases ho
  · exact h.ordinary m hm ho

/-- The failure of an ORDINARY circuit, with the choice of its spare. -/
theorem State.PatchSound.confirmFailure (h : s.PatchSound) {n : Nat} (hn : circuitOk n = true)
    (ho : (s.circuit n).role = .ordinary) : (s.confirmFailure n).PatchSound := by
  have hfail : (s.setCircuit n { s.circuit n with role := .failed, health := .failed }).PatchSound := by
    refine ⟨h.patch.fail ho (h.ordinary n hn ho), fun m hm hr => ?_⟩
    rw [State.circuit_setCircuit] at hr ⊢
    split at hr
    · cases hr
    · rename_i e; rw [if_neg e]; exact h.ordinary m hm hr
  unfold State.confirmFailure
  dsimp only
  have hrole : ((s.setCircuit n { s.circuit n with role := .failed, health := .failed }).circuit n).role = .failed := by simp
  generalize s.setCircuit n { s.circuit n with role := .failed, health := .failed } = u at hfail hrole ⊢
  split
  · unfold State.seekSpare
    split
    · rename_i spare hc
      split
      · refine hfail.pairUp hrole ?_
        have := List.find?_some hc
        simp only [Circuit.eligibleSpare, Bool.and_eq_true, beq_iff_eq] at this
        exact this.1
      · exact hfail.setCircuit n rfl rfl
    · exact hfail.setCircuit n rfl rfl
  · exact hfail

/-- A report changes neither role nor pairing. -/
theorem Circuit.report_fields (c : Circuit) (k : ReportKind) : (c.report k).role = c.role ∧ (c.report k).pairing = c.pairing := by
  unfold Circuit.report
  split
  · cases k <;> exact ⟨rfl, rfl⟩
  · exact ⟨rfl, rfl⟩

theorem State.PatchSound.takeReport {x : State × Bool} (h : x.1.PatchSound) (l : LinkId) (r : Nat) (p : Report) :
    (takeReport l r x p).1.PatchSound :=
  h.setCircuit _ (Circuit.report_fields ..).1 (Circuit.report_fields ..).2

theorem State.PatchSound.takeHealth {x : State × Bool} (h : x.1.PatchSound) {l : LinkId} {r : Nat} (hr : rackOk r = true)
    (ps : List Report) {i : Nat} (hi : 1 ≤ i ∧ i ≤ 32) : (takeHealth l r ps x i).1.PatchSound := by
  unfold Machine.takeHealth
  dsimp only
  split
  · split
    · exact h.setCircuit _ rfl rfl
    · exact h.confirmFailure (circuitAt_range l hr hi).1 ‹_›
    · exact h.setCircuit _ rfl rfl
    · exact h
  · exact h

/-- What the acknowledgement or the abandonment of a pending order needs of the rig: its pairing, at both ends. -/
structure State.PairingOf (s : State) (kind : OrderKind) (failed spare : Nat) : Prop where
  failedOk : circuitOk failed = true
  spareOk : circuitOk spare = true
  ne : failed ≠ spare
  role : (s.circuit failed).role = .failed
  ends : (kind = .transfer ∧ (s.circuit failed).pairing = .ordered spare ∧ (s.circuit spare).role = .spareHeld) ∨
    (kind = .transfer ∧ (s.circuit failed).pairing = .confirmed spare ∧ (s.circuit spare).role = .spareInUse ∧
      (s.circuit spare).pairing = .confirmed failed) ∨
    (kind = .undo ∧ (s.circuit failed).pairing = .restoring spare ∧ (s.circuit spare).role = .spareInUse ∧
      (s.circuit spare).pairing = .restoring failed)

theorem State.RigOk.pairingOf (h : s.RigOk) {l : LinkId} {r : Nat} (hr : rackOk r = true) {w : PendingOrder}
    (hw : (s.row l r).pendingOrder = some w) :
    s.PairingOf w.order.kind (circuitAt l r w.order.circuitIndex) (circuitAt l r w.order.spareIndex) := by
  obtain ⟨hok, hf, ⟨hk, hp⟩ | ⟨hk, hp⟩ | ⟨hk, hp⟩⟩ := h.pending hr hw <;>
    obtain ⟨hsok, hne, -, hrole, hpair⟩ := h.pair hok hf (by rw [hp]; rfl) <;> rw [hp] at hrole hpair
  · exact ⟨hok, hsok, hne, hf, .inl ⟨hk, hp, hrole⟩⟩
  · exact ⟨hok, hsok, hne, hf, .inr (.inl ⟨hk, hp, hrole, hpair⟩)⟩
  · exact ⟨hok, hsok, hne, hf, .inr (.inr ⟨hk, hp, hrole, hpair⟩)⟩

theorem State.PairingOf.congr {k : OrderKind} {failed spare : Nat} (h : s.PairingOf k failed spare)
    (hc : t.circuits = s.circuits) : t.PairingOf k failed spare := by
  have e := State.circuit_congr hc
  refine ⟨h.failedOk, h.spareOk, h.ne, by rw [e]; exact h.role, ?_⟩
  rw [e, e]
  exact h.ends

theorem State.PatchSound.acknowledge (h : s.PatchSound) {l : LinkId} {r : Nat} {o : Order}
    (hp : s.PairingOf o.kind (circuitAt l r o.circuitIndex) (circuitAt l r o.spareIndex)) :
    (s.acknowledge l r o).PatchSound := by
  unfold State.acknowledge
  dsimp only
  have h1 := h.same (s.setRow_patch l r { s.row l r with pendingOrder := none })
  have p1 := hp.congr (s.setRow_patch l r { s.row l r with pendingOrder := none }).2
  generalize circuitAt l r o.circuitIndex = failed at p1 ⊢
  generalize circuitAt l r o.spareIndex = spare at p1 ⊢
  change State.PatchSound (s.setPending l r none) at h1
  change State.PairingOf (s.setPending l r none) _ _ _ at p1
  generalize s.setPending l r none = u at h1 p1 ⊢
  obtain ⟨hfok, hsok, hne, hf, ends⟩ := p1
  refine State.PatchSound.same ?_ (State.placeNext_patch ..)
  rcases ends with ⟨hk, hpair, hs⟩ | ⟨hk, hpair, hs, hq⟩ | ⟨hk, hpair, hs, hq⟩ <;> rw [hk]
  · refine ⟨h1.patch.ackTransfer hsok hf hpair hs, fun n hn ho => ?_⟩
    simp only [State.circuit_ackTransfer hne hpair] at ho ⊢
    split_ifs at ho ⊢
    · rw [hf] at ho; cases ho
    · exact h1.ordinary n hn ho
  · refine ⟨h1.patch.ackResend hf hpair, fun n hn ho => ?_⟩
    unfold State.ackTransfer at ho ⊢
    simp only [hpair, State.circuit_rewriteRecords, State.circuit_setCircuit] at ho ⊢
    split_ifs at ho ⊢
    · rw [hf] at ho; cases ho
    · exact h1.ordinary n hn ho
  · refine ⟨h1.patch.ackUndo hfok hf hpair hs (by rw [hq]; rfl), fun n hn ho => ?_⟩
    simp only [State.circuit_ackUndo hne] at ho ⊢
    split_ifs at ho ⊢
    · rfl
    · exact h1.ordinary n hn ho

/-- A FAILED circuit and its spare written with what an abandoned order leaves of their pairing. -/
theorem State.PatchSound.setPair (h : s.PatchSound) {failed spare : Nat} {c d : Circuit} (hc : c.role = .failed) (hd : d.role ≠ .ordinary)
    (hn : ∀ b, ∀ r ∈ s.records b, s.NamesOk r → r.circuit = failed ∨ r.circuit = spare →
      ((s.setCircuit failed c).setCircuit spare d).NamesOk r) : ((s.setCircuit failed c).setCircuit spare d).PatchSound := by
  have circuit (n : Nat) : ((s.setCircuit failed c).setCircuit spare d).circuit n =
      if spare = n then d else if failed = n then c else s.circuit n := by simp
  refine ⟨h.patch.of_records (fun _ => rfl) fun b r hmem hok => ?_, fun n hn' ho => ?_⟩
  · by_cases e : r.circuit = failed ∨ r.circuit = spare
    · exact hn b r hmem hok e
    · rw [not_or] at e
      exact hok.congr (by rw [circuit, if_neg (Ne.symm e.2), if_neg (Ne.symm e.1)])
        (by rw [circuit, if_neg (Ne.symm e.2), if_neg (Ne.symm e.1)])
  · rw [circuit] at ho ⊢
    split_ifs at ho ⊢
    · exact (hd ho).elim
    · rw [hc] at ho; cases ho
    · exact h.ordinary n hn' ho

theorem State.PatchSound.abandon (h : s.PatchSound) {l : LinkId} {r : Nat} {o : Order}
    (hp : s.PairingOf o.kind (circuitAt l r o.circuitIndex) (circuitAt l r o.spareIndex)) : (s.abandon l r o).PatchSound := by
  unfold State.abandon
  dsimp only
  have h1 := h.same (s.setRow_patch l r { s.row l r with pendingOrder := none, abandonedNotice := true })
  have p1 := hp.congr (s.setRow_patch l r { s.row l r with pendingOrder := none, abandonedNotice := true }).2
  generalize circuitAt l r o.circuitIndex = failed at p1 ⊢
  generalize circuitAt l r o.spareIndex = spare at p1 ⊢
  generalize s.setRow l r { s.row l r with pendingOrder := none, abandonedNotice := true } = u at h1 p1 ⊢
  obtain ⟨-, -, hne, hf, ends⟩ := p1
  refine State.PatchSound.same ?_ (State.placeNext_patch ..)
  rcases ends with ⟨hk, hpair, hs⟩ | ⟨hk, hpair, hs, hq⟩ | ⟨hk, hpair, hs, hq⟩ <;> rw [hk] <;>
    simp only [State.revertPairing, hpair, State.circuit_setCircuit, if_neg hne]
  · refine h1.setPair hf nofun fun b x hmem hok hx => ?_
    have hx : x.circuit = failed := hx.resolve_right (h1.patch.spare_unused (.inl hs) hmem)
    have ho : x.original = none := by
      rcases hok.role with ⟨ho, -⟩ | ⟨ho, -⟩ | ⟨_, -, hr, -⟩
      · exact ho
      · exact ho
      · rw [hx, hf] at hr; cases hr
    unfold State.NamesOk
    rw [ho, hx]
    exact .inr ⟨by simp [Ne.symm hne, hf], .inl (by simp [Ne.symm hne])⟩
  · exact h1.setCircuit failed rfl hpair.symm
  · refine h1.setPair hf (by rw [hs]; nofun) fun b x hmem hok hx => ?_
    have hx : x.circuit = spare := hx.resolve_left (h1.patch.failed_unused hf (.inr hpair) hmem)
    have ho := h1.patch.original_on_spare hs (by rw [hq]; rfl) hmem hx
    unfold State.NamesOk
    rw [ho, hx]
    exact ⟨by simp [hs], by simp [Pairing.partner]⟩

theorem State.PatchSound.takeAck (h : s.PatchSound) {l : LinkId} {r : Nat}
    (hp : ∀ w, (s.row l r).pendingOrder = some w →
      s.PairingOf w.order.kind (circuitAt l r w.order.circuitIndex) (circuitAt l r w.order.spareIndex))
    (c a : Option Order) : (s.takeAck l r c a).1.PatchSound := by
  unfold State.takeAck
  split
  · exact h
  · rename_i w hw
    split
    · split
      · exact h.acknowledge (hp w hw)
      · split
        · exact h.same (s.setRow_patch ..)
        · exact h.abandon (hp w hw)
    · exact h

/-- A fold keeps soundness when every step on a listed element does. -/
theorem State.PatchSound.foldl {α β : Type} {f : State × β → α → State × β} (xs : List α)
    (hf : ∀ (x : State × β), ∀ a ∈ xs, x.1.PatchSound → (f x a).1.PatchSound) {x : State × β} (h : x.1.PatchSound) :
    (xs.foldl f x).1.PatchSound := by
  induction xs generalizing x with
  | nil => exact h
  | cons a xs ih => exact ih (fun y b hb => hf y b (List.mem_cons_of_mem _ hb)) (hf x a List.mem_cons_self h)

theorem State.PatchSound.takeReady (h : s.PatchSound) {l : LinkId} {r : Nat} (hr : rackOk r = true)
    (hp : ∀ w, (s.row l r).pendingOrder = some w →
      s.PairingOf w.order.kind (circuitAt l r w.order.circuitIndex) (circuitAt l r w.order.spareIndex))
    (c : Option Order) (y : ReplyFrame) : (s.takeReady l r c y).PatchSound := by
  unfold State.takeReady
  dsimp only
  have hrow := s.setRow_patch l r { (s.row l r).readyReply with thermal := y.thermal }
  have hpend : ∀ w, ((s.setRow l r { (s.row l r).readyReply with thermal := y.thermal }).row l r).pendingOrder = some w →
      State.PairingOf (s.setRow l r { (s.row l r).readyReply with thermal := y.thermal }) w.order.kind
        (circuitAt l r w.order.circuitIndex) (circuitAt l r w.order.spareIndex) := by
    intro w hw
    rw [State.row_setRow, if_pos ⟨rfl, rfl⟩] at hw
    exact (hp w hw).congr hrow.2
  have h2 := (h.same hrow).takeAck hpend c y.ack
  generalize (s.setRow l r { (s.row l r).readyReply with thermal := y.thermal }).takeAck l r c y.ack = x at h2 ⊢
  have h3 := State.PatchSound.foldl (f := Machine.takeReport l r) y.reports (fun _ p _ hx => hx.takeReport l r p) (x := (x.1, false)) h2
  refine State.PatchSound.same (State.PatchSound.foldl (f := Machine.takeHealth l r y.reports) (List.range' 1 32)
    (fun _ i hi hx => hx.takeHealth hr y.reports ?_) (x := (_, false)) h3) (State.setRow_patch ..)
  have := List.mem_range'_1.mp hi
  omega

theorem State.RigOk.patchSound (hrig : s.RigOk) (h : s.PatchOk) : s.PatchSound := ⟨h, fun n hn ho => hrig.unpaired n hn (.inl ho)⟩

/-! ### Commands -/

/-- A circuit edit leaves every bank as it should be. -/
theorem State.PatchOk.circuitEdit (h : s.PatchOk) (hrig : s.RigOk) (e : s.CircuitEdit t) : t.PatchOk := by
  cases e with
  | set x _ hr => exact h.circuitSet x hr
  | clearFaults ck => exact h.setCircuit_same ck rfl rfl
  | clearAll =>
    have circuit (n : Nat) : (s.mapCircuits Circuit.clearFaults).circuit n = (s.circuit n).clearFaults :=
      Tbl.get_mapVals Circuit.initial (fun _ => Circuit.clearFaults) s.circuits n rfl
    exact h.of_roles rfl (fun n => by rw [circuit]; rfl) fun n => by rw [circuit]; rfl
  | acknowledge =>
    have circuit (n : Nat) : s.acknowledgeAll.circuit n = (s.circuit n).ackMarks :=
      Tbl.get_mapVals Circuit.initial (fun _ => Circuit.ackMarks) s.circuits n rfl
    exact h.of_roles rfl (fun n => by rw [circuit]; rfl) fun n => by rw [circuit]; rfl
  | @reassign ck sp u hck _ free _ hu =>
    rcases hu with ⟨ho, rfl⟩ | ⟨hf, -, rfl⟩
    · have hne : ck ≠ sp := by rintro rfl; rw [ho] at free; cases free
      exact (h.fail ho (hrig.unpaired ck hck (.inl ho))).pairUp (by simp) (by simp [hne, free])
    · exact h.pairUp hf free
  | @restore ck sp u hck hf hp hu =>
    subst hu
    obtain ⟨-, hne, -, hrole, hpair⟩ := hrig.pair hck hf (by rw [hp]; rfl)
    rw [hp] at hrole hpair
    refine State.PatchOk.same ?_ (State.oweUndo_patch ..)
    refine ((hrig.patchSound h).setPair ?_ ?_ fun b r hmem hok hr => ?_).patch
    · exact hf
    · rw [State.circuit_setCircuit, if_neg hne, hrole]; nofun
    · have hr : r.circuit = sp := hr.resolve_left (h.failed_unused hf (.inl hp) hmem)
      have ho := h.original_on_spare hrole (by rw [hpair]; rfl) hmem hr
      unfold State.NamesOk
      rw [ho, hr]
      exact ⟨by simp [hne, hrole, Pairing.spareRole], by simp [Pairing.partner]⟩

/-- What a request performs leaves every bank as it should be. -/
theorem State.PatchOk.perform (h : s.PatchOk) (hrig : s.RigOk) (code : ReqCode) (ps : List Byte) :
    (code.perform ps s).1.PatchOk := by
  rcases perform_grants code ps s with e | ⟨-, e⟩
  · rw [e]; exact h
  · cases e with
    | bank e => exact h.bankEdit hrig e
    | circuit e => exact h.circuitEdit hrig e
    | apart e => exact h.congr e.1 e.2.1
    | switch _ _ hb hk => exact h.congr hb hk

/-- The records of a load's data frame leave every bank as it should be. -/
theorem State.PatchOk.loadFrame (h : s.PatchOk) (hrig : s.RigOk) (tr : LoadTransfer) (data : List Byte) :
    (loadFrame s tr data).1.PatchOk := by
  have fold (rs : List (Nat × Nat × Nat)) : ∀ x : State × LoadTransfer, x.1.PatchOk → x.1.RigOk →
      (rs.foldl loadRecord x).1.PatchOk := by
    induction rs with
    | nil => exact fun _ hx _ => hx
    | cons r rs ih =>
      intro x hx hr
      have hf := loadRecord_frame x r
      refine ih (loadRecord x r) ?_ (hr.congr (by rw [hf]) (by rw [hf]))
      unfold loadRecord
      dsimp only
      split
      · exact hx
      · rename_i hb
        obtain ⟨hrange, -⟩ := State.editable_of_refusal hb
        rw [Bool.and_eq_true] at hrange
        split
        · exact hx
        · exact hx.storeRecord hr hrange.1 hrange.2 ‹_›
  unfold Machine.loadFrame
  split
  · exact h
  · exact fold _ (s, tr) h hrig

/-- A delivery leaves every bank as it should be, and the rig as it was. -/
theorem State.PatchOk.deliver (h : s.PatchOk) (hrig : s.RigOk) (p : Port) (tr : Transfer) (data : List Byte) :
    (s.deliver p tr data).RigOk ∧ (s.deliver p tr data).PatchOk := by
  have hf := (s.deliver_delivery p tr data).1
  refine ⟨hrig.congr (by rw [hf]) (by rw [hf]), ?_⟩
  have ports {u v : State} (huv : u.SameButPorts v) : u.PatchOk → v.PatchOk := State.patchOk_portFree u v huv.lines
  unfold State.deliver
  split
  · dsimp only
    split
    · rw [State.closeFull_eq]; exact ports (State.setPort_same ..) (h.loadFrame hrig _ data)
    · exact ports (State.setPort_same ..) (h.loadFrame hrig _ data)
  · dsimp only
    split
    · rw [State.closeFull_eq]
      refine ports (State.setPort_same ..) ?_
      unfold decideWrite
      split
      · exact h
      · split
        · exact h
        · split
          · exact h.setBank _ (h.records _)
          · exact h
    · exact ports (s.setPort_same ..) h

/-- Power-on keeps the records with retention, and leaves none without. -/
theorem State.PatchOk.powerOn (h : s.PatchOk) {x y : Bool} (hx : exec (.powerOn x y) s = .next t) : t.PatchOk := by
  rcases exec_powerOn_cases hx with ⟨-, e⟩ | ⟨-, e⟩ <;> rw [e]
  · exact State.patchOk_iff.mpr fun _ => State.RecordsOk.nil
  · have hkept : s.powerOnRetained.PatchOk := by
      have circuit (n : Nat) : s.powerOnRetained.circuit n = (s.circuit n).powerOn :=
        Tbl.get_mapVals Circuit.initial (fun _ => Circuit.powerOn) s.circuits n rfl
      have bank (b : Nat) : s.powerOnRetained.bank b = { s.bank b with locked := true } :=
        Tbl.get_mapVals Bank.initial (fun _ b => { b with locked := true }) s.banks b rfl
      exact h.of_records (fun b => by rw [State.records, bank]; rfl) fun b r _ hr =>
        hr.congr (by rw [circuit]; rfl) (by rw [circuit]; rfl)
    exact (((hkept.same (State.placeAll_patch _ .a)).same (State.placeAll_patch _ .b)).same (State.placeAll_patch _ .c)).same
      (State.placeAll_patch _ .d)

theorem State.PatchOk.replyArrival (h : s.PatchOk) (hrig : s.RigOk) {l : LinkId} {bytes : List Byte}
    (hx : Machine.exec (.replyArrival l bytes) s = .next t) : t.PatchOk := by
  have hclose : s.SamePatch (s.closeWindow l) := ⟨by simp [State.closeWindow], by simp [State.closeWindow]⟩
  rcases exec_replyArrival_cases hx with e | e | ⟨r, hw, ⟨y, e⟩ | e⟩ <;> rw [e]
  · exact h
  · exact h.same (s.windowSilent_patch l)
  · have hr := hrig.window_rack hw
    refine (((hrig.patchSound h).same hclose).takeReady hr (fun w hpend => ?_) _ y).patch
    refine (hrig.pairingOf hr ?_).congr hclose.2
    rw [← hpend]
    simp [State.closeWindow, State.row, Link.row]
  · exact (h.same hclose).same (State.setRow_patch ..)

/-- Every command leaves every bank as it should be. -/
theorem State.PatchOk.exec (h : s.PatchOk) (hrig : s.RigOk) {c : Instr} (hx : exec c s = .next t) : t.PatchOk := by
  have free : PortFree fun u => u.RigOk ∧ u.PatchOk := fun u v huv hu =>
    ⟨hu.1.congr huv.circuits huv.links, State.patchOk_portFree u v huv hu.2⟩
  apply exec_cases hx State.patchOk_portFree h
  case request =>
    intro code p r u _ _ _ hu
    obtain ⟨h1, h2⟩ := free s u hu.lines ⟨hrig, h⟩
    exact h2.perform h1 code r.params
  case heldClear =>
    intro ps u hu
    obtain ⟨h1, h2⟩ := free s u hu.lines ⟨hrig, h⟩
    exact h2.perform h1 .deskClear ps
  case dataFrame =>
    exact fun p xs => (onFrame_takeData free.setPort (fun u p tr d _ hu => hu.2.deliver hu.1 p tr d) ⟨hrig, h⟩ p xs).2
  case heldData =>
    exact fun p => (deliverHeld_keeps free.setPort (fun u p tr d _ hu => hu.2.deliver hu.1 p tr d) ⟨hrig, h⟩ p).2
  case power => rintro x y rfl; exact h.powerOn hx
  case switch => exact fun _ _ => h.congr rfl rfl
  case fade =>
    have := s.fadeTick_only
    exact h.congr (by rw [State.setChangeover_banks, this]) (by rw [State.setChangeover_circuits, this])
  case frameDue =>
    exact fun l => (h.same (s.windowSilent_patch l)).congr (by simp [State.framed]) (by simp [State.framed])
  case pollEnd => exact fun l r => h.congr (by simp) (by simp)
  case expiry => exact fun l => h.same (s.windowSilent_patch l)
  case reply => rintro l bytes rfl; exact h.replyArrival hrig hx

end

/-- Settles O10: on the pairings of the rig, every edit and every acknowledgement leaves records in bank order that name what they
may. -/
theorem patch_relations_kept : Obligations.Patch_relations_kept := by
  intro s t _ hrig h hx
  rcases step_cases hx with rfl | ⟨c, rest, -, hx⟩
  · exact h
  · exact (h.congr (t := { s with pending := rest }) rfl rfl).exec (hrig.congr rfl rfl) hx

end Sys2Proof.Machine
end

section
/-! The limits of the patch table and of the look store are kept by every step (O11). -/

namespace Sys2Proof

/-! ### Sums over a table -/

section
variable {α : Type} (m : α → Nat)

/-- The sum of a measure over what is listed. -/
def Tbl.sum (t : Tbl α) : Nat := (t.map fun e => m e.2).sum

@[simp] theorem Tbl.sum_nil : Tbl.sum m [] = 0 := rfl
@[simp] theorem Tbl.sum_cons (e : Nat × α) (t : Tbl α) : Tbl.sum m (e :: t) = m e.2 + Tbl.sum m t := rfl

theorem Tbl.sum_insert (t : Tbl α) (k : Nat) (v : α) : (t.insert k v).sum m = t.sum m + m v := by
  induction t with
  | nil => simp [Tbl.insert]
  | cons e t ih =>
    obtain ⟨n, w⟩ := e
    unfold Tbl.insert
    split
    · simp only [Tbl.sum_cons]; omega
    · simp only [Tbl.sum_cons, ih]; omega

theorem Tbl.get_of_absent (d : α) {t : Tbl α} {k : Nat} (h : ∀ e ∈ t, e.1 ≠ k) : t.get d k = d := by
  rcases Tbl.get_cases d t k with e | e
  · exact e
  · exact (h _ e rfl).elim

theorem Tbl.erase_of_absent {t : Tbl α} {k : Nat} (h : ∀ e ∈ t, e.1 ≠ k) : t.erase k = t := by
  unfold Tbl.erase
  rw [List.filter_eq_self]
  simpa using h

/-- Taking a number out of a listing takes its measure out of the sum. -/
theorem Tbl.sum_erase {d : α} (hd : m d = 0) {t : Tbl α} (ht : t.Pairwise fun e e' => e.1 < e'.1) (k : Nat) :
    (t.erase k).sum m + m (t.get d k) = t.sum m := by
  induction t with
  | nil => simp [Tbl.erase, Tbl.get, hd]
  | cons e t ih =>
    obtain ⟨n, w⟩ := e
    rw [List.pairwise_cons] at ht
    by_cases hn : n = k
    · subst hn
      have habsent : ∀ e ∈ t, e.1 ≠ n := fun e he => Nat.ne_of_gt (ht.1 e he)
      have := Tbl.erase_of_absent habsent
      simp only [Tbl.erase, ne_eq, List.filter_cons, Tbl.get, Tbl.sum_cons] at this ⊢
      simp only [not_true, decide_false, Bool.false_eq_true, if_false, if_true, this]
      omega
    · have := ih ht.2
      simp only [Tbl.erase, ne_eq, List.filter_cons, Tbl.get, Tbl.sum_cons, hn, not_false_eq_true, decide_true, if_true,
        if_false] at this ⊢
      omega

/-- A write puts the measure of what is written in place of that of what stood there. -/
theorem Tbl.sum_set [DecidableEq α] {d : α} (hd : m d = 0) {t : Tbl α} (ht : t.Canonical d) (k : Nat) (v : α) :
    (t.set d k v).sum m + m (t.get d k) = t.sum m + m v := by
  have he := Tbl.sum_erase m hd ht.1 k
  unfold Tbl.set
  split
  · rename_i hv; rw [hv, hd]; omega
  · rw [Tbl.sum_insert]; omega

/-- The canonical listing has the same sum. -/
theorem Tbl.sum_canon [DecidableEq α] {d : α} (hd : m d = 0) {t : Tbl α} (ht : t.Pairwise fun e e' => e.1 < e'.1) :
    (t.canon d).sum m = t.sum m := by
  induction t with
  | nil => rfl
  | cons e t ih =>
    obtain ⟨n, w⟩ := e
    rw [List.pairwise_cons] at ht
    have hs := Tbl.sum_set m hd (Tbl.canonical_canon d t) n w
    rw [Tbl.get_canon, Tbl.get_of_absent d fun e he => Nat.ne_of_gt (ht.1 e he), hd, ih ht.2] at hs
    simp only [Tbl.canon, Tbl.sum_cons]
    omega

/-- A change of every value that keeps each one's measure keeps the sum. -/
theorem Tbl.sum_mapVals [DecidableEq α] {d : α} (hd : m d = 0) {t : Tbl α} (ht : t.Canonical d) {f : Nat → α → α}
    (hf : ∀ k v, m (f k v) = m v) : (t.mapVals d f).sum m = t.sum m := by
  unfold Tbl.mapVals
  rw [Tbl.sum_canon m hd (t := t.map fun e => (e.1, f e.1 e.2)) (List.pairwise_map.mpr ht.1)]
  simp [Tbl.sum, hf, Function.comp_def]

/-- What stands at a number counts in the sum. -/
theorem Tbl.get_le_sum {d : α} (hd : m d = 0) (t : Tbl α) (k : Nat) : m (t.get d k) ≤ t.sum m := by
  rcases Tbl.get_cases d t k with e | e
  · rw [e, hd]; exact Nat.zero_le _
  · exact List.le_sum_of_mem (List.mem_map.mpr ⟨_, e, rfl⟩)

end

/-- In a table whose unlisted numbers hold nothing the length counts what is held. -/
theorem Tbl.length_eq_sum {β : Type} [DecidableEq β] {t : Tbl (Option β)} (ht : Tbl.Canonical none t) :
    t.length = t.sum fun v => if v.isSome then 1 else 0 := by
  have h := ht.2
  clear ht
  induction t with
  | nil => rfl
  | cons e t ih =>
    have he : e.2.isSome = true := Option.isSome_iff_ne_none.mpr (h e List.mem_cons_self)
    rw [Tbl.sum_cons, List.length_cons, ih fun e he => h e (List.mem_cons_of_mem _ he), if_pos he, Nat.add_comm]

end Sys2Proof

namespace Sys2Proof.Machine

section
variable {s t : State}

/-! ### The counts -/

theorem State.poolCount_eq (s : State) : s.poolCount = s.banks.sum fun b => b.records.length := rfl
theorem State.lookHeadersUsed_eq (s : State) : s.lookHeadersUsed = s.banks.sum fun b => b.looks.length := rfl
theorem State.lookEntriesUsed_eq (s : State) : s.lookEntriesUsed = s.banks.sum fun b => b.looks.sum lookSize := rfl

/-- The counts after the writing of one bank. -/
theorem State.Canonical.counts_setBank (h : s.Canonical) (b : Nat) (v : Bank) :
    (s.setBank b v).poolCount + (s.records b).length = s.poolCount + v.records.length ∧
    (s.setBank b v).lookHeadersUsed + (s.bank b).looks.length = s.lookHeadersUsed + v.looks.length ∧
    (s.setBank b v).lookEntriesUsed + (s.bank b).looks.sum lookSize = s.lookEntriesUsed + v.looks.sum lookSize :=
  ⟨Tbl.sum_set (fun b : Bank => b.records.length) rfl h.banks b v, Tbl.sum_set (fun b : Bank => b.looks.length) rfl h.banks b v,
    Tbl.sum_set (fun b : Bank => b.looks.sum lookSize) rfl h.banks b v⟩

/-- The look store's counts after the writing of one look. -/
theorem State.Canonical.counts_setLook (h : s.Canonical) (b n : Nat) (v : Option Look) :
    (s.setLook b n v).lookHeadersUsed + (if (s.look b n).isSome then 1 else 0) =
      s.lookHeadersUsed + (if v.isSome then 1 else 0) ∧
    (s.setLook b n v).lookEntriesUsed + lookSize (s.look b n) = s.lookEntriesUsed + lookSize v ∧
    (s.setLook b n v).poolCount = s.poolCount := by
  have hlooks := h.bank_looks b
  obtain ⟨hp, hh, he⟩ := h.counts_setBank b { s.bank b with looks := (s.bank b).looks.set none n v }
  have hlen := Tbl.sum_set (fun v : Option Look => if v.isSome then 1 else 0) rfl hlooks n v
  have hent := Tbl.sum_set lookSize rfl hlooks n v
  rw [← Tbl.length_eq_sum (hlooks.set n v), ← Tbl.length_eq_sum hlooks] at hlen
  change (s.setLook b n v).poolCount + _ = _ at hp
  change (s.setLook b n v).lookHeadersUsed + _ = _ at hh
  change (s.setLook b n v).lookEntriesUsed + _ = _ at he
  simp only [State.records] at hp hh he
  unfold State.look
  refine ⟨?_, ?_, ?_⟩ <;> omega

/-- The counts after a change of every bank that keeps each one's sizes. -/
theorem State.Canonical.counts_mapVals (h : s.Canonical) {f : Nat → Bank → Bank}
    (hr : ∀ k v, (f k v).records.length = v.records.length) (hl : ∀ k v, (f k v).looks = v.looks)
    (ht : t.banks = s.banks.mapVals Bank.initial f) :
    t.poolCount = s.poolCount ∧ t.lookHeadersUsed = s.lookHeadersUsed ∧ t.lookEntriesUsed = s.lookEntriesUsed := by
  simp only [State.poolCount_eq, State.lookHeadersUsed_eq, State.lookEntriesUsed_eq, ht]
  exact ⟨Tbl.sum_mapVals (fun b : Bank => b.records.length) rfl h.banks hr,
    Tbl.sum_mapVals (fun b : Bank => b.looks.length) rfl h.banks fun k v => by rw [hl],
    Tbl.sum_mapVals (fun b : Bank => b.looks.sum lookSize) rfl h.banks fun k v => by rw [hl]⟩

/-! ### One bank's limits -/

/-- What one bank's records may come to (R5, R7). -/
structure RecordsFit (rs : List PatchRec) : Prop where
  bank : rs.length ≤ Config.bankRecords
  channel : ∀ ch, (rs.countP fun r => r.channel == ch) ≤ Config.channelRecords
  circuit : ∀ ck, (rs.countP fun r => r.circuit == ck) ≤ Config.circuitRecords

theorem State.WithinLimits.fit (h : s.WithinLimits) (b : Nat) : RecordsFit (s.records b) := ⟨h.bank b, h.channel b, h.circuit b⟩

theorem RecordsFit.nil : RecordsFit [] := ⟨Nat.zero_le _, fun _ => Nat.zero_le _, fun _ => Nat.zero_le _⟩

theorem RecordsFit.sublist {rs rs' : List PatchRec} (h : RecordsFit rs) (hs : rs'.Sublist rs) : RecordsFit rs' :=
  ⟨hs.length_le.trans h.bank, fun ch => (hs.countP_le).trans (h.channel ch), fun ck => (hs.countP_le).trans (h.circuit ck)⟩

theorem RecordsFit.perm {rs rs' : List PatchRec} (h : RecordsFit rs) (hp : rs'.Perm rs) : RecordsFit rs' :=
  ⟨hp.length_eq ▸ h.bank, fun ch => hp.countP_eq _ ▸ h.channel ch, fun ck => hp.countP_eq _ ▸ h.circuit ck⟩

/-- Records rewritten with channels kept and different circuits kept different. -/
theorem RecordsFit.map {rs : List PatchRec} (h : RecordsFit rs) {f : PatchRec → PatchRec}
    (hch : ∀ r, (f r).channel = r.channel)
    (hinj : ∀ r ∈ rs, ∀ r' ∈ rs, (f r).circuit = (f r').circuit → r.circuit = r'.circuit) : RecordsFit (rs.map f) := by
  refine ⟨by simpa using h.bank, fun ch => ?_, fun ck => ?_⟩
  · simpa [List.countP_map, Function.comp_def, hch] using h.channel ch
  · rw [List.countP_map]
    by_cases hck : ∃ r ∈ rs, (f r).circuit = ck
    · obtain ⟨r, hr, rfl⟩ := hck
      refine (List.countP_mono_left fun x hx e => ?_).trans (h.circuit r.circuit)
      simp only [Function.comp_apply, beq_iff_eq] at e ⊢
      exact hinj x hx r hr e
    · rw [List.countP_eq_zero.mpr fun x hx e => hck ⟨x, hx, by simpa using e⟩]
      exact Nat.zero_le _

theorem RecordsFit.replaceRec {rs : List PatchRec} (h : RecordsFit rs) (ch ck prop : Nat) :
    RecordsFit (replaceRec rs ch ck prop) := by
  refine h.map (fun r => ?_) fun r _ r' _ e => ?_
  · split <;> rfl
  · split at e <;> split at e <;> exact e

/-- A record for which the bank has room joins within the limits. -/
theorem State.WithinLimits.insertRec (h : s.WithinLimits) {b ch ck : Nat} (hroom : s.hasRoom b ch ck = true) (prop : Nat)
    (orig : Option Nat) : RecordsFit (insertRec ⟨ch, ck, prop, orig⟩ (s.records b)) ∧ s.poolCount < Config.poolRecords := by
  unfold State.hasRoom at hroom
  simp only [Bool.and_eq_true, decide_eq_true_eq] at hroom
  obtain ⟨⟨⟨hbank, hpool⟩, hchan⟩, hcirc⟩ := hroom
  refine ⟨RecordsFit.perm ⟨?_, fun c => ?_, fun c => ?_⟩ (perm_insertRec _ _), hpool⟩
  · simpa using hbank
  · rw [List.countP_cons]
    by_cases e : ch = c
    · subst e; simpa using hchan
    · simpa [e] using h.channel b c
  · rw [List.countP_cons]
    by_cases e : ck = c
    · subst e; simpa using hcirc
    · simpa [e] using h.circuit b c

/-! ### Writes -/

/-- The limits are of the banks alone. -/
theorem State.WithinLimits.congr (h : s.WithinLimits) (hb : t.banks = s.banks) : t.WithinLimits := by
  obtain ⟨⟩ := t
  obtain ⟨⟩ := s
  cases hb
  exact { h with }

theorem State.withinLimits_portFree : PortFree State.WithinLimits := fun _ _ huv hu => hu.congr huv.banks

/-- One bank written: its records fit, the pool holds them, and its looks take no more than before. -/
theorem State.WithinLimits.setBank (h : s.WithinLimits) (hc : s.Canonical) (b : Nat) {v : Bank} (hfit : RecordsFit v.records)
    (hpool : s.poolCount - (s.records b).length + v.records.length ≤ Config.poolRecords)
    (hlooks : v.looks = (s.bank b).looks ∨ v.looks = []) : (s.setBank b v).WithinLimits := by
  obtain ⟨hp, hh, he⟩ := hc.counts_setBank b v
  have h1 := h.headers
  have h2 := h.entries
  have hrec (b' : Nat) : RecordsFit ((s.setBank b v).records b') := by
    rw [State.records_setBank]
    split
    · exact hfit
    · exact h.fit b'
  refine ⟨by omega, fun b' => (hrec b').bank, fun b' => (hrec b').channel, fun b' => (hrec b').circuit, ?_, ?_⟩ <;>
    rcases hlooks with e | e <;> rw [e] at hh he
  case refine_1.inr => rw [List.length_nil] at hh; omega
  case refine_2.inr => rw [Tbl.sum_nil] at he; omega
  all_goals omega

theorem State.WithinLimits.setRecords (h : s.WithinLimits) (hc : s.Canonical) (b : Nat) {rs : List PatchRec}
    (hfit : RecordsFit rs) (hpool : s.poolCount - (s.records b).length + rs.length ≤ Config.poolRecords) :
    (s.setRecords b rs).WithinLimits := h.setBank hc b (v := { s.bank b with records := rs }) hfit hpool (.inl rfl)

/-- A bank's records are part of the pool's count. -/
theorem State.records_le_pool (s : State) (b : Nat) : (s.records b).length ≤ s.poolCount :=
  Tbl.get_le_sum (fun b : Bank => b.records.length) rfl s.banks b

/-- No more records in the bank than before. -/
theorem State.WithinLimits.setFewer (h : s.WithinLimits) (hc : s.Canonical) (b : Nat) {rs : List PatchRec}
    (hfit : RecordsFit rs) (hlen : rs.length ≤ (s.records b).length) : (s.setRecords b rs).WithinLimits := by
  have := h.pool
  have := s.records_le_pool b
  exact h.setRecords hc b hfit (by omega)

theorem State.WithinLimits.storeRecord (h : s.WithinLimits) (hc : s.Canonical) {b ch ck prop n : Nat} {r : PatchRec}
    (e : s.storeRecord b ch ck prop = .ok (t, r, n)) : t.WithinLimits := by
  obtain ⟨used, orig, -, ⟨_, -, rfl, -⟩ | ⟨-, hroom, rfl, -⟩⟩ := s.storeRecord_ok e
  · exact h.setFewer hc b ((h.fit b).replaceRec ..) (by simp)
  · obtain ⟨hfit, hpool⟩ := h.insertRec hroom prop orig
    refine h.setRecords hc b hfit ?_
    have := s.records_le_pool b
    rw [length_insertRec]
    omega

/-- A look within the store's room is stored within its limits, and a look is deleted within them. -/
theorem State.WithinLimits.setLook (h : s.WithinLimits) (hc : s.Canonical) (b n : Nat) (v : Option Look)
    (hv : ∀ l, v = some l → s.lookFits b n l.entries.length = true) : (s.setLook b n v).WithinLimits := by
  obtain ⟨hh, he, hp⟩ := hc.counts_setLook b n v
  have h1 := h.headers
  have h2 := h.entries
  have hold : lookSize (s.look b n) ≤ s.lookEntriesUsed :=
    (Tbl.get_le_sum lookSize rfl (s.bank b).looks n).trans
      (Tbl.get_le_sum (fun b : Bank => b.looks.sum lookSize) rfl s.banks b)
  have hbound : (s.setLook b n v).lookHeadersUsed ≤ Config.lookHeaders ∧
      (s.setLook b n v).lookEntriesUsed ≤ Config.lookEntries := by
    cases v with
    | none =>
      simp only [Option.isSome_none, Bool.false_eq_true, if_false, lookSize] at hh he
      omega
    | some l =>
      have hf := hv l rfl
      simp only [State.lookFits, State.entriesNeeded, State.freeLookEntries, Bool.and_eq_true, Bool.or_eq_true,
        decide_eq_true_eq] at hf
      rw [Option.isSome_some, if_pos rfl] at hh
      rw [show lookSize (some l) = l.entries.length from rfl] at he
      obtain ⟨hheaders, hentries⟩ := hf
      have hentries := of_decide_eq_true hentries
      refine ⟨?_, by omega⟩
      rcases hheaders with hs | hs
      · rw [if_pos hs] at hh; omega
      · omega
  have hrec (b' : Nat) : RecordsFit ((s.setLook b n v).records b') := by
    rw [State.records_setLook]; exact h.fit b'
  exact ⟨hp ▸ h.pool, fun b' => (hrec b').bank, fun b' => (hrec b').channel, fun b' => (hrec b').circuit, hbound.1, hbound.2⟩

/-- A rewriting of every bank that keeps channels and keeps different circuits different. -/
theorem State.WithinLimits.rewrite (h : s.WithinLimits) (hc : s.Canonical) {f : PatchRec → PatchRec}
    (hch : ∀ r, (f r).channel = r.channel)
    (hinj : ∀ b, ∀ r ∈ s.records b, ∀ r' ∈ s.records b, (f r).circuit = (f r').circuit → r.circuit = r'.circuit) :
    (s.rewriteRecords f).WithinLimits := by
  obtain ⟨hp, hh, he⟩ := hc.counts_mapVals (t := s.rewriteRecords f)
    (f := fun _ b => { b with records := sortRecs (b.records.map f) }) (fun _ _ => by simp) (fun _ _ => rfl) rfl
  have hrec (b : Nat) : RecordsFit ((s.rewriteRecords f).records b) := by
    rw [State.records_rewriteRecords]
    exact ((h.fit b).map hch (hinj b)).perm (perm_sortRecs _)
  exact ⟨hp ▸ h.pool, fun b => (hrec b).bank, fun b => (hrec b).channel, fun b => (hrec b).circuit, hh ▸ h.headers, he ▸ h.entries⟩

/-! ### Bank edits -/

theorem State.WithinLimits.rangeFold {b ch ck prop : Nat} (is : List Nat) {x : RunTally} (h : x.state.WithinLimits)
    (hc : x.state.Canonical) : (is.foldl (rangePair b ch ck prop) x).state.WithinLimits := by
  induction is generalizing x with
  | nil => exact h
  | cons i is ih =>
    refine ih ?_ (hc.rangePair b ch ck prop i)
    unfold rangePair
    split
    · exact h.storeRecord hc ‹_›
    · exact h

theorem State.WithinLimits.bankEdit (h : s.WithinLimits) (hc : s.Canonical) (e : s.BankEdit t) : t.WithinLimits := by
  cases e with
  | store _ _ _ e => exact h.storeRecord hc e
  | remove keep => exact h.setFewer hc _ ((h.fit _).sublist List.filter_sublist) (List.length_filter_le ..)
  | @swap b x y =>
    refine h.setFewer hc b (RecordsFit.perm ?_ (perm_sortRecs _)) (by simp)
    exact (h.fit b).map (fun r => (r.exchange_fields x y).1) fun _ _ _ _ => PatchRec.exchange_circuit_inj
  | range => exact State.WithinLimits.rangeFold (x := ⟨s, 0, none⟩) _ h hc
  | copy _ room => exact h.setRecords hc _ (h.fit _) room
  | @erase b =>
    refine h.setBank hc b RecordsFit.nil ?_ (.inr rfl)
    have := h.pool
    simp only [List.length_nil]
    omega
  | @lock b =>
    refine h.setBank hc b (h.fit b) ?_ (.inl rfl)
    have := h.pool
    have := s.records_le_pool b
    simp only [State.records] at *
    omega
  | deleteLook => exact h.setLook hc _ _ none nofun

theorem State.CircuitEdit.banks (e : s.CircuitEdit t) : t.banks = s.banks := by
  cases e with
  | reassign _ _ _ _ hu =>
    rw [State.pairUp_banks]
    rcases hu with ⟨-, rfl⟩ | ⟨-, -, rfl⟩ <;> rfl
  | restore _ _ _ hu => subst hu; exact (State.oweUndo_patch ..).1
  | _ => rfl

theorem State.WithinLimits.perform (h : s.WithinLimits) (hc : s.Canonical) (code : ReqCode) (ps : List Byte) :
    (code.perform ps s).1.WithinLimits := by
  rcases perform_grants code ps s with e | ⟨-, e⟩
  · rw [e]; exact h
  · cases e with
    | bank e => exact h.bankEdit hc e
    | circuit e => exact h.congr e.banks
    | apart e => exact h.congr e.1
    | switch _ _ hb _ => exact h.congr hb

/-! ### Data frames -/

/-- An open look write has staged as many entries as it has received, and no more than announced. -/
def State.WriteTallied (s : State) : Prop :=
  ∀ p t, (s.port p).transfer = some (.write t) → t.staged.length = t.received ∧ t.received ≤ t.announced

theorem State.PortsOk.writeTallied (h : s.PortsOk) : s.WriteTallied := fun p t ht =>
  have ⟨_, _, hr, _, hs⟩ := (h p).write t ht
  ⟨hs, Nat.le_of_lt hr⟩

/-- The staging of a frame's entries counts each, up to the announced count. -/
theorem stageFrame_tally (t : WriteTransfer) (data : List Byte) (hs : t.staged.length = t.received)
    (hr : t.received ≤ t.announced) :
    (stageFrame t data).staged.length = (stageFrame t data).received ∧
      (stageFrame t data).received ≤ (stageFrame t data).announced := by
  have fold (es : List (Nat × Nat)) : ∀ t : WriteTransfer, t.staged.length = t.received →
      (es.foldl stageEntry t).staged.length = (es.foldl stageEntry t).received ∧
        (es.foldl stageEntry t).received = t.received + es.length ∧ (es.foldl stageEntry t).announced = t.announced := by
    induction es with
    | nil => exact fun t ht => ⟨ht, rfl, rfl⟩
    | cons e es ih =>
      intro t ht
      obtain ⟨h1, h2, h3⟩ := ih (stageEntry t e) (by simp [stageEntry, ht])
      refine ⟨h1, ?_, h3⟩
      rw [List.foldl_cons, h2]
      simp only [stageEntry, List.length_cons]
      omega
  unfold stageFrame
  split
  · exact ⟨hs, hr⟩
  · rename_i es _
    obtain ⟨h1, h2, h3⟩ := fold (es.take (t.announced - t.received)) t hs
    refine ⟨h1, ?_⟩
    rw [h2, h3, List.length_take]
    omega

/-- What a delivery needs and keeps: canonical collections, the limits, and the tallies of the look writes. -/
structure State.Storable (s : State) : Prop where
  canonical : s.Canonical
  limits : s.WithinLimits
  tallied : s.WriteTallied

/-- A port written whose look write, if it has one, is tallied. -/
theorem State.Storable.setPort (h : s.Storable) (p : Port) {v : PortState}
    (hv : ∀ t, v.transfer = some (.write t) → t.staged.length = t.received ∧ t.received ≤ t.announced) :
    (s.setPort p v).Storable := by
  have same := (s.setPort_same p v).lines
  refine ⟨State.Canonical.portFree _ _ same h.canonical, State.withinLimits_portFree _ _ same h.limits, fun q t ht => ?_⟩
  rw [State.port_setPort] at ht
  split at ht
  · exact hv t ht
  · exact h.tallied q t ht

theorem State.Storable.of_banks (h : s.Storable) (hf : t = { s with banks := t.banks }) (hc : t.Canonical)
    (hl : t.WithinLimits) : t.Storable := ⟨hc, hl, fun p w hw => h.tallied p w (by rw [hf] at hw; cases p <;> exact hw)⟩

theorem State.Storable.loadFrame (h : s.Storable) (tr : LoadTransfer) (data : List Byte) : (loadFrame s tr data).1.Storable := by
  have fold (rs : List (Nat × Nat × Nat)) : ∀ x : State × LoadTransfer, x.1.Storable → (rs.foldl loadRecord x).1.Storable := by
    induction rs with
    | nil => exact fun _ hx => hx
    | cons r rs ih =>
      intro x hx
      refine ih _ (hx.of_banks (loadRecord_frame x r) (hx.canonical.loadRecord r) ?_)
      unfold loadRecord
      dsimp only
      split
      · exact hx.limits
      · split
        · exact hx.limits
        · exact hx.limits.storeRecord hx.canonical ‹_›
  unfold Machine.loadFrame
  split
  · exact h
  · exact fold _ _ h

/-- The decision of a look write that has staged its whole count stores within the limits. -/
theorem State.Storable.decideWrite (h : s.Storable) (tr : WriteTransfer) (hs : tr.staged.length = tr.announced) :
    (decideWrite tr s).1.Storable := by
  unfold Machine.decideWrite
  split
  · exact h
  · split
    · exact h
    · split
      · rename_i hfits
        refine h.of_banks rfl (h.canonical.setLook ..) (h.limits.setLook h.canonical _ _ _ fun l hl => ?_)
        cases hl
        rw [← hfits, ← hs]
      · exact h

theorem State.Storable.deliver (h : s.Storable) (p : Port) (tr : Transfer) (data : List Byte)
    (htr : (s.port p).transfer = some tr) : (s.deliver p tr data).Storable := by
  unfold State.deliver
  split
  · rename_i tl
    dsimp only
    split
    · rw [State.closeFull_eq]; exact (h.loadFrame tl data).setPort p nofun
    · exact (h.loadFrame tl data).setPort p nofun
  · rename_i tw
    obtain ⟨h0, h1⟩ := h.tallied p tw htr
    obtain ⟨h2, h3⟩ := stageFrame_tally tw data h0 h1
    dsimp only
    split
    · rw [State.closeFull_eq]
      exact (h.decideWrite _ (by omega)).setPort p nofun
    · exact h.setPort p fun t ht => by cases ht; exact ⟨h2, h3⟩

/-! ### Replies and power-on -/

/-- How the acknowledgement of an order rewrites records (R28, R29). -/
def OrderKind.rewriting : OrderKind → Nat → Nat → PatchRec → PatchRec
  | .transfer => PatchRec.ontoSpare
  | .undo => PatchRec.backTo

theorem State.acknowledge_banks (s : State) (l : LinkId) (r : Nat) (o : Order) : (s.acknowledge l r o).banks =
    (s.rewriteRecords (o.kind.rewriting (circuitAt l r o.circuitIndex) (circuitAt l r o.spareIndex))).banks := by
  have hb : (s.setPending l r none).banks = s.banks := by simp [State.setPending, State.setRow]
  unfold State.acknowledge
  rw [(State.placeNext_patch ..).1]
  cases o.kind with
  | transfer =>
    simp only [State.ackTransfer, State.rewriteRecords, OrderKind.rewriting]
    split <;> simp only [State.setCircuit_banks, hb]
  | undo => simp only [State.ackUndo, State.rewriteRecords, OrderKind.rewriting, State.setCircuit_banks, hb]

theorem State.abandon_banks (s : State) (l : LinkId) (r : Nat) (o : Order) : (s.abandon l r o).banks = s.banks := by
  unfold State.abandon State.revertPairing
  rw [(State.placeNext_patch ..).1]
  split <;> exact (s.setRow_patch ..).1

theorem State.confirmFailure_banks (s : State) (n : Nat) : (s.confirmFailure n).banks = s.banks := by
  unfold State.confirmFailure State.seekSpare
  dsimp only
  split
  · split
    · split
      · rw [State.pairUp_banks]; rfl
      · rfl
    · rfl
  · rfl

theorem takeHealth_banks (l : LinkId) (r : Nat) (ps : List Report) (x : State × Bool) (i : Nat) :
    (takeHealth l r ps x i).1.banks = x.1.banks := by
  unfold takeHealth
  dsimp only
  split
  · split
    · rfl
    · exact State.confirmFailure_banks ..
    · rfl
    · rfl
  · rfl

/-- A fold of steps that leave the banks leaves them. -/
theorem foldl_banks {α β : Type} {f : State × β → α → State × β} (hf : ∀ x a, (f x a).1.banks = x.1.banks) (xs : List α)
    (x : State × β) : (xs.foldl f x).1.banks = x.1.banks := by
  induction xs generalizing x with
  | nil => rfl
  | cons a xs ih => exact (ih _).trans (hf x a)

/-- Everything a READY reply can do to the banks: nothing, or the rewriting of the pending order it acknowledges. -/
theorem State.takeReady_banks (s : State) (l : LinkId) (r : Nat) (c : Option Order) (y : ReplyFrame) :
    (s.takeReady l r c y).banks = s.banks ∨ ∃ w, (s.row l r).pendingOrder = some w ∧ (s.takeReady l r c y).banks =
      (s.rewriteRecords (w.order.kind.rewriting (circuitAt l r w.order.circuitIndex)
        (circuitAt l r w.order.spareIndex))).banks := by
  unfold State.takeReady
  dsimp only
  rw [(State.setRow_patch ..).1, foldl_banks (takeHealth_banks l r y.reports), foldl_banks (f := takeReport l r) fun _ _ => rfl]
  have hb := (s.setRow_patch l r { (s.row l r).readyReply with thermal := y.thermal }).1
  have hrow : ((s.setRow l r { (s.row l r).readyReply with thermal := y.thermal }).row l r).pendingOrder =
      (s.row l r).pendingOrder := by rw [State.row_setRow, if_pos ⟨rfl, rfl⟩]; rfl
  generalize s.setRow l r { (s.row l r).readyReply with thermal := y.thermal } = u at hb hrow ⊢
  unfold State.takeAck
  rw [hrow]
  split
  · exact .inl hb
  · rename_i w hw
    split
    · split
      · refine .inr ⟨w, hw, ?_⟩
        rw [State.acknowledge_banks]
        simp only [State.rewriteRecords, hb]
      · split
        · exact .inl ((u.setRow_patch ..).1.trans hb)
        · exact .inl ((u.abandon_banks ..).trans hb)
    · exact .inl hb

theorem OrderKind.rewriting_channel (k : OrderKind) (failed spare : Nat) (r : PatchRec) :
    (k.rewriting failed spare r).channel = r.channel := by
  cases k
  · exact r.ontoSpare_channel failed spare
  · exact r.backTo_channel failed spare

/-- The rewriting for a pairing of the rig keeps the records' different circuits different. -/
theorem State.PatchOk.rewriting_inj (h : s.PatchOk) {k : OrderKind} {failed spare : Nat} (hp : s.PairingOf k failed spare)
    {b : Nat} {r r' : PatchRec} (hr : r ∈ s.records b) (hr' : r' ∈ s.records b)
    (e : (k.rewriting failed spare r).circuit = (k.rewriting failed spare r').circuit) : r.circuit = r'.circuit := by
  rcases hp.ends with ⟨rfl, -, hs⟩ | ⟨rfl, hpair, -⟩ | ⟨rfl, hpair, hs, hq⟩
  · exact PatchRec.ontoSpare_inj (h.spare_unused (.inl hs) hr) (h.spare_unused (.inl hs) hr') e
  · have fixed {x : PatchRec} (hx : x ∈ s.records b) : x.ontoSpare failed spare = x :=
      if_neg (h.failed_unused hp.role (.inl hpair) hx)
    simpa only [OrderKind.rewriting, fixed hr, fixed hr'] using e
  · have h1 := h.failed_unused hp.role (.inr hpair) hr
    have h2 := h.failed_unused hp.role (.inr hpair) hr'
    have hq : (s.circuit spare).pairing.partner = some failed := by rw [hq]; rfl
    simp only [OrderKind.rewriting, h.backTo_eq hs hq hr, h.backTo_eq hs hq hr'] at e
    split_ifs at e <;> simp_all

theorem State.WithinLimits.replyArrival (h : s.WithinLimits) (hc : s.Canonical) (hrig : s.RigOk) (hpatch : s.PatchOk)
    {l : LinkId} {bytes : List Byte} (hx : exec (.replyArrival l bytes) s = .next t) : t.WithinLimits := by
  have hclose : (s.closeWindow l).banks = s.banks := by simp [State.closeWindow]
  rcases exec_replyArrival_cases hx with e | e | ⟨r, hw, ⟨y, e⟩ | e⟩ <;> rw [e]
  · exact h
  · exact h.congr (s.windowSilent_patch l).1
  · rcases (s.closeWindow l).takeReady_banks l r (s.link l).carried y with hb | ⟨w, hpend, hb⟩
    · exact h.congr (hb.trans hclose)
    · have hpend : (s.row l r).pendingOrder = some w := by
        rw [← hpend]; simp [State.closeWindow, State.row, Link.row]
      have hp := hrig.pairingOf (hrig.window_rack hw) hpend
      refine State.WithinLimits.congr (h.rewrite hc (OrderKind.rewriting_channel w.order.kind _ _)
        fun b r hr r' hr' => hpatch.rewriting_inj hp hr hr') (hb.trans ?_)
      simp only [State.rewriteRecords, hclose]
  · exact h.congr ((State.setRow_patch ..).1.trans hclose)

theorem State.WithinLimits.powerOn (h : s.WithinLimits) (hc : s.Canonical) {x y : Bool}
    (hx : exec (.powerOn x y) s = .next t) : t.WithinLimits := by
  rcases exec_powerOn_cases hx with ⟨-, e⟩ | ⟨-, e⟩ <;> rw [e]
  · exact ⟨Nat.zero_le _, fun _ => Nat.zero_le _, fun _ _ => Nat.zero_le _, fun _ _ => Nat.zero_le _, Nat.zero_le _, Nat.zero_le _⟩
  · have bank (b : Nat) : s.powerOnRetained.bank b = { s.bank b with locked := true } :=
      Tbl.get_mapVals Bank.initial (fun _ b => { b with locked := true }) s.banks b rfl
    have records (b : Nat) : s.powerOnRetained.records b = s.records b := by rw [State.records, bank]; rfl
    obtain ⟨hp, hh, he⟩ := hc.counts_mapVals (t := s.powerOnRetained) (f := fun _ b => { b with locked := true })
      (fun _ _ => rfl) (fun _ _ => rfl) rfl
    have hkept : s.powerOnRetained.WithinLimits := ⟨hp ▸ h.pool, fun b => records b ▸ h.bank b, fun b => records b ▸ h.channel b,
      fun b => records b ▸ h.circuit b, hh ▸ h.headers, he ▸ h.entries⟩
    exact (((hkept.congr (State.placeAll_patch _ .a).1).congr (State.placeAll_patch _ .b).1).congr
      (State.placeAll_patch _ .c).1).congr (State.placeAll_patch _ .d).1

/-- Every command keeps the limits. -/
theorem State.WithinLimits.exec (h : s.WithinLimits) (hc : s.Canonical) (hw : s.WriteTallied) (hrig : s.RigOk)
    (hpatch : s.PatchOk) {c : Instr} (hx : exec c s = .next t) : t.WithinLimits := by
  have ports {u : State} (hu : s.SameButPorts u) : u.Canonical ∧ u.WithinLimits :=
    ⟨State.Canonical.portFree s u hu.lines hc, h.congr hu.banks⟩
  have keeps (u : State) (p : Port) (v : PortState) (hv : v.transfer = (u.port p).transfer) (hu : u.Storable) :
      (u.setPort p v).Storable := hu.setPort p fun t ht => hu.tallied p t (hv ▸ ht)
  have deliver (u : State) (p : Port) (tr : Transfer) (data : List Byte) (htr : (u.port p).transfer = some tr)
      (hu : u.Storable) : (u.deliver p tr data).Storable := hu.deliver p tr data htr
  apply exec_cases hx State.withinLimits_portFree h
  case request => exact fun code p r u _ _ _ hu => (ports hu).2.perform (ports hu).1 code r.params
  case heldClear => exact fun ps u hu => (ports hu).2.perform (ports hu).1 .deskClear ps
  case dataFrame => exact fun p xs => (onFrame_takeData keeps deliver ⟨hc, h, hw⟩ p xs).limits
  case heldData => exact fun p => (deliverHeld_keeps keeps deliver ⟨hc, h, hw⟩ p).limits
  case power => rintro x y rfl; exact h.powerOn hc hx
  case switch => exact fun _ _ => h.congr rfl
  case fade =>
    have := s.fadeTick_only
    exact h.congr (by rw [State.setChangeover_banks, this])
  case frameDue =>
    exact fun l => (h.congr (s.windowSilent_patch l).1).congr (by simp [State.framed])
  case pollEnd => exact fun l r => h.congr (by simp)
  case expiry => exact fun l => h.congr (s.windowSilent_patch l).1
  case reply => rintro l bytes rfl; exact h.replyArrival hc hrig hpatch hx

end

/-- Settles O11: what joins a bank or the look store joins with room for it, and a rewriting moves records without making one. -/
theorem limits_kept : Obligations.Limits_kept := by
  intro s t hc hports hrig hpatch h hx
  rcases step_cases hx with rfl | ⟨c, rest, -, hx⟩
  · exact h
  · refine State.WithinLimits.exec (s := { s with pending := rest }) (h.congr rfl) (hc.congr rfl rfl rfl rfl rfl rfl) ?_
      (hrig.congr rfl rfl) (hpatch.congr rfl rfl) hx
    exact fun p => hports.writeTallied (s := s) p

end Sys2Proof.Machine
end

section
/-!
What no command reaches: a refused request's rest of the state (O16), a closed bank's contents (O29), and the live bank but for its
switch (O52).
-/

namespace Sys2Proof.Machine

section
variable {s t : State}

/-! ### A refused request (O16) -/

theorem State.outgoing_answer (s : State) (p : Port) (r : Request) (y : Reply) :
    ((s.answer p r y).port p).outgoing = (s.port p).outgoing ++ [r.answered y] := by
  simp [State.answer, State.produce, Request.answered]

/-- The sameness that O16 speaks of: all but the port served and the record of it. -/
def State.OnlyServed (s t : State) (p : Port) : Prop := s.SameButPorts t ∧ t.port (otherPort p) = s.port (otherPort p)

theorem State.OnlyServed.setPort {p : Port} (h : s.OnlyServed t p) (v : PortState) : s.OnlyServed (t.setPort p v) p :=
  ⟨h.1.trans (t.setPort_same ..), (t.setPort_other ..).trans h.2⟩

theorem State.taken_onlyServed (s : State) (p : Port) : s.OnlyServed (s.taken p) p := ⟨s.taken_same p, s.taken_other p⟩

theorem State.closeEarly_onlyServed (s : State) (p : Port) : s.OnlyServed (s.closeEarly p) p :=
  ⟨s.closeEarly_same p, by rw [State.closeEarly_eq]; exact s.setPort_other ..⟩

/-- Of two lists that end each in one more element and are alike, the ends are alike. -/
theorem answered_outcome {r : Request} {y z : Reply} {xs ys : List Answer} (h : xs ++ [r.answered y] = ys ++ [r.answered z]) :
    y.outcome = z.outcome := congrArg Answer.outcome (List.singleton_injective (List.append_inj' h rfl).2)

end

/-- Settles O16: a performed request that changed anything was answered DONE or PARTIAL, and every other arm of the engine writes
the port alone. -/
theorem refused_request_changes_nothing : Obligations.Refused_request_changes_nothing := by
  intro s t c code p r y hc hn hcode hx hout hdone hpart
  rcases exec_request_cases hc hx with rfl | ⟨p', r', hn', -, arm⟩
  · exact ⟨.refl _, rfl⟩
  · obtain ⟨rfl, rfl⟩ := Prod.mk.inj (Option.some.inj (hn.symm.trans hn'))
    rcases arm with rfl | ⟨tr, rfl⟩ | ⟨o, rfl⟩ | rfl
    · have hy := answered_outcome ((State.outgoing_answer ..).symm.trans hout)
      rcases perform_grants code r.params (s.taken p) with e | ⟨granted, -⟩
      · rw [e]
        exact (s.taken_onlyServed p).setPort _
      · rw [hy] at granted
        exact (granted.elim hdone hpart).elim
    · exact (s.taken_onlyServed p).setPort _
    · exact ((s.taken_onlyServed p).setPort _).setPort _
    · have h := (s.closeEarly_onlyServed p).setPort { (s.closeEarly p).port p with headHeld := true }
      exact ⟨h.1.trans rfl, h.2⟩

section
variable {s t : State}

/-! ### A closed bank (O29) -/

/-- From `s` to `t` a bank kept its records and its looks. -/
def State.KeepsBank (s t : State) (b : Nat) : Prop := t.records b = s.records b ∧ (t.bank b).looks = (s.bank b).looks

theorem State.KeepsBank.of_bank {b : Nat} (h : t.bank b = s.bank b) : s.KeepsBank t b := by
  unfold State.KeepsBank State.records
  rw [h]
  exact ⟨rfl, rfl⟩

theorem State.KeepsBank.of_banks (h : t.banks = s.banks) (b : Nat) : s.KeepsBank t b := .of_bank (by unfold State.bank; rw [h])

theorem State.KeepsBank.congr {b : Nat} {u : State} (h : s.KeepsBank t b) (hu : u.banks = t.banks) : s.KeepsBank u b :=
  ⟨(KeepsBank.of_banks hu b).1.trans h.1, (KeepsBank.of_banks hu b).2.trans h.2⟩

/-- An edit that stores a record leaves every other bank. -/
theorem State.bank_storeRecord {b ch ck prop n : Nat} {r : PatchRec} (h : s.storeRecord b ch ck prop = .ok (t, r, n)) {b' : Nat}
    (hb : b' ≠ b) : t.bank b' = s.bank b' := by
  obtain ⟨_, _, -, ⟨_, -, rfl, -⟩ | ⟨-, -, rfl, -⟩⟩ := s.storeRecord_ok h <;> simp [State.bank_setRecords, hb.symm]

theorem bank_rangePair {b ch ck prop : Nat} (x : RunTally) (i : Nat) {b' : Nat} (hb : b' ≠ b) :
    (rangePair b ch ck prop x i).state.bank b' = x.state.bank b' := by
  unfold rangePair
  split
  · exact State.bank_storeRecord ‹_› hb
  · rfl

theorem bank_rangeFold {b ch ck prop : Nat} (is : List Nat) (x : RunTally) {b' : Nat} (hb : b' ≠ b) :
    (is.foldl (rangePair b ch ck prop) x).state.bank b' = x.state.bank b' := by
  induction is generalizing x with
  | nil => rfl
  | cons i is ih => exact (ih _).trans (bank_rangePair x i hb)

/-- A bank edit leaves a closed bank's contents: it edits another bank, or the lock alone. -/
theorem State.BankEdit.keeps (h : s.BankEdit t) {b : Nat} (closed : ¬ s.Editable b) : s.KeepsBank t b := by
  have ne {b' : Nat} (may : s.Editable b') : b' ≠ b := fun e => closed (e ▸ may)
  cases h with
  | store may _ _ h => exact .of_bank (State.bank_storeRecord h (ne may).symm)
  | remove keep may => exact .of_bank (by simp [State.bank_setRecords, ne may])
  | swap may => exact .of_bank (by simp [State.bank_setRecords, ne may])
  | range may => exact .of_bank (bank_rangeFold _ _ (ne may).symm)
  | copy may => exact .of_bank (by simp [State.bank_setRecords, ne may])
  | erase may => exact .of_bank (by simp [State.bank_setBank, ne may])
  | lock on =>
    unfold State.KeepsBank State.records
    rw [State.bank_setBank]
    split
    · subst_vars; exact ⟨rfl, rfl⟩
    · exact ⟨rfl, rfl⟩
  | deleteLook may => exact .of_bank (by simp [State.setLook, State.bank_setBank, ne may])

theorem perform_keeps (code : ReqCode) (ps : List Byte) (s : State) {b : Nat} (closed : ¬ s.Editable b) :
    s.KeepsBank (code.perform ps s).1 b := by
  rcases perform_grants code ps s with e | ⟨-, effect⟩
  · rw [e]; exact ⟨rfl, rfl⟩
  · cases effect with
    | bank h => exact h.keeps closed
    | circuit h => exact .of_banks h.banks b
    | apart h => exact .of_banks h.1 b
    | switch _ _ hb => exact .of_banks hb b

/-- What a delivery keeps of a closed bank: all of it, and what closes it. -/
def State.HoldsClosed (s : State) (b : Nat) (u : State) : Prop := u.bank b = s.bank b ∧ u.changeover = s.changeover

theorem State.HoldsClosed.closed {b : Nat} {u : State} (h : s.HoldsClosed b u) (hb : ¬ s.Editable b) : ¬ u.Editable b := by
  unfold State.Editable State.changingBank State.darkening at *
  rw [h.1, h.2]
  exact hb

theorem State.HoldsClosed.setPort {b : Nat} {u : State} (h : s.HoldsClosed b u) (p : Port) (v : PortState) :
    s.HoldsClosed b (u.setPort p v) := by cases p <;> exact h

theorem State.HoldsClosed.loadRecord {b : Nat} (hb : ¬ s.Editable b) {x : State × LoadTransfer} (h : s.HoldsClosed b x.1)
    (r : Nat × Nat × Nat) : s.HoldsClosed b (loadRecord x r).1 := by
  have frame := loadRecord_frame x r
  refine ⟨?_, by rw [frame]; exact h.2⟩
  unfold Machine.loadRecord
  dsimp only
  split
  · exact h.1
  · rename_i hmay
    have hne : b ≠ x.2.bank := fun e => h.closed hb (e ▸ (State.editable_of_refusal hmay).2)
    split
    · exact h.1
    · exact (State.bank_storeRecord ‹_› hne).trans h.1

theorem State.HoldsClosed.decideWrite {b : Nat} (hb : ¬ s.Editable b) {u : State} (h : s.HoldsClosed b u) (tr : WriteTransfer) :
    s.HoldsClosed b (decideWrite tr u).1 := by
  unfold Machine.decideWrite
  split
  · exact h
  · split
    · exact h
    · rename_i hmay
      have hne : b ≠ tr.bank := fun e => h.closed hb (e ▸ (State.editable_of_refusal (x := true) hmay).2)
      split
      · exact ⟨by simp [State.setLook, State.bank_setBank, hne.symm, h.1], h.2⟩
      · exact h

theorem State.HoldsClosed.deliver {b : Nat} (hb : ¬ s.Editable b) {u : State} (h : s.HoldsClosed b u) (p : Port) (tr : Transfer)
    (data : List Byte) : s.HoldsClosed b (u.deliver p tr data) := by
  have load (rs : List (Nat × Nat × Nat)) : ∀ x : State × LoadTransfer, s.HoldsClosed b x.1 →
      s.HoldsClosed b (rs.foldl Machine.loadRecord x).1 := by
    induction rs with
    | nil => exact fun _ hx => hx
    | cons r rs ih => exact fun x hx => ih _ (hx.loadRecord hb r)
  have frame (tl : LoadTransfer) : s.HoldsClosed b (loadFrame u tl data).1 := by
    unfold Machine.loadFrame
    split
    · exact h
    · exact load _ _ h
  unfold State.deliver
  split
  · dsimp only
    split
    · rw [State.closeFull_eq]; exact (frame _).setPort ..
    · exact (frame _).setPort ..
  · dsimp only
    split
    · rw [State.closeFull_eq]; exact (h.decideWrite hb _).setPort ..
    · exact h.setPort ..

/-- No command but a reply arrival and a power-on changes the contents of a closed bank. -/
theorem exec_keeps_closed {c : Instr} {b : Nat} (closed : ¬ s.Editable b) (hx : exec c s = .next t)
    (hreply : ∀ l bytes, c ≠ .replyArrival l bytes) (hpower : ∀ x y, c ≠ .powerOn x y) : s.KeepsBank t b := by
  have free : PortFree (s.KeepsBank · b) := fun u v huv hu => hu.congr huv.banks
  have closedAt {u : State} (hu : s.SameButPorts u) : ¬ u.Editable b := by rw [hu.eq]; exact closed
  have keptAt {u v : State} (hu : s.SameButPorts u) (h : u.KeepsBank v b) : s.KeepsBank v b := by
    rw [hu.eq] at h; exact h
  have keeps (u : State) (p : Port) (v : PortState) (_ : v.transfer = (u.port p).transfer) (hu : s.HoldsClosed b u) :
      s.HoldsClosed b (u.setPort p v) := hu.setPort p v
  have deliver (u : State) (p : Port) (tr : Transfer) (data : List Byte) (_ : (u.port p).transfer = some tr)
      (hu : s.HoldsClosed b u) : s.HoldsClosed b (u.deliver p tr data) := hu.deliver closed p tr data
  apply exec_cases hx free ⟨rfl, rfl⟩
  case request => exact fun code p r u _ _ _ hu => keptAt hu (perform_keeps code r.params u (closedAt hu))
  case heldClear => exact fun ps u hu => keptAt hu (perform_keeps .deskClear ps u (closedAt hu))
  case dataFrame => exact fun p xs => .of_bank (onFrame_takeData keeps deliver (Q := s.HoldsClosed b) ⟨rfl, rfl⟩ p xs).1
  case heldData => exact fun p => .of_bank (deliverHeld_keeps keeps deliver (Q := s.HoldsClosed b) ⟨rfl, rfl⟩ p).1
  case power => exact fun x y e => absurd e (hpower x y)
  case switch => exact fun _ _ => .of_banks s.switchOver_patch.1 b
  case fade => exact .of_banks (by rw [State.setChangeover_banks, s.fadeTick_only]) b
  case frameDue => exact fun l => .of_banks (Eq.trans (by simp [State.framed]) (s.windowSilent_patch l).1) b
  case pollEnd => exact fun l r => .of_banks (by simp) b
  case expiry => exact fun l => .of_banks (s.windowSilent_patch l).1 b
  case reply => exact fun l bytes e => absurd e (hreply l bytes)

end

/-- Settles O29: an edit of a bank looks for its lock and for a changeover to it first. -/
theorem locked_and_target_banks_are_kept : Obligations.Locked_and_target_banks_are_kept := by
  refine ⟨fun s t c b locked hx => exec_keeps_closed (fun may => ?_) hx, fun s t c b dark target hx =>
    exec_keeps_closed (fun may => ?_) hx⟩
  · exact absurd locked (by simp [may.2])
  · exact absurd may.1 (by simp [State.changingBank, State.darkening, dark, target])

section
variable {s t : State}

/-! ### The live bank (O52) -/

theorem State.playback_switchOver (s : State) (p : Nat) : s.switchOver.playback p = (s.playback p).atSwitch :=
  Tbl.get_mapVals Playback.initial (fun _ => Playback.atSwitch) s.playbacks p rfl

/-- After a switch every entry stands at 0 without an owner. -/
theorem State.entry_switchOver (s : State) (p ch : Nat) :
    s.switchOver.entry p ch = { s.entry p ch with level := 0, owner := none } := by
  unfold State.entry
  rw [State.playback_switchOver]
  exact Tbl.get_mapVals Entry.initial (fun _ e => { e with level := 0, owner := none }) (s.playback p).entries ch rfl

theorem State.switchOver_switchedTo {b : Nat} (h : s.changeover.target = some b) : s.SwitchedTo s.switchOver b where
  rest := by simp [State.switchOver, State.setFades, State.mapPlaybacks, State.setCaptures, State.setChangeover, h]
  playbacks p := by
    rw [State.playback_switchOver]
    exact ⟨rfl, rfl, rfl, rfl, rfl, rfl⟩
  entries p ch := by
    rw [State.entry_switchOver]
    exact ⟨rfl, rfl⟩

theorem State.BankEdit.liveBank (h : s.BankEdit t) : t.liveBank = s.liveBank := by rw [h.frame]

theorem State.CircuitEdit.liveBank (h : s.CircuitEdit t) : t.liveBank = s.liveBank := by
  cases h with
  | reassign _ _ _ _ hu =>
    rw [(State.pairUp_only ..).liveBank]
    rcases hu with ⟨-, rfl⟩ | ⟨-, -, rfl⟩ <;> rfl
  | restore _ _ _ hu =>
    rw [(State.oweUndo_only ..).liveBank, hu]
    rfl
  | _ => rfl

/-- A request that changes the live bank is a CHANGEOVER of dark time 0. -/
theorem perform_liveBank (code : ReqCode) (ps : List Byte) (s : State) :
    (code.perform ps s).1.liveBank = s.liveBank ∨ (code = .changeover ∧ ∃ b, ps = [b, 0, 0]) := by
  rcases perform_grants code ps s with e | ⟨-, effect⟩
  · exact .inl (by rw [e])
  · cases effect with
    | bank h => exact .inl h.liveBank
    | circuit h => exact .inl h.liveBank
    | apart h => exact .inl h.2.2
    | switch hc h0 => exact .inr ⟨hc, h0⟩

theorem State.SameButLines.liveBank {u v : State} (h : u.SameButLines v) : v.liveBank = u.liveBank := by rw [h]

/-- No port's data changes the live bank. -/
theorem State.deliver_liveBank (u : State) (p : Port) (tr : Transfer) (data : List Byte) :
    (u.deliver p tr data).liveBank = u.liveBank := by rw [(u.deliver_delivery p tr data).1]

theorem State.reply_liveBank {l : LinkId} {bytes : List Byte} (hx : exec (.replyArrival l bytes) s = .next t) :
    t.liveBank = s.liveBank := by
  rcases exec_replyArrival_cases hx with e | e | ⟨r, -, ⟨y, e⟩ | e⟩ <;> rw [e]
  · exact (s.windowSilent_only l).liveBank
  · exact ((s.closeWindow_only l).trans (State.takeReady_only ..)).liveBank
  · exact ((s.closeWindow_only l).trans (State.setRow_only ..)).liveBank

/-- The commands that may change the live bank. -/
def State.SwitchesBank (s : State) (c : Instr) : Prop :=
  (c = .switchEvent ∧ s.changeover.switchDue = true) ∨
    (c = .changeover ∧ ∃ p sq b, s.nextRequest = some (p, ⟨sq, .changeover, [b, 0, 0]⟩)) ∨
    ∃ x y, c = .powerOn x y ∧ (x && y) = false

theorem exec_liveBank {c : Instr} (hx : exec c s = .next t) : t.liveBank = s.liveBank ∨ s.SwitchesBank c := by
  have live {u : State} (hu : s.SameButPorts u) : u.liveBank = s.liveBank := hu.lines.liveBank
  have free : PortFree fun u => u.liveBank = s.liveBank ∨ s.SwitchesBank c := fun u v huv hu =>
    hu.imp_left huv.liveBank.trans
  have keeps (u : State) (p : Port) (v : PortState) (_ : v.transfer = (u.port p).transfer)
      (hu : u.liveBank = s.liveBank ∨ s.SwitchesBank c) := free u _ (u.setPort_same p v).lines hu
  have deliver (u : State) (p : Port) (tr : Transfer) (data : List Byte) (_ : (u.port p).transfer = some tr)
      (hu : u.liveBank = s.liveBank ∨ s.SwitchesBank c) : (u.deliver p tr data).liveBank = s.liveBank ∨ s.SwitchesBank c := by
    rw [u.deliver_liveBank]; exact hu
  apply exec_cases hx free (.inl rfl)
  case request =>
    intro code p r u hc hn hr hu
    rcases perform_liveBank code r.params u with e | ⟨rfl, b, hps⟩
    · exact .inl (e.trans (live hu))
    · obtain rfl : c = .changeover := by cases c <;> cases hc; rfl
      obtain ⟨sq, rc, params⟩ := r
      cases hr
      cases hps
      exact .inr (.inr (.inl ⟨rfl, p, sq, b, hn⟩))
  case heldClear => exact fun ps u hu => .inl ((perform_liveBank .deskClear ps u).elim (·.trans (live hu)) fun h => nomatch h.1)
  case dataFrame => exact fun p xs => onFrame_takeData keeps deliver (.inl rfl) p xs
  case heldData => exact fun p => deliverHeld_keeps keeps deliver (.inl rfl) p
  case power =>
    rintro x y rfl
    rcases exec_powerOn_cases hx with ⟨hxy, -⟩ | ⟨-, e⟩
    · exact .inr (.inr (.inr ⟨x, y, rfl, hxy⟩))
    · rw [e]
      exact .inl ((((State.placeAll_only _ .a).trans (State.placeAll_only _ .b)).trans (State.placeAll_only _ .c)).trans
        (State.placeAll_only _ .d)).liveBank
  case switch => exact fun hc due => .inr (.inl ⟨hc, due⟩)
  case fade => exact .inl (by rw [State.setChangeover_liveBank, s.fadeTick_only.apart.2.2])
  case frameDue => exact fun l => .inl ((s.windowSilent_only l).trans (State.setLink_only ..)).liveBank
  case pollEnd => exact fun l r => .inl (s.setLink_only l _).liveBank
  case expiry => exact fun l => .inl (s.windowSilent_only l).liveBank
  case reply => rintro l bytes rfl; exact .inl (State.reply_liveBank hx)

end

/-- Settles O52: the event is `switchOver`, and of all commands only those of `State.SwitchesBank` write the live bank. -/
theorem switch_event_makes_target_live : Obligations.Switch_event_makes_target_live := by
  refine ⟨fun s b due target => ⟨s.switchOver, ?_, State.switchOver_switchedTo target, rfl, rfl⟩, fun s t c hx hne => ?_⟩
  · simp [exec, execSwitchEvent, due]
  · exact (exec_liveBank hx).resolve_left hne

end Sys2Proof.Machine
end

section
/-!
The values at reset and after power-on (O2, O3, O60), the inactivity timeout and the sent answer (O19), the circuit an edit uses (O21),
and the rewriting at an acknowledgement and at that of its UNDO (O30).
-/

namespace Sys2Proof.Machine

/-! ### Reset (O2, O3) -/

section

@[simp] theorem State.reset_bank (b : Nat) : State.reset.bank b = Bank.initial := rfl
@[simp] theorem State.reset_records (b : Nat) : State.reset.records b = [] := rfl
@[simp] theorem State.reset_look (b n : Nat) : State.reset.look b n = none := rfl
@[simp] theorem State.reset_circuit (n : Nat) : State.reset.circuit n = Circuit.initial := rfl
@[simp] theorem State.reset_playback (p : Nat) : State.reset.playback p = Playback.initial := rfl
@[simp] theorem State.reset_entry (p ch : Nat) : State.reset.entry p ch = Entry.initial := rfl
@[simp] theorem State.reset_captureOf (ch : Nat) : State.reset.captureOf ch = none := rfl
@[simp] theorem State.reset_fades : State.reset.fades = [] := rfl
@[simp] theorem State.reset_link (l : LinkId) : State.reset.link l = Link.initial := by cases l <;> rfl
@[simp] theorem State.reset_row (l : LinkId) (r : Nat) : State.reset.row l r = RackRow.initial := by cases l <;> rfl
@[simp] theorem State.reset_port (p : Port) : State.reset.port p = PortState.initial := by cases p <;> rfl

@[simp] theorem State.reset_curve (c : Nat) : State.reset.curve c = identityCurve := by
  unfold State.curve
  split <;> rfl

theorem identityCurve_ok : CurveOk identityCurve := ⟨rfl, by decide, by decide⟩

theorem PortState.initial_ok : PortState.initial.Ok where
  buffer := nofun
  queue := Nat.zero_le _
  params := nofun
  held := nofun
  timer := by decide
  hold := Nat.zero_le _
  holdData := nofun
  load := nofun
  write := nofun

theorem State.reset_levelsOk : State.reset.LevelsOk where
  grand := Nat.le_refl _
  scale := Nat.le_refl _
  captures := nofun
  masters _ := Nat.le_refl _
  entries _ _ := ⟨Nat.zero_le _, Nat.zero_le _, Nat.zero_le _⟩
  looks := nofun
  staged p t h := by rw [State.reset_port] at h; cases h
  curves c := by rw [State.reset_curve]; exact identityCurve_ok
  proportions := nofun
  circuits _ := ⟨Nat.zero_le _, by simp [Circuit.initial], by simp [Circuit.initial, Config.full], nofun⟩
  rig := by decide

theorem State.reset_fadesOk : State.reset.FadesOk where
  slots := Nat.zero_le _
  distinct := .nil
  ranges := nofun
  owners := nofun
  owned := nofun
  between _ _ h := absurd rfl h
  running := nofun
  within := nofun
  held := nofun
  states _ := by simp [State.hasFade, Playback.initial]

theorem State.reset_owedOrders (l : LinkId) (r : Nat) : State.reset.owedOrders l r = [] :=
  List.filterMap_eq_nil_iff.mpr fun _ _ => rfl

theorem State.reset_rigOk : State.reset.RigOk where
  unpaired _ _ _ := rfl
  failed := nofun
  spare _ _ h := h.elim nofun nofun
  spares l r _ := by
    have : State.reset.rackSpares l r = 0 := List.countP_eq_zero.mpr fun _ _ => by simp [Circuit.initial, Role.isSpare]
    omega
  health _ _ := by simp [Circuit.initial]
  resend := nofun
  pollOrder l r := by simp [Link.initial, RackRow.initial]
  pollOnce l := by rw [State.reset_link]; exact .nil
  polled l r h := by simp [Link.initial] at h
  noOrder l r _ _ := State.reset_owedOrders l r
  order l r w _ h := by rw [State.reset_row] at h; cases h

theorem State.reset_patchOk : State.reset.PatchOk := State.patchOk_iff.mpr fun _ => State.RecordsOk.nil

theorem State.reset_withinLimits : State.reset.WithinLimits :=
  ⟨Nat.zero_le _, fun _ => Nat.zero_le _, fun _ _ => Nat.zero_le _, fun _ _ => Nat.zero_le _, Nat.zero_le _, Nat.zero_le _⟩

end

/-- Settles O2: nothing is listed at reset, so every number reads as the part's initial value. -/
theorem reset_values : Obligations.Reset_values := by
  refine ⟨fun b => ⟨rfl, rfl, fun n => rfl⟩, rfl, fun n => ⟨rfl, rfl, rfl, rfl, rfl, rfl, rfl, rfl, rfl, rfl, rfl⟩,
    State.reset_curve, rfl, fun p => ⟨rfl, rfl, rfl, rfl, rfl, rfl⟩, fun p ch => ⟨rfl, rfl⟩, rfl, fun ch => rfl, rfl, rfl, rfl,
    fun l r => ?_, State.reset_port, rfl, rfl, rfl⟩
  rw [State.reset_row]
  exact ⟨rfl, rfl, rfl, rfl⟩

/-- Settles O3: each invariant on the values of O2. -/
theorem reset_meets_invariants : Obligations.Reset_meets_invariants := by
  refine ⟨State.Canonical.reset, ⟨by decide, fun _ => rfl, nofun⟩, ⟨rfl, fun l => by rw [State.reset_link]; rfl⟩,
    fun p => by rw [State.reset_port]; exact PortState.initial_ok, State.reset_levelsOk, ⟨nofun, fun p t h => ?_⟩,
    State.reset_fadesOk, State.reset_rigOk, State.reset_patchOk, State.reset_withinLimits⟩
  rw [State.reset_port] at h
  cases h

/-! ### Power-on (O60) -/

section
variable {s t : State}

/-- The order a rack holds after the placing: the one it held, or else its owed order of lowest circuit index. -/
def State.placed (s : State) (l : LinkId) (r : Nat) : Option PendingOrder :=
  (s.row l r).pendingOrder.or ((s.owedOrders l r).head?.map fun o => ⟨o, 0⟩)

theorem State.row_placeNext (s : State) (l l' : LinkId) (r r' : Nat) : (s.placeNext l r).row l' r' =
    if l = l' ∧ r = r' then { s.row l r with pendingOrder := s.placed l r } else s.row l' r' := by
  unfold State.placed
  rcases s.placeNext_cases l r with ⟨o, rest, ho, hp, e⟩ | ⟨h, e⟩ <;> rw [e]
  · simp [State.setPending, ho, hp]
  · split
    · rename_i e
      obtain ⟨rfl, rfl⟩ := e
      rcases h with h | h
      · simp [h]
      · obtain ⟨w, hw⟩ := Option.ne_none_iff_exists'.mp h
        rw [hw, Option.some_or, ← hw]
    · rfl

/-- The placing on some racks of a link: each of them holds its order, every other row is as it was. -/
theorem State.row_placeFold (l l' : LinkId) (rs : List Nat) (r' : Nat) (s : State) :
    (rs.foldl (fun s r => s.placeNext l r) s).row l' r' =
      if l = l' ∧ r' ∈ rs then { s.row l' r' with pendingOrder := s.placed l' r' } else s.row l' r' := by
  induction rs generalizing s with
  | nil => simp
  | cons r rs ih =>
    have owed := State.owedOrders_congr (fun n => s.circuit_placeNext l r n) l' r'
    rw [List.foldl_cons, ih]
    unfold State.placed
    rw [owed, State.row_placeNext]
    unfold State.placed
    by_cases hl : l = l'
    · subst hl
      by_cases hr : r = r'
      · subst hr
        simp [Option.or_assoc]
      · have hr' : r' ≠ r := Ne.symm hr
        simp [hr, hr']
    · simp [hl]

theorem State.row_placeAll (l l' : LinkId) {r : Nat} (hr : rackOk r = true) (s : State) : (s.placeAll l).row l' r =
    if l = l' then { s.row l' r with pendingOrder := s.placed l' r } else s.row l' r := by
  have hmem : r ∈ List.range' 1 16 := by
    rw [rackOk_iff] at hr
    rw [List.mem_range'_1]
    omega
  rw [State.placeAll, State.row_placeFold]
  simp [hmem]

/-- Rows of the links apart, nothing differs. -/
def State.RowsOnly (s t : State) : Prop :=
  t = { s with links := t.links } ∧ ∀ l, t.link l = { s.link l with rows := (t.link l).rows }

theorem State.RowsOnly.refl (s : State) : s.RowsOnly s := ⟨rfl, fun _ => rfl⟩

theorem State.RowsOnly.trans {u : State} (h : s.RowsOnly t) (h' : t.RowsOnly u) : s.RowsOnly u := by
  refine ⟨by rw [h'.1, h.1], fun l => ?_⟩
  rw [h'.2 l, h.2 l]

theorem State.placeNext_rowsOnly (s : State) (l : LinkId) (r : Nat) : s.RowsOnly (s.placeNext l r) := by
  rcases s.placeNext_cases l r with ⟨o, rest, -, -, e⟩ | ⟨-, e⟩ <;> rw [e]
  · refine ⟨by cases l <;> rfl, fun l' => ?_⟩
    simp only [State.setPending, State.setRow, State.link_setLink]
    split
    · rename_i e; subst e; rfl
    · rfl
  · exact .refl s

theorem State.placeAll_rowsOnly (s : State) (l : LinkId) : s.RowsOnly (s.placeAll l) := by
  have fold (rs : List Nat) : ∀ u : State, u.RowsOnly (rs.foldl (fun s r => s.placeNext l r) u) := by
    induction rs with
    | nil => exact State.RowsOnly.refl
    | cons r rs ih => exact fun u => (u.placeNext_rowsOnly l r).trans (ih _)
  exact fold _ s

theorem State.circuit_placeAll (s : State) (l : LinkId) (n : Nat) : (s.placeAll l).circuit n = s.circuit n :=
  State.circuit_congr (s.placeAll_patch l).2 n

/-- The placing on every link. -/
def State.placeEvery (s : State) : State := (((s.placeAll .a).placeAll .b).placeAll .c).placeAll .d

theorem State.placeEvery_rowsOnly (s : State) : s.RowsOnly s.placeEvery :=
  (((s.placeAll_rowsOnly .a).trans (State.placeAll_rowsOnly _ .b)).trans (State.placeAll_rowsOnly _ .c)).trans
    (State.placeAll_rowsOnly _ .d)

theorem State.SamePatch.trans {u : State} (h : s.SamePatch t) (h' : t.SamePatch u) : s.SamePatch u :=
  ⟨h'.1.trans h.1, h'.2.trans h.2⟩

theorem State.placeEvery_patch (s : State) : s.SamePatch s.placeEvery :=
  State.SamePatch.trans (State.SamePatch.trans (State.SamePatch.trans (s.placeAll_patch .a) (State.placeAll_patch _ .b))
    (State.placeAll_patch _ .c)) (State.placeAll_patch _ .d)

theorem State.row_placeEvery (s : State) (l : LinkId) {r : Nat} (hr : rackOk r = true) :
    s.placeEvery.row l r = { s.row l r with pendingOrder := s.placed l r } := by
  have owed (u : State) (k : LinkId) : (u.placeAll k).owedOrders l r = u.owedOrders l r :=
    State.owedOrders_congr (u.circuit_placeAll k) l r
  cases l <;> simp [State.placeEvery, State.row_placeAll _ _ hr, State.placed, owed]

theorem State.powerOnRetained_row (s : State) (l : LinkId) (r : Nat) : s.powerOnRetained.row l r = (s.row l r).powerOn := by
  have hrows (k : Link) : k.powerOn.row r = (k.row r).powerOn :=
    Tbl.get_mapVals RackRow.initial (fun _ => RackRow.powerOn) k.rows r rfl
  cases l <;> exact hrows _

theorem State.powerOnRetained_link (s : State) (l : LinkId) : s.powerOnRetained.link l = (s.link l).powerOn := by
  cases l <;> rfl

theorem State.powerOnRetained_circuit (s : State) (n : Nat) : s.powerOnRetained.circuit n = (s.circuit n).powerOn :=
  Tbl.get_mapVals Circuit.initial (fun _ => Circuit.powerOn) s.circuits n rfl

theorem State.powerOnRetained_bank (s : State) (b : Nat) : s.powerOnRetained.bank b = { s.bank b with locked := true } :=
  Tbl.get_mapVals Bank.initial (fun _ b => { b with locked := true }) s.banks b rfl

theorem Circuit.powerOn_resend (c : Circuit) : c.powerOn.resend = true ↔ c.role = .failed ∧ ∃ m, c.pairing = .confirmed m := by
  unfold Circuit.powerOn
  cases c.pairing <;> simp

end

/-- Settles O60: without retention the state of reset, with it what `powerOnRetained` keeps, and then the placing of owed orders. -/
theorem power_on : Obligations.Power_on := by
  refine ⟨fun s held agrees h => by simp [exec, execPowerOn, retentionOf, h, State.powerOnLost], fun s => ?_⟩
  have hx : exec (.powerOn true true) s = .next s.powerOnRetained.placeEvery := rfl
  obtain ⟨frame, links⟩ := s.powerOnRetained.placeEvery_rowsOnly
  obtain ⟨banks, circuits⟩ := s.powerOnRetained.placeEvery_patch
  have row (l : LinkId) {r : Nat} (hr : rackOk r = true) := s.powerOnRetained.row_placeEvery l hr
  generalize s.powerOnRetained.placeEvery = t at hx frame links banks circuits row
  have circuit (n : Nat) : t.circuit n = (s.circuit n).powerOn :=
    (State.circuit_congr circuits n).trans (s.powerOnRetained_circuit n)
  refine ⟨t, hx, frame.trans ?_, fun b => ?_, fun n => ?_, fun n => ?_, fun l => ?_, fun l r hr => ?_⟩
  · rw [banks, circuits]; rfl
  · rw [State.bank, banks]
    exact s.powerOnRetained_bank b
  · rw [circuit]; rfl
  · rw [circuit]; exact Circuit.powerOn_resend _
  · rw [links, State.powerOnRetained_link]; rfl
  · rw [row l hr, State.placed, State.owedOrders_congr (State.circuit_congr circuits) l r, State.powerOnRetained_row]
    rfl

/-! ### A port's own events (O19) -/

theorem State.setPort_sameButPort (s : State) (p : Port) (v : PortState) : s.SameButPort (s.setPort p v) p :=
  ⟨by cases p <;> rfl, s.setPort_other p v⟩

/-- Settles O19: both events write their port alone. -/
theorem timeout_and_answer_sent : Obligations.Timeout_and_answer_sent := by
  refine fun s p => ⟨fun h => ⟨s.closeEarly p, by simp [exec, execInactivityTimeout, h], ?_⟩,
    fun h => ⟨s.setPort p { s.port p with outgoing := (s.port p).outgoing.tail }, by simp [exec, execAnswerWhollySent, h],
      s.setPort_sameButPort .., by simp⟩, fun t ht => ?_,
    fun t ht => ?_⟩
  · rw [State.closeEarly_eq]
    exact ⟨s.setPort_sameButPort .., by simp⟩
  · simp only [PortState.earlyAnswers, ht, Transfer.earlyAnswer]
    rfl
  · simp only [PortState.earlyAnswers, ht, Transfer.earlyAnswer]
    rfl

/-! ### The circuit an edit uses (O21) -/

/-- Settles O21: the arms of `State.resolve`, row by row of R8. -/
theorem edit_resolves_circuit : Obligations.Edit_resolves_circuit := by
  intro s n m
  unfold State.resolve
  refine ⟨fun hr => by rw [hr], fun hr => ⟨fun hp => ?_, fun hp => ?_⟩, fun hr => ?_⟩
  · rw [hr]
    rcases hp with hp | hp <;> rw [hp]
  · rw [hr]
    rcases hp with hp | hp <;> rw [hp]
  · rcases hr with hr | hr | hr | hr <;> rw [hr]

/-! ### A rewriting and its UNDO (O30) -/

/-- Bank order leaves one listing of what a bank holds. -/
theorem eq_of_sorted {rs rs' : List PatchRec} (h : rs.Pairwise fun r r' => recBefore r r' = true)
    (h' : rs'.Pairwise fun r r' => recBefore r r' = true) (hp : rs.Perm rs') : rs = rs' :=
  hp.eq_of_pairwise (fun a b _ _ hab hba => absurd (recBefore_trans hab hba) (by simp [recBefore_iff])) h h'

/-- Records of different keys, rewritten with channels kept and different circuits kept different, are again of different keys. -/
theorem keys_map {rs : List PatchRec} {f : PatchRec → PatchRec} (hs : rs.Pairwise fun r r' => recBefore r r' = true)
    (hch : ∀ r, (f r).channel = r.channel)
    (hinj : ∀ r ∈ rs, ∀ r' ∈ rs, (f r).circuit = (f r').circuit → r.circuit = r'.circuit) :
    (rs.map f).Pairwise fun a b => ¬ (b.channel = a.channel ∧ b.circuit = a.circuit) :=
  List.pairwise_map.mpr ((keys_of_sorted hs).imp_of_mem fun {a b} ha hb hk hab =>
    hk ⟨hch b ▸ hch a ▸ hab.1, hinj b hb a ha hab.2⟩)

/-- A record of a bank where nothing uses the spare is brought back as it was. -/
theorem PatchRec.backTo_ontoSpare {failed spare : Nat} {r : PatchRec} (hs : r.circuit ≠ spare)
    (ho : r.circuit = failed → r.original = none) : (r.ontoSpare failed spare).backTo failed spare = r := by
  unfold PatchRec.ontoSpare
  split
  · rename_i hf
    obtain ⟨ch, ck, prop, orig⟩ := r
    cases hf
    cases ho rfl
    simp [PatchRec.backTo]
  · simp [PatchRec.backTo, hs]

/-- Settles O30: on such banks the moving keeps keys different, and moving back is its inverse record by record. -/
theorem undo_rewriting_restores_records : Obligations.Undo_rewriting_restores_records := by
  intro s failed spare hne hsorted hfree
  have inj (b : Nat) : ∀ r ∈ s.records b, ∀ r' ∈ s.records b,
      (r.ontoSpare failed spare).circuit = (r'.ontoSpare failed spare).circuit → r.circuit = r'.circuit :=
    fun r hr r' hr' => PatchRec.ontoSpare_inj (hfree b r hr).1 (hfree b r' hr').1
  have moved (b : Nat) := sorted_sortRecs (keys_map (hsorted b) (fun r => r.ontoSpare_channel failed spare) (inj b))
  refine ⟨fun b => ⟨?_, fun r => ?_⟩, fun b => ?_⟩
  · rw [State.records_rewriteRecords]
    exact moved b
  · rw [State.records_rewriteRecords, mem_sortRecs, List.mem_map]
    refine exists_congr fun r₀ => and_congr_right fun _ => ?_
    unfold PatchRec.ontoSpare
    split <;> exact eq_comm
  · have back : (sortRecs ((s.records b).map (PatchRec.ontoSpare failed spare))).map (PatchRec.backTo failed spare)
        |>.Perm (s.records b) := by
      refine ((perm_sortRecs _).map _).trans (List.Perm.of_eq ?_)
      rw [List.map_map]
      exact (List.map_congr_left fun r hr => PatchRec.backTo_ontoSpare (hfree b r hr).1 (hfree b r hr).2).trans
        (List.map_id _)
    have sorted : (sortRecs ((sortRecs ((s.records b).map (PatchRec.ontoSpare failed spare))).map
        (PatchRec.backTo failed spare))).Pairwise fun r r' => recBefore r r' = true :=
      sorted_sortRecs ((back.pairwise_iff fun {x y} h e => h ⟨e.1.symm, e.2.symm⟩).mpr (keys_of_sorted (hsorted b)))
    rw [State.bank_rewriteRecords, State.records_rewriteRecords, State.bank_rewriteRecords,
      eq_of_sorted sorted (hsorted b) ((perm_sortRecs _).trans back)]
    rfl

end Sys2Proof.Machine
end

section
/-!
The patch requests, answered as R10 to R19 and R26, R27 say (O22 to O26, O28).
-/

namespace Sys2Proof.Machine

section
variable {s t : State}

/-! ### No patch request looks at the ports -/

theorem State.storeRecord_withPorts (s : State) (q : Ports) (l : Option Port) (b ch ck prop : Nat) :
    (s.withPorts q l).storeRecord b ch ck prop = (s.storeRecord b ch ck prop).map fun x => (x.1.withPorts q l, x.2) := by
  unfold State.storeRecord
  simp only [State.resolve_withPorts, State.records_withPorts, State.hasRoom_withPorts, State.setRecords_withPorts]
  cases s.resolve ck with
  | none => rfl
  | some x =>
    dsimp only
    cases findRec (s.records b) ch x.1 with
    | some r => rfl
    | none =>
      by_cases hroom : s.hasRoom b ch x.1 = true
      · simp only [hroom, if_true]; rfl
      · simp only [hroom]; rfl

theorem patchSet_ignores : IgnoresPorts patchSet := by
  intro ps s q l
  unfold patchSet
  split
  · rename_i b ch1 ch0 ck1 ck0 pr
    simp only [State.editRefusal_withPorts, State.storeRecord_withPorts]
    cases s.editRefusal (bankOk b.toNat && channelOk (word ch1 ch0) && circuitOk (word ck1 ck0)) b.toNat with
    | some o => rfl
    | none => cases s.storeRecord b.toNat (word ch1 ch0) (word ck1 ck0) (clampProportion pr.toNat) <;> rfl
  · rfl

theorem patchSetIf_ignores : IgnoresPorts patchSetIf := by
  intro ps s q l
  unfold patchSetIf
  split
  · rename_i b ch1 ch0 ck1 ck0 pr present ex
    simp only [State.editRefusal_withPorts, State.storeRecord_withPorts, State.resolve_withPorts, State.records_withPorts]
    cases s.editRefusal (bankOk b.toNat && channelOk (word ch1 ch0) && circuitOk (word ck1 ck0) &&
        (present == 0 || (present == 1 && decide (ex.toNat ≤ 100)))) b.toNat with
    | some o => rfl
    | none =>
      cases s.resolve (word ck1 ck0) with
      | none => rfl
      | some x =>
        dsimp only
        generalize (if present = 0 then none else some ex.toNat) = expected
        by_cases hnow : (findRec (s.records b.toNat) (word ch1 ch0) x.1).map PatchRec.proportion = expected
        · simp only [hnow, if_true]
          cases s.storeRecord b.toNat (word ch1 ch0) (word ck1 ck0) (clampProportion pr.toNat) <;> rfl
        · simp only [hnow, if_false]
  · rfl

theorem patchClear_ignores : IgnoresPorts patchClear := by
  intro ps s q l
  unfold patchClear
  split
  · rename_i b ch1 ch0 ck1 ck0
    simp only [State.editRefusal_withPorts, State.resolve_withPorts, State.records_withPorts, State.setRecords_withPorts]
    cases s.editRefusal (bankOk b.toNat && channelOk (word ch1 ch0) && circuitOk (word ck1 ck0)) b.toNat with
    | some o => rfl
    | none =>
      cases s.resolve (word ck1 ck0) with
      | none => rfl
      | some x =>
        dsimp only
        cases findRec (s.records b.toNat) (word ch1 ch0) x.1 <;> rfl
  · rfl

theorem patchClearIf_ignores : IgnoresPorts patchClearIf := by
  intro ps s q l
  unfold patchClearIf
  split
  · rename_i b ch1 ch0 ck1 ck0 ex
    simp only [State.editRefusal_withPorts, State.resolve_withPorts, State.records_withPorts, State.setRecords_withPorts]
    cases s.editRefusal (bankOk b.toNat && channelOk (word ch1 ch0) && circuitOk (word ck1 ck0) &&
        decide (ex.toNat ≤ 100)) b.toNat with
    | some o => rfl
    | none =>
      cases s.resolve (word ck1 ck0) with
      | none => rfl
      | some x =>
        dsimp only
        cases findRec (s.records b.toNat) (word ch1 ch0) x.1 with
        | none => rfl
        | some r => by_cases hp : r.proportion = ex.toNat <;> simp only [hp, if_true, if_false]
  · rfl

theorem patchClearChannel_ignores : IgnoresPorts patchClearChannel := by
  intro ps s q l
  unfold patchClearChannel
  split
  · rename_i b ch1 ch0
    simp only [State.editRefusal_withPorts, State.records_withPorts, State.setRecords_withPorts]
    cases s.editRefusal (bankOk b.toNat && channelOk (word ch1 ch0)) b.toNat <;> rfl
  · rfl

theorem patchSwap_ignores : IgnoresPorts patchSwap := by
  intro ps s q l
  unfold patchSwap
  split
  · rename_i b a1 a0 b1 b0
    simp only [State.editRefusal_withPorts, State.records_withPorts, State.circuit_withPorts, State.setRecords_withPorts]
    cases s.editRefusal (bankOk b.toNat && circuitOk (word a1 a0) && circuitOk (word b1 b0)) b.toNat with
    | some o => rfl
    | none =>
      by_cases hswap : ((s.circuit (word a1 a0)).swappable && (s.circuit (word b1 b0)).swappable) = true
      · by_cases hsame : word a1 a0 = word b1 b0
        · simp only [hswap, if_true, if_pos hsame]
        · simp only [hswap, if_true, if_neg hsame]
      · simp only [hswap]; rfl
  · rfl

theorem bankCopy_ignores : IgnoresPorts bankCopy := by
  intro ps s q l
  unfold bankCopy
  split
  · rename_i src dst
    simp only [State.editRefusal_withPorts, State.records_withPorts, State.poolCount_withPorts, State.setRecords_withPorts]
    cases s.editRefusal (bankOk src.toNat && bankOk dst.toNat) dst.toNat with
    | some o => rfl
    | none =>
      by_cases hsame : src = dst
      · simp only [hsame, if_true]
      · by_cases hfull : Config.poolRecords < s.poolCount - (s.records dst.toNat).length + (s.records src.toNat).length <;>
          simp only [hsame, hfull, if_true, if_false]
  · rfl

theorem bankErase_ignores : IgnoresPorts bankErase := by
  intro ps s q l
  unfold bankErase
  split
  · rename_i b
    simp only [State.editRefusal_withPorts, State.records_withPorts, State.bank_withPorts, State.withPorts_liveBank,
      State.setBank_withPorts]
    cases s.editRefusal (bankOk b.toNat) b.toNat with
    | some o => rfl
    | none => by_cases hlive : b.toNat = s.liveBank <;> simp only [hlive, if_true, if_false]
  · rfl

theorem setBankLock_ignores (on : Bool) : IgnoresPorts (setBankLock on) := by
  intro ps s q l
  unfold setBankLock
  split
  · rename_i b
    simp only [State.bank_withPorts, State.setBank_withPorts]
    cases bankOk b.toNat <;> rfl
  · rfl

/-- The tally of a run with other ports under it. -/
def RunTally.withPorts (x : RunTally) (q : Ports) (l : Option Port) : RunTally := { x with state := x.state.withPorts q l }

theorem rangePair_withPorts (b ch ck prop : Nat) (x : RunTally) (i : Nat) (q : Ports) (l : Option Port) :
    rangePair b ch ck prop (x.withPorts q l) i = (rangePair b ch ck prop x i).withPorts q l := by
  unfold rangePair RunTally.withPorts
  simp only [State.storeRecord_withPorts]
  cases x.state.storeRecord b (ch + i) (ck + i) prop <;> rfl

theorem rangeFold_withPorts (b ch ck prop : Nat) (is : List Nat) (x : RunTally) (q : Ports) (l : Option Port) :
    is.foldl (rangePair b ch ck prop) (x.withPorts q l) = (is.foldl (rangePair b ch ck prop) x).withPorts q l := by
  induction is generalizing x with
  | nil => rfl
  | cons i is ih => rw [List.foldl_cons, rangePair_withPorts, ih]; rfl

theorem patchRange_ignores : IgnoresPorts patchRange := by
  intro ps s q l
  unfold patchRange
  split
  · rename_i b ch1 ch0 ck1 ck0 n1 n0 pr
    have fold := rangeFold_withPorts b.toNat (word ch1 ch0) (word ck1 ck0) (clampProportion pr.toNat) (List.range (word n1 n0))
      ⟨s, 0, none⟩ q l
    rw [RunTally.withPorts] at fold
    simp only [State.editRefusal_withPorts, fold]
    cases s.editRefusal (bankOk b.toNat && decide (1 ≤ word n1 n0) && decide (word n1 n0 ≤ 256) &&
        channelOk (word ch1 ch0) && circuitOk (word ck1 ck0) &&
        decide (word ch1 ch0 + word n1 n0 - 1 ≤ 1024) && decide (word ck1 ck0 + word n1 n0 - 1 ≤ 2048)) b.toNat with
    | some o => rfl
    | none =>
      generalize (List.range (word n1 n0)).foldl (rangePair b.toNat (word ch1 ch0) (word ck1 ck0) (clampProportion pr.toNat))
        ⟨s, 0, none⟩ = x
      obtain ⟨u, n, first⟩ := x
      cases first <;> rfl
  · rfl

/-! ### The order of checks (O22) -/

/-- The checks of R10 in their order. -/
theorem State.editRefusal_eq (s : State) (x : Bool) (b : Nat) : s.editRefusal x b =
    if x = false then some .range
    else if s.changeover.phase = .darkening ∧ s.changeover.target = some b then some .changing
    else if (s.bank b).locked = true then some .locked else none := by
  have hc : s.changingBank b = true ↔ s.changeover.phase = .darkening ∧ s.changeover.target = some b := by
    simp [State.changingBank, State.darkening]
  unfold State.editRefusal State.bankRefusal
  cases x <;> simp [hc]

theorem State.editRefusal_of {x : Bool} {b : Nat} (hx : x = true) (hc : s.changingBank b = false) (hl : (s.bank b).locked = false) :
    s.editRefusal x b = none := s.editRefusal_none.mpr ⟨hx, hc, hl⟩

end

/-- Settles O22: the checks of each edit are `State.editRefusal`, whose order `State.editRefusal_eq` says, and then R8 or R16. -/
theorem patch_edits_are_checked_in_order : Obligations.Patch_edits_are_checked_in_order := by
  intro s b ch1 ch0 ck1 ck0 x y n1 n0 bank order pair expected both swaps
  have horder (inRange : Bool) : order inRange = s.editRefusal inRange b.toNat := (s.editRefusal_eq inRange b.toNat).symm
  have hrange : (pair && decide (1 ≤ word n1 n0) && decide (word n1 n0 ≤ 256) &&
        decide (word ch1 ch0 + word n1 n0 - 1 ≤ 1024) && decide (word ck1 ck0 + word n1 n0 - 1 ≤ 2048)) =
      (bankOk b.toNat && decide (1 ≤ word n1 n0) && decide (word n1 n0 ≤ 256) && channelOk (word ch1 ch0) &&
        circuitOk (word ck1 ck0) && decide (word ch1 ch0 + word n1 n0 - 1 ≤ 1024) &&
        decide (word ck1 ck0 + word n1 n0 - 1 ≤ 2048)) := by
    simp only [pair]
    ac_rfl
  have hswaps : ¬ (swaps (word ck1 ck0) ∧ swaps (word n1 n0)) →
      ((s.circuit (word ck1 ck0)).swappable && (s.circuit (word n1 n0)).swappable) = false := fun h => by
    simpa only [swaps, ← Circuit.swappable_iff, ← Bool.and_eq_true, Bool.not_eq_true] using h
  simp only [horder, hrange]
  simp only [pair, expected, both, bank]
  refine ⟨fun o h => ⟨?_, ?_⟩, fun o h => ?_, fun o h => ?_, fun o h => ?_, fun o h => ?_, fun o h => ?_,
    fun hres => ⟨fun h => ?_, fun h => ?_, fun h => ?_⟩, fun h hs => ?_⟩
  · exact State.serves_unchanged rfl patchSet_ignores (by simp only [patchSet, h])
  · exact State.serves_unchanged rfl patchClear_ignores (by simp only [patchClear, h])
  · exact State.serves_unchanged rfl patchSetIf_ignores (by simp only [patchSetIf, h])
  · exact State.serves_unchanged rfl patchClearIf_ignores (by simp only [patchClearIf, h])
  · exact State.serves_unchanged rfl patchClearChannel_ignores (by simp only [patchClearChannel, h])
  · exact State.serves_unchanged rfl patchSwap_ignores (by simp only [patchSwap, h])
  · exact State.serves_unchanged rfl patchRange_ignores (by simp only [patchRange, h])
  · exact State.serves_unchanged rfl patchClear_ignores (by simp only [patchClear, h, hres])
  · exact State.serves_unchanged rfl patchSetIf_ignores (by simp only [patchSetIf, h, hres])
  · exact State.serves_unchanged rfl patchClearIf_ignores (by simp only [patchClearIf, h, hres])
  · exact State.serves_unchanged rfl patchSwap_ignores (by simp only [patchSwap, h, hswaps hs, Bool.false_eq_true, if_false])

section
variable {s t : State}

/-! ### One bank edited -/

/-- After the writing of a bank, whatever the ports: no other bank and nothing else differs. -/
theorem State.SameButPorts.setBank {b : Nat} {v : Bank} (h : (s.setBank b v).SameButPorts t) :
    s.SameButBanks t ∧ (∀ b', b' ≠ b → t.bank b' = s.bank b') ∧ t.bank b = v := by
  rw [h.eq]
  refine ⟨rfl, fun b' hb => ?_, ?_⟩ <;> rw [State.bank_withPorts, State.bank_setBank]
  · exact if_neg hb.symm
  · exact if_pos rfl

/-- After the writing of a bank's records, whatever the ports: no lock, no look, no other bank and nothing else differs. -/
theorem State.SameButPorts.setRecords {b : Nat} {rs : List PatchRec} (h : (s.setRecords b rs).SameButPorts t) :
    (s.SameButBanks t ∧ ∀ b', (t.bank b').locked = (s.bank b').locked ∧ (t.bank b').looks = (s.bank b').looks ∧
      (b' ≠ b → t.records b' = s.records b')) ∧ t.records b = rs := by
  obtain ⟨frame, others, hb⟩ := State.SameButPorts.setBank (v := { s.bank b with records := rs }) h
  refine ⟨⟨frame, fun b' => ?_⟩, by rw [State.records, hb]⟩
  by_cases e : b' = b
  · subst e
    rw [hb]
    exact ⟨rfl, rfl, fun hne => absurd rfl hne⟩
  · rw [others b' e]
    exact ⟨rfl, rfl, fun _ => by rw [State.records, others b' e]; rfl⟩

/-! ### Storing a record (O23) -/

theorem State.storeRecord_conflict {b ch ck prop : Nat} (h : s.resolve ck = none) :
    s.storeRecord b ch ck prop = .error .conflict := by unfold State.storeRecord; rw [h]

theorem State.storeRecord_replace {b ch ck prop used : Nat} {orig : Option Nat} {r : PatchRec}
    (h : s.resolve ck = some (used, orig)) (hf : findRec (s.records b) ch used = some r) :
    s.storeRecord b ch ck prop = .ok (s.setRecords b (replaceRec (s.records b) ch used prop), { r with proportion := prop }, 0) := by
  simp only [State.storeRecord, h, hf]

theorem State.storeRecord_full {b ch ck prop used : Nat} {orig : Option Nat} (h : s.resolve ck = some (used, orig))
    (hf : findRec (s.records b) ch used = none) (hroom : s.hasRoom b ch used = false) :
    s.storeRecord b ch ck prop = .error .full := by
  simp only [State.storeRecord, h, hf, hroom, Bool.false_eq_true, if_false]

theorem State.storeRecord_add {b ch ck prop used : Nat} {orig : Option Nat} (h : s.resolve ck = some (used, orig))
    (hf : findRec (s.records b) ch used = none) (hroom : s.hasRoom b ch used = true) :
    s.storeRecord b ch ck prop =
      .ok (s.setRecords b (insertRec ⟨ch, used, prop, orig⟩ (s.records b)), ⟨ch, used, prop, orig⟩, 1) := by
  simp only [State.storeRecord, h, hf, hroom, if_true]

/-- A record joins behind all it does not stand before, and ahead of the first it stands before. -/
theorem insertRec_eq_append (r : PatchRec) (rs : List PatchRec) : ∃ before after, rs = before ++ after ∧
    insertRec r rs = before ++ r :: after ∧ (∀ x ∈ before, ¬ recBefore r x = true) ∧
      ∀ x, after.head? = some x → recBefore r x = true := by
  induction rs with
  | nil => exact ⟨[], [], rfl, rfl, nofun, nofun⟩
  | cons x rs ih =>
    unfold insertRec
    by_cases h : recBefore r x = true
    · refine ⟨[], x :: rs, rfl, if_pos h, nofun, fun y hy => ?_⟩
      cases hy
      exact h
    · obtain ⟨before, after, hrs, hins, hb, ha⟩ := ih
      refine ⟨x :: before, after, by rw [hrs]; rfl, by rw [if_neg h, hins]; rfl, fun y hy => ?_, ha⟩
      rcases List.mem_cons.mp hy with rfl | hy
      · exact h
      · exact hb y hy

theorem replaceRec_eq (rs : List PatchRec) (ch ck prop : Nat) : replaceRec rs ch ck prop =
    rs.map fun x => if x.channel = ch ∧ x.circuit = ck then { x with proportion := prop } else x := by
  simp only [replaceRec, PatchRec.isFor_iff]

end

/-- Settles O23: past the checks of R10 a PATCH-SET is `State.storeRecord`, case by case. -/
theorem patch_set_replaces_or_adds : Obligations.Patch_set_replaces_or_adds := by
  intro s b ch1 ch0 ck1 ck0 pr hb hch hck hchanging hlocked ps frame
  have may := State.editRefusal_of (x := bankOk b.toNat && channelOk (word ch1 ch0) && circuitOk (word ck1 ck0))
    (by rw [hb, hch, hck]; rfl) hchanging hlocked
  have refused {o : ReqOutcome} (h : s.storeRecord b.toNat (word ch1 ch0) (word ck1 ck0) (min pr.toNat 100) = .error o) :
      s.Serves .patchSet .patchSet ps (.refuse o) s.SameButPorts :=
    State.serves_unchanged rfl patchSet_ignores (by simp only [ps, patchSet, may, clampProportion, h])
  have stored {r : PatchRec} {n : Nat} {rs : List PatchRec} {after : State → Prop}
      (h : s.storeRecord b.toNat (word ch1 ch0) (word ck1 ck0) (min pr.toNat 100) = .ok (s.setRecords b.toNat rs, r, n))
      (hafter : ∀ t, frame t → t.records b.toNat = rs → after t) :
      s.Serves .patchSet .patchSet ps (.done n (recData r)) after :=
    State.serves_of_perform rfl patchSet_ignores (by simp only [ps, patchSet, may, clampProportion, h]) (by rfl)
      fun t ht => hafter t ht.setRecords.1 ht.setRecords.2
  refine ⟨fun hr => refused (State.storeRecord_conflict hr), fun used orig hr => ⟨fun r hf => ?_, fun hf hroom => ?_,
    fun hf hroom => ?_⟩⟩
  · exact stored (State.storeRecord_replace hr hf) fun t ht hrs => ⟨ht, hrs.trans (replaceRec_eq ..)⟩
  · exact refused (State.storeRecord_full hr hf hroom)
  · refine stored (State.storeRecord_add hr hf hroom) fun t ht hrs => ⟨ht, ?_⟩
    obtain ⟨before, after, h1, h2, h3, h4⟩ :=
      insertRec_eq_append ⟨word ch1 ch0, used, min pr.toNat 100, orig⟩ (s.records b.toNat)
    exact ⟨before, after, h1, hrs.trans h2, h3, h4⟩

/-- Settles O24: past the checks of R10 and R8 each is decided by the record found. -/
theorem conditional_set_and_clears : Obligations.Conditional_set_and_clears := by
  refine ⟨fun s b ch1 ch0 ck1 ck0 pr present ex used orig hb hch hck hchanging hlocked hex hr => ?_,
    fun s b ch1 ch0 ck1 ck0 ex used orig hb hch hck hchanging hlocked hr hex => ?_⟩
  · intro ps now
    have may := State.editRefusal_of (x := bankOk b.toNat && channelOk (word ch1 ch0) && circuitOk (word ck1 ck0) &&
      (present == 0 || (present == 1 && decide (ex.toNat ≤ 100)))) (by simpa [hb, hch, hck] using hex) hchanging hlocked
    refine ⟨fun hne => ?_, fun heq => ?_⟩
    · exact State.serves_unchanged rfl patchSetIf_ignores (by simp only [ps, patchSetIf, may, hr]; exact if_neg hne)
    · split
      · rename_i s' r n hstore
        refine State.serves_of_perform (u := s') rfl patchSetIf_ignores ?_ (by rw [s.storeRecord_frame hstore]) fun t ht => ?_
        · simp only [ps, patchSetIf, may, hr, clampProportion, hstore]
          exact if_pos heq
        · have hs' := s.storeRecord_frame hstore
          refine ⟨?_, ht.banks⟩
          rw [ht.eq, hs']
          rfl
      · rename_i o hstore
        refine State.serves_unchanged rfl patchSetIf_ignores ?_
        simp only [ps, patchSetIf, may, hr, clampProportion, hstore]
        exact if_pos heq
  · intro removed
    have may := State.editRefusal_of (x := bankOk b.toNat && channelOk (word ch1 ch0) && circuitOk (word ck1 ck0))
      (by rw [hb, hch, hck]; rfl) hchanging hlocked
    have mayIf := State.editRefusal_of (x := bankOk b.toNat && channelOk (word ch1 ch0) && circuitOk (word ck1 ck0) &&
      decide (ex.toNat ≤ 100)) (by simp [hb, hch, hck, hex]) hchanging hlocked
    have gone (t : State) (ht : (s.setRecords b.toNat (removeRec (s.records b.toNat) (word ch1 ch0) used)).SameButPorts t) :
        removed t := ⟨ht.setRecords.1.1, ht.setRecords.1.2, ht.setRecords.2⟩
    split
    · rename_i hf
      exact ⟨State.serves_unchanged rfl patchClear_ignores (by simp only [patchClear, may, hr, hf]),
        State.serves_unchanged rfl patchClearIf_ignores (by simp only [patchClearIf, mayIf, hr, hf])⟩
    · rename_i r hf
      refine ⟨State.serves_of_perform rfl patchClear_ignores (by simp only [patchClear, may, hr, hf]) (by rfl) gone, ?_⟩
      split
      · rename_i hp
        exact State.serves_of_perform rfl patchClearIf_ignores (by simp only [patchClearIf, mayIf, hr, hf, hp, if_true]) (by rfl) gone
      · rename_i hp
        exact State.serves_unchanged rfl patchClearIf_ignores (by simp only [patchClearIf, mayIf, hr, hf, hp, if_false])

/-- Settles O25: a removal of a channel's records; and an exchange, which keeps keys different, followed by a sort. -/
theorem channel_clear_and_swap : Obligations.Channel_clear_and_swap := by
  intro s b ch1 ch0 a1 a0 c1 c0 hb hchanging hlocked others
  refine ⟨fun hch => ?_, fun ha hc hne sa sc hsorted => ?_, fun ha sa => ?_⟩
  · have may := State.editRefusal_of (x := bankOk b.toNat && channelOk (word ch1 ch0)) (by rw [hb, hch]; rfl) hchanging hlocked
    exact State.serves_of_perform rfl patchClearChannel_ignores (by simp only [patchClearChannel, may]) (by rfl)
      fun t ht => ht.setRecords
  · have may := State.editRefusal_of (x := bankOk b.toNat && circuitOk (word a1 a0) && circuitOk (word c1 c0))
      (by rw [hb, ha, hc]; rfl) hchanging hlocked
    refine State.serves_of_perform rfl patchSwap_ignores
      (by simp only [patchSwap, may, sa, sc, Bool.and_self, if_true, hne, if_false]; rfl) (by rfl) fun t ht => ?_
    obtain ⟨hothers, hrs⟩ := ht.setRecords
    refine ⟨hothers, ?_, fun r => ?_⟩ <;> rw [hrs]
    · exact sorted_sortRecs (keys_exchange hsorted _ _)
    · rw [mem_sortRecs, List.mem_map]
      refine exists_congr fun r₀ => and_congr_right fun _ => ?_
      rw [eq_comm]
      unfold PatchRec.exchange
      split_ifs <;> rfl
  · have may := State.editRefusal_of (x := bankOk b.toNat && circuitOk (word a1 a0) && circuitOk (word a1 a0))
      (by rw [hb, ha]; rfl) hchanging hlocked
    exact State.serves_unchanged rfl patchSwap_ignores (by simp only [patchSwap, may, sa, Bool.and_self, if_true])

/-! ### PATCH-RANGE (O26) -/

section
variable (b ch ck prop : Nat)

/-- The run of a range's first pairs. -/
def rangeRun (s : State) (n : Nat) : RunTally := (List.range n).foldl (rangePair b ch ck prop) ⟨s, 0, none⟩

/-- What becomes of the pair that follows so many. -/
def rangeOutcome (s : State) (i : Nat) : Option ReqOutcome :=
  match (rangeRun b ch ck prop s i).state.storeRecord b (ch + i) (ck + i) prop with
  | .ok _ => none
  | .error o => some o

theorem rangeRun_succ (s : State) (n : Nat) :
    rangeRun b ch ck prop s (n + 1) = rangePair b ch ck prop (rangeRun b ch ck prop s n) n := by
  simp [rangeRun, List.range_succ]

/-- The tally counts the pairs that failed and keeps the first. -/
theorem rangeRun_tally (s : State) (n : Nat) :
    (rangeRun b ch ck prop s n).failed = ((List.range n).filter fun i => (rangeOutcome b ch ck prop s i).isSome).length ∧
    (rangeRun b ch ck prop s n).first = (((List.range n).filter fun i => (rangeOutcome b ch ck prop s i).isSome).head?.map
      fun i => (i + 1, (rangeOutcome b ch ck prop s i).getD .full)) := by
  induction n with
  | zero => exact ⟨rfl, rfl⟩
  | succ n ih =>
    obtain ⟨hfailed, hfirst⟩ := ih
    rw [rangeRun_succ, List.range_succ, List.filter_append]
    have hout : rangeOutcome b ch ck prop s n =
      match (rangeRun b ch ck prop s n).state.storeRecord b (ch + n) (ck + n) prop with
      | .ok _ => none
      | .error o => some o := rfl
    unfold rangePair
    cases hstore : (rangeRun b ch ck prop s n).state.storeRecord b (ch + n) (ck + n) prop with
    | ok x =>
      rw [hstore] at hout
      have none_more : [n].filter (fun i => (rangeOutcome b ch ck prop s i).isSome) = [] := by simp [hout]
      rw [none_more, List.append_nil]
      exact ⟨hfailed, hfirst⟩
    | error o =>
      rw [hstore] at hout
      simp only [hfailed, hfirst]
      cases (List.range n).filter fun i => (rangeOutcome b ch ck prop s i).isSome <;> simp [hout]

end

/-- The answer a range's tally gives (R19). -/
def RunTally.reply (x : RunTally) : Reply :=
  match x.first with
  | none => .done 0 []
  | some (i, o) => ⟨.inPart, x.failed, enc1 i ++ enc1 o.code⟩

/-- Past its checks a PATCH-RANGE is the run of its pairs, answered by its tally. -/
theorem patchRange_eq {s : State} {b ch1 ch0 ck1 ck0 n1 n0 pr : Byte}
    (may : s.editRefusal (bankOk b.toNat && decide (1 ≤ word n1 n0) && decide (word n1 n0 ≤ 256) &&
      channelOk (word ch1 ch0) && circuitOk (word ck1 ck0) && decide (word ch1 ch0 + word n1 n0 - 1 ≤ 1024) &&
      decide (word ck1 ck0 + word n1 n0 - 1 ≤ 2048)) b.toNat = none) :
    patchRange [b, ch1, ch0, ck1, ck0, n1, n0, pr] s =
      ((rangeRun b.toNat (word ch1 ch0) (word ck1 ck0) (min pr.toNat 100) s (word n1 n0)).state,
        (rangeRun b.toNat (word ch1 ch0) (word ck1 ck0) (min pr.toNat 100) s (word n1 n0)).reply) := by
  simp only [patchRange, may, clampProportion]
  unfold RunTally.reply rangeRun
  split <;> simp_all

/-- Settles O26: the tally of the run, read off pair by pair. -/
theorem patch_range_runs_its_pairs : Obligations.Patch_range_runs_its_pairs := by
  intro s b ch1 ch0 ck1 ck0 n1 n0 pr hb hch hck h1 h256 hchs hcks hchanging hlocked
  have may := State.editRefusal_of (x := bankOk b.toNat && decide (1 ≤ word n1 n0) && decide (word n1 n0 ≤ 256) &&
      channelOk (word ch1 ch0) && circuitOk (word ck1 ck0) && decide (word ch1 ch0 + word n1 n0 - 1 ≤ 1024) &&
      decide (word ck1 ck0 + word n1 n0 - 1 ≤ 2048)) (by simp [hb, hch, hck, h1, h256, hchs, hcks]) hchanging hlocked
  refine ⟨fun i => (rangeRun b.toNat (word ch1 ch0) (word ck1 ck0) (min pr.toNat 100) s i).state,
    rangeOutcome b.toNat (word ch1 ch0) (word ck1 ck0) (min pr.toNat 100) s, rfl, fun i _ => ?_, ?_⟩
  · simp only [rangeRun_succ, rangePair, rangeOutcome]
    split <;> simp_all
  · obtain ⟨hfailed, hfirst⟩ := rangeRun_tally b.toNat (word ch1 ch0) (word ck1 ck0) (min pr.toNat 100) s (word n1 n0)
    have frame := rangeFold_frame b.toNat (word ch1 ch0) (word ck1 ck0) (min pr.toNat 100) (List.range (word n1 n0)) ⟨s, 0, none⟩
    refine State.serves_of_perform rfl patchRange_ignores ((patchRange_eq may).trans (congrArg _ ?_))
      (by rw [rangeRun, frame]) fun t ht => ⟨?_, ht.banks⟩
    · unfold RunTally.reply
      rw [hfailed, hfirst]
      cases (List.range (word n1 n0)).filter fun i =>
        (rangeOutcome b.toNat (word ch1 ch0) (word ck1 ck0) (min pr.toNat 100) s i).isSome <;> rfl
    · rw [ht.eq, rangeRun, frame]
      rfl

/-! ### Banks copied, erased and locked (O28) -/

/-- Settles O28: the checks of each in their order, and the one bank it writes. -/
theorem bank_requests : Obligations.Bank_requests := by
  intro s src dst others order size
  have horder (inRange : Bool) (next : Option ReqOutcome) : order inRange next = (s.editRefusal inRange dst.toNat).or next := by
    rw [State.editRefusal_eq]
    simp only [order]
    split_ifs <;> rfl
  have written {v : Bank} (t : State) (ht : (s.setBank dst.toNat v).SameButPorts t) : others t ∧ t.bank dst.toNat = v :=
    ⟨⟨ht.setBank.1, ht.setBank.2.1⟩, ht.setBank.2.2⟩
  simp only [horder]
  refine ⟨?_, ?_, fun hb => ⟨?_, ?_⟩, fun hb => ⟨?_, ?_⟩⟩
  · cases hedit : s.editRefusal (bankOk src.toNat && bankOk dst.toNat) dst.toNat with
    | some o => exact State.serves_unchanged rfl bankCopy_ignores (by simp only [bankCopy, hedit])
    | none =>
      rw [Option.none_or]
      by_cases hsame : src = dst
      · simp only [if_pos hsame]
        exact State.serves_unchanged rfl bankCopy_ignores (by simp only [bankCopy, hedit, if_pos hsame])
      · by_cases hfull : 8192 < size
        · simp only [hsame, hfull, if_true, if_false]
          exact State.serves_unchanged rfl bankCopy_ignores (by simp only [bankCopy, hedit, hsame, if_false]; exact if_pos hfull)
        · simp only [hsame, hfull, if_false]
          exact State.serves_of_perform rfl bankCopy_ignores
            (by simp only [bankCopy, hedit, hsame, if_false]; exact if_neg hfull) (by rfl) written
  · cases hedit : s.editRefusal (bankOk dst.toNat) dst.toNat with
    | some o => exact State.serves_unchanged rfl bankErase_ignores (by simp only [bankErase, hedit])
    | none =>
      rw [Option.none_or]
      have hlocked := (s.editRefusal_none.mp hedit).2.2
      by_cases hlive : dst.toNat = s.liveBank
      · simp only [if_pos hlive]
        exact State.serves_unchanged rfl bankErase_ignores (by simp only [bankErase, hedit, if_pos hlive])
      · simp only [hlive, if_false]
        exact State.serves_of_perform rfl bankErase_ignores (by simp only [bankErase, hedit, hlive, if_false, hlocked]) (by rfl) written
  · exact State.serves_of_perform rfl (setBankLock_ignores true) (by simp only [setBankLock, hb, if_true]) (by rfl) written
  · exact State.serves_of_perform rfl (setBankLock_ignores false) (by simp only [setBankLock, hb, if_true]) (by rfl) written
  · exact State.serves_unchanged rfl (setBankLock_ignores true) (by simp only [setBankLock, hb, Bool.false_eq_true, if_false])
  · exact State.serves_unchanged rfl (setBankLock_ignores false) (by simp only [setBankLock, hb, Bool.false_eq_true, if_false])

end Sys2Proof.Machine
end

section
/-!
An edit and an acknowledgement may be taken in either order (O31): the acknowledgement moves the records of one circuit to another that
no record uses, and every edit works on the records it finds by the moved circuit's number.
-/

namespace Sys2Proof.Machine

/-! ### Listings in bank order -/

/-- A listing in bank order is the sort of whatever holds the same records. -/
theorem sortRecs_eq_of_perm {rs rs' : List PatchRec} (hs : rs.Pairwise fun a b => recBefore a b = true) (hp : rs.Perm rs') :
    sortRecs rs' = rs :=
  have keys : rs'.Pairwise fun a b => ¬ (b.channel = a.channel ∧ b.circuit = a.circuit) :=
    (hp.pairwise_iff fun h e => h ⟨e.1.symm, e.2.symm⟩).mp (keys_of_sorted hs)
  eq_of_sorted (sorted_sortRecs keys) hs ((perm_sortRecs rs').trans hp.symm)

/-- A listing in bank order holds one record of a key. -/
theorem eq_of_key {rs : List PatchRec} (hs : rs.Pairwise fun a b => recBefore a b = true) {r x : PatchRec} (hr : r ∈ rs)
    (hx : x ∈ rs) (hch : r.channel = x.channel) (hck : r.circuit = x.circuit) : r = x := by
  induction rs with
  | nil => exact (List.not_mem_nil hr).elim
  | cons a rs ih =>
    rw [List.pairwise_cons] at hs
    have apart {y : PatchRec} (hy : y ∈ rs) (h1 : a.channel = y.channel) (h2 : a.circuit = y.circuit) : False := by
      have := (recBefore_iff a y).mp (hs.1 y hy)
      omega
    rcases List.mem_cons.mp hr with er | hr <;> rcases List.mem_cons.mp hx with ex | hx
    · exact er.trans ex.symm
    · exact (apart hx (er ▸ hch) (er ▸ hck)).elim
    · exact (apart hr (ex ▸ hch.symm) (ex ▸ hck.symm)).elim
    · exact ih hs.2 hr hx

theorem findRec_eq_some {rs : List PatchRec} (hs : rs.Pairwise fun a b => recBefore a b = true) {ch ck : Nat} {r : PatchRec}
    (hr : r ∈ rs) (hch : r.channel = ch) (hck : r.circuit = ck) : findRec rs ch ck = some r := by
  cases hf : findRec rs ch ck with
  | none => exact absurd ⟨hch, hck⟩ (findRec_none.mp hf r hr)
  | some x =>
    obtain ⟨hx, hxch, hxck⟩ := findRec_some hf
    rw [eq_of_key hs hx hr (hxch.trans hch.symm) (hxck.trans hck.symm)]

/-! ### A move of records -/

section
variable {s t : State}

/-- The circuit a move from `x` to `y` gives a circuit. -/
def movedCircuit (x y n : Nat) : Nat := if n = x then y else n

/-- From `s` to `t` every record was rewritten by `f`, which gives those of circuit `x` the circuit `y` that no record used; and a circuit
that an edit names resolves to where the records of the one it resolved to went. -/
structure State.Moves (s t : State) (f : PatchRec → PatchRec) (x y : Nat) : Prop where
  sorted : ∀ b, (s.records b).Pairwise fun r r' => recBefore r r' = true
  records : ∀ b, t.records b = sortRecs ((s.records b).map f)
  locked : ∀ b, (t.bank b).locked = (s.bank b).locked
  changeover : t.changeover = s.changeover
  pool : t.poolCount = s.poolCount
  channel : ∀ r, (f r).channel = r.channel
  proportion : ∀ r, (f r).proportion = r.proportion
  reset : ∀ r p, f { r with proportion := p } = { f r with proportion := p }
  unused : ∀ b, ∀ r ∈ s.records b, r.circuit ≠ y
  circuit : ∀ b, ∀ r ∈ s.records b, (f r).circuit = movedCircuit x y r.circuit
  conflict : ∀ ck, circuitOk ck = true → s.resolve ck = none → t.resolve ck = none
  resolve : ∀ ck used orig, circuitOk ck = true → s.resolve ck = some (used, orig) → used ≠ y ∧
    ∃ orig', t.resolve ck = some (movedCircuit x y used, orig') ∧
      ∀ ch prop, f ⟨ch, used, prop, orig⟩ = ⟨ch, movedCircuit x y used, prop, orig'⟩

/-- Two edits that leave every bank of the one state as the rewriting of the other's. -/
def RewrittenBy (f : PatchRec → PatchRec) (s t : State) : Prop := ∀ b, t.records b = sortRecs ((s.records b).map f)

theorem RewrittenBy.setRecords {f : PatchRec → PatchRec} (h : RewrittenBy f s t) (b : Nat) {rs rs' : List PatchRec}
    (hrs : rs' = sortRecs (rs.map f)) : RewrittenBy f (s.setRecords b rs) (t.setRecords b rs') := by
  intro b'
  by_cases e : b = b'
  · subst e
    simpa [State.records, State.bank_setRecords] using hrs
  · have := h b'
    simpa [State.records, State.bank_setRecords, e] using this

/-- A circuit other than the one moved onto is moved with no other. -/
theorem movedCircuit_inj {x y n m : Nat} (hn : n ≠ y) (hm : m ≠ y) : movedCircuit x y n = movedCircuit x y m ↔ n = m := by
  unfold movedCircuit
  split_ifs <;> omega

namespace State.Moves

variable {f : PatchRec → PatchRec} {x y : Nat} (h : s.Moves t f x y)
include h

theorem perm (b : Nat) : (t.records b).Perm ((s.records b).map f) := h.records b ▸ perm_sortRecs _

theorem rewritten : RewrittenBy f s t := h.records

/-- The moved records stand in bank order. -/
theorem sorted_moved (b : Nat) : (t.records b).Pairwise fun r r' => recBefore r r' = true := by
  rw [h.records]
  refine sorted_sortRecs (keys_map (h.sorted b) h.channel fun r hr r' hr' e => ?_)
  rwa [h.circuit b r hr, h.circuit b r' hr', movedCircuit_inj (h.unused b r hr) (h.unused b r' hr')] at e

/-- What an edit leaves of the moved records, in bank order and the same as what it leaves of the others, moved. -/
theorem edited {b : Nat} {rs rs' : List PatchRec} (hs : rs'.Pairwise fun r r' => recBefore r r' = true)
    (hp : rs'.Perm (rs.map f)) : RewrittenBy f (s.setRecords b rs) (t.setRecords b rs') :=
  h.rewritten.setRecords b (sortRecs_eq_of_perm hs hp).symm

theorem editRefusal (inRange : Bool) (b : Nat) : t.editRefusal inRange b = s.editRefusal inRange b := by
  simp only [State.editRefusal_eq, h.locked, h.changeover]

/-- A record has the key of an edit exactly where the moved record has the key of the edit taken after the move. -/
theorem isFor {b ch used : Nat} (hu : used ≠ y) {r : PatchRec} (hr : r ∈ s.records b) :
    (f r).isFor ch (movedCircuit x y used) = r.isFor ch used := by
  rw [Bool.eq_iff_iff, PatchRec.isFor_iff, PatchRec.isFor_iff, h.channel, h.circuit b r hr,
    movedCircuit_inj (h.unused b r hr) hu]

theorem findRec {b ch used : Nat} (hu : used ≠ y) :
    findRec (t.records b) ch (movedCircuit x y used) = (findRec (s.records b) ch used).map f := by
  cases hf : Machine.findRec (s.records b) ch used with
  | none =>
    refine findRec_none.mpr fun r hr e => ?_
    obtain ⟨r₀, hr₀, rfl⟩ := List.mem_map.mp ((h.perm b).mem_iff.mp hr)
    rw [← PatchRec.isFor_iff, h.isFor hu hr₀, PatchRec.isFor_iff] at e
    exact findRec_none.mp hf r₀ hr₀ e
  | some r =>
    obtain ⟨hr, hch, hck⟩ := findRec_some hf
    exact findRec_eq_some (h.sorted_moved b) ((h.perm b).mem_iff.mpr (List.mem_map_of_mem hr)) ((h.channel r).trans hch)
      (by rw [h.circuit b r hr, hck])

theorem hasRoom {b ch used : Nat} (hu : used ≠ y) : t.hasRoom b ch (movedCircuit x y used) = s.hasRoom b ch used := by
  have hlen : (t.records b).length = (s.records b).length := by rw [(h.perm b).length_eq, List.length_map]
  have hch : (t.records b).countP (fun r => r.channel == ch) = (s.records b).countP fun r => r.channel == ch := by
    rw [(h.perm b).countP_eq, List.countP_map]
    exact List.countP_congr fun r _ => by simp [h.channel]
  have hck : (t.records b).countP (fun r => r.circuit == movedCircuit x y used) =
      (s.records b).countP fun r => r.circuit == used := by
    rw [(h.perm b).countP_eq, List.countP_map]
    exact List.countP_congr fun r hr => by simp [h.circuit b r hr, movedCircuit_inj (h.unused b r hr) hu]
  simp only [State.hasRoom, hlen, hch, hck, h.pool]

theorem replaceRec {b ch used : Nat} (hu : used ≠ y) (prop : Nat) :
    RewrittenBy f (s.setRecords b (replaceRec (s.records b) ch used prop))
      (t.setRecords b (replaceRec (t.records b) ch (movedCircuit x y used) prop)) := by
  refine h.edited (sorted_replaceRec _ _ _ (h.sorted_moved b)) (((h.perm b).map _).trans (List.Perm.of_eq ?_))
  rw [Machine.replaceRec, List.map_map, List.map_map]
  refine List.map_congr_left fun r hr => ?_
  simp only [Function.comp_apply, h.isFor hu hr]
  split
  · exact (h.reset r prop).symm
  · rfl

theorem insertRec {b ch used : Nat} {orig orig' : Option Nat} (hu : used ≠ y)
    (hnone : Machine.findRec (s.records b) ch used = none) {prop : Nat}
    (hf : f ⟨ch, used, prop, orig⟩ = ⟨ch, movedCircuit x y used, prop, orig'⟩) :
    RewrittenBy f (s.setRecords b (insertRec ⟨ch, used, prop, orig⟩ (s.records b)))
      (t.setRecords b (insertRec ⟨ch, movedCircuit x y used, prop, orig'⟩ (t.records b))) := by
  refine h.edited (sorted_insertRec (h.sorted_moved b) (findRec_none.mp ?_)) ?_
  · rw [h.findRec hu, hnone]; rfl
  · refine ((perm_insertRec _ _).trans ((h.perm b).cons _)).trans ?_
    rw [← hf, ← List.map_cons]
    exact ((perm_insertRec _ _).map f).symm

/-- Records taken out by a test that the move keeps. -/
theorem filter {b : Nat} {keep keep' : PatchRec → Bool} (hkeep : ∀ r ∈ s.records b, keep' (f r) = keep r) :
    RewrittenBy f (s.setRecords b ((s.records b).filter keep)) (t.setRecords b ((t.records b).filter keep')) := by
  refine h.edited ((h.sorted_moved b).filter _) (((h.perm b).filter _).trans (List.Perm.of_eq ?_))
  rw [List.filter_map]
  exact congrArg _ (List.filter_congr hkeep)

theorem removeRec {b ch used : Nat} (hu : used ≠ y) : RewrittenBy f (s.setRecords b (removeRec (s.records b) ch used))
    (t.setRecords b (removeRec (t.records b) ch (movedCircuit x y used))) :=
  h.filter fun r hr => by rw [h.isFor hu hr]

/-! ### The edits -/

/-- An edit that stores a record does so on both sides of the move, or is refused on both. -/
theorem storeRecord {b ch ck prop : Nat} (hck : circuitOk ck = true) :
    (∃ o, s.storeRecord b ch ck prop = .error o ∧ t.storeRecord b ch ck prop = .error o) ∨
    ∃ s' r n t' r', s.storeRecord b ch ck prop = .ok (s', r, n) ∧ t.storeRecord b ch ck prop = .ok (t', r', n) ∧
      RewrittenBy f s' t' := by
  cases hres : s.resolve ck with
  | none => exact .inl ⟨_, State.storeRecord_conflict hres, State.storeRecord_conflict (h.conflict ck hck hres)⟩
  | some z =>
    obtain ⟨used, orig⟩ := z
    obtain ⟨hu, orig', hres', hf⟩ := h.resolve ck used orig hck hres
    cases hfind : Machine.findRec (s.records b) ch used with
    | some r =>
      exact .inr ⟨_, _, _, _, _, State.storeRecord_replace hres hfind,
        State.storeRecord_replace hres' (by rw [h.findRec hu, hfind]; rfl), h.replaceRec hu prop⟩
    | none =>
      have hfind' : Machine.findRec (t.records b) ch (movedCircuit x y used) = none := by rw [h.findRec hu, hfind]; rfl
      cases hroom : s.hasRoom b ch used with
      | true =>
        exact .inr ⟨_, _, _, _, _, State.storeRecord_add hres hfind hroom,
          State.storeRecord_add hres' hfind' ((h.hasRoom hu).trans hroom), h.insertRec hu hfind (hf ch prop)⟩
      | false =>
        exact .inl ⟨_, State.storeRecord_full hres hfind hroom,
          State.storeRecord_full hres' hfind' ((h.hasRoom hu).trans hroom)⟩

theorem patchSet (ps : List Byte) : RewrittenBy f (patchSet ps s).1 (patchSet ps t).1 := by
  unfold Machine.patchSet
  split
  · rename_i b ch1 ch0 ck1 ck0 pr
    rw [h.editRefusal]
    cases hb : s.editRefusal (bankOk b.toNat && channelOk (word ch1 ch0) && circuitOk (word ck1 ck0)) b.toNat with
    | some o => exact h.rewritten
    | none =>
      have hrange := (State.editable_of_refusal hb).1
      rw [Bool.and_eq_true] at hrange
      rcases h.storeRecord (b := b.toNat) (ch := word ch1 ch0) (prop := clampProportion pr.toNat) hrange.2 with
        ⟨o, e, e'⟩ | ⟨s', r, n, t', r', e, e', hmoved⟩ <;> rw [e, e']
      · exact h.rewritten
      · exact hmoved
  · exact h.rewritten

theorem patchSetIf (ps : List Byte) : RewrittenBy f (patchSetIf ps s).1 (patchSetIf ps t).1 := by
  unfold Machine.patchSetIf
  split
  · rename_i b ch1 ch0 ck1 ck0 pr present ex
    rw [h.editRefusal]
    generalize (if present = 0 then none else some ex.toNat) = expected
    cases hb : s.editRefusal (bankOk b.toNat && channelOk (word ch1 ch0) && circuitOk (word ck1 ck0) &&
        (present == 0 || (present == 1 && decide (ex.toNat ≤ 100)))) b.toNat with
    | some o => exact h.rewritten
    | none =>
      have hrange := (State.editable_of_refusal hb).1
      simp only [Bool.and_eq_true] at hrange
      obtain ⟨⟨-, hck⟩, -⟩ := hrange
      cases hres : s.resolve (word ck1 ck0) with
      | none => rw [h.conflict _ hck hres]; exact h.rewritten
      | some z =>
        obtain ⟨used, orig⟩ := z
        obtain ⟨hu, orig', hres', -⟩ := h.resolve _ used orig hck hres
        have hnow : ((Machine.findRec (s.records b.toNat) (word ch1 ch0) used).map f).map PatchRec.proportion =
            (Machine.findRec (s.records b.toNat) (word ch1 ch0) used).map PatchRec.proportion := by
          rw [Option.map_map]
          exact congrArg (Option.map · _) (funext h.proportion)
        simp only [hres', h.findRec hu, hnow]
        by_cases hexp : (Machine.findRec (s.records b.toNat) (word ch1 ch0) used).map PatchRec.proportion = expected
        · simp only [if_pos hexp]
          rcases h.storeRecord (b := b.toNat) (ch := word ch1 ch0) (prop := clampProportion pr.toNat) hck with
            ⟨o, e, e'⟩ | ⟨s', r, n, t', r', e, e', hmoved⟩ <;> rw [e, e']
          · exact h.rewritten
          · exact hmoved
        · simp only [if_neg hexp]
          exact h.rewritten
  · exact h.rewritten

theorem patchClear (ps : List Byte) : RewrittenBy f (patchClear ps s).1 (patchClear ps t).1 := by
  unfold Machine.patchClear
  split
  · rename_i b ch1 ch0 ck1 ck0
    rw [h.editRefusal]
    cases hb : s.editRefusal (bankOk b.toNat && channelOk (word ch1 ch0) && circuitOk (word ck1 ck0)) b.toNat with
    | some o => exact h.rewritten
    | none =>
      have hrange := (State.editable_of_refusal hb).1
      rw [Bool.and_eq_true] at hrange
      cases hres : s.resolve (word ck1 ck0) with
      | none => rw [h.conflict _ hrange.2 hres]; exact h.rewritten
      | some z =>
        obtain ⟨used, orig⟩ := z
        obtain ⟨hu, orig', hres', -⟩ := h.resolve _ used orig hrange.2 hres
        simp only [hres', h.findRec hu]
        cases Machine.findRec (s.records b.toNat) (word ch1 ch0) used with
        | none => exact h.rewritten
        | some r => exact h.removeRec hu
  · exact h.rewritten

theorem patchClearIf (ps : List Byte) : RewrittenBy f (patchClearIf ps s).1 (patchClearIf ps t).1 := by
  unfold Machine.patchClearIf
  split
  · rename_i b ch1 ch0 ck1 ck0 ex
    rw [h.editRefusal]
    cases hb : s.editRefusal (bankOk b.toNat && channelOk (word ch1 ch0) && circuitOk (word ck1 ck0) &&
        decide (ex.toNat ≤ 100)) b.toNat with
    | some o => exact h.rewritten
    | none =>
      have hrange := (State.editable_of_refusal hb).1
      simp only [Bool.and_eq_true] at hrange
      obtain ⟨⟨-, hck⟩, -⟩ := hrange
      cases hres : s.resolve (word ck1 ck0) with
      | none => rw [h.conflict _ hck hres]; exact h.rewritten
      | some z =>
        obtain ⟨used, orig⟩ := z
        obtain ⟨hu, orig', hres', -⟩ := h.resolve _ used orig hck hres
        simp only [hres', h.findRec hu]
        cases Machine.findRec (s.records b.toNat) (word ch1 ch0) used with
        | none => exact h.rewritten
        | some r =>
          simp only [Option.map_some, h.proportion]
          by_cases hp : r.proportion = ex.toNat
          · simp only [if_pos hp]; exact h.removeRec hu
          · simp only [if_neg hp]; exact h.rewritten
  · exact h.rewritten

theorem patchClearChannel (ps : List Byte) : RewrittenBy f (patchClearChannel ps s).1 (patchClearChannel ps t).1 := by
  unfold Machine.patchClearChannel
  split
  · rename_i b ch1 ch0
    rw [h.editRefusal]
    cases s.editRefusal (bankOk b.toNat && channelOk (word ch1 ch0)) b.toNat with
    | some o => exact h.rewritten
    | none => exact h.filter fun r _ => by rw [h.channel]
  · exact h.rewritten

/-- Every edit of R9 leaves the moved banks as it leaves the others, moved. -/
theorem edit {perform : List Byte → State → State × Reply}
    (hp : perform ∈ [Machine.patchSet, Machine.patchSetIf, Machine.patchClear, Machine.patchClearIf, Machine.patchClearChannel])
    (ps : List Byte) : RewrittenBy f (perform ps s).1 (perform ps t).1 := by
  simp only [List.mem_cons, List.not_mem_nil, or_false] at hp
  rcases hp with rfl | rfl | rfl | rfl | rfl
  · exact h.patchSet ps
  · exact h.patchSetIf ps
  · exact h.patchClear ps
  · exact h.patchClearIf ps
  · exact h.patchClearChannel ps

end State.Moves

/-! ### The acknowledgements are such moves -/

/-- What an edit resolves to is of the role and the pairing of the circuit it names. -/
theorem State.resolve_congr {ck : Nat} (h : t.circuit ck = s.circuit ck) : t.resolve ck = s.resolve ck := by
  unfold State.resolve
  rw [h]

/-- A circuit outside a pairing resolves to none of the pairing's circuits. -/
theorem State.RigOk.resolve_apart (h : s.RigOk) {failed spare ck used : Nat} {orig : Option Nat}
    (hf : (s.circuit failed).role = .failed) (hs : (s.circuit spare).pairing.partner = some failed) (hck : circuitOk ck = true)
    (h1 : ck ≠ failed) (h2 : ck ≠ spare) (e : s.resolve ck = some (used, orig)) : used ≠ failed ∧ used ≠ spare := by
  rcases s.resolve_cases e with ⟨-, rfl, -⟩ | ⟨-, -, rfl, -⟩ | ⟨hr, hp, -⟩
  · exact ⟨h1, h2⟩
  · exact ⟨h1, h2⟩
  · rcases hp with hp | hp <;>
    · obtain ⟨-, -, -, hrole, hpair⟩ := h.pair (m := used) hck hr (by rw [hp]; rfl)
      rw [hp] at hrole hpair
      refine ⟨?_, ?_⟩ <;> rintro rfl
      · rw [hf] at hrole; cases hrole
      · rw [hpair] at hs; exact h1 (Option.some.inj hs)

theorem State.ackTransfer_frame (s : State) (failed spare : Nat) : s.ackTransfer failed spare =
    { s.rewriteRecords (PatchRec.ontoSpare failed spare) with circuits := (s.ackTransfer failed spare).circuits } := by
  unfold State.ackTransfer
  dsimp only
  split <;> rfl

theorem State.ackUndo_frame (s : State) (failed spare : Nat) : s.ackUndo failed spare =
    { s.rewriteRecords (PatchRec.backTo failed spare) with circuits := (s.ackUndo failed spare).circuits } := rfl

/-- The banks after a rewriting: locks and the pool's count as they were. -/
theorem State.Canonical.rewrite_kept (h : s.Canonical) (f : PatchRec → PatchRec) :
    (∀ b, ((s.rewriteRecords f).bank b).locked = (s.bank b).locked) ∧ (s.rewriteRecords f).poolCount = s.poolCount :=
  ⟨fun b => by rw [State.bank_rewriteRecords],
    (h.counts_mapVals (t := s.rewriteRecords f) (f := fun _ b => { b with records := sortRecs (b.records.map f) })
      (fun _ _ => by simp) (fun _ _ => rfl) rfl).1⟩

theorem State.moves_ackTransfer (hc : s.Canonical) (hrig : s.RigOk) (hpatch : s.PatchOk) {failed spare : Nat}
    (hok : circuitOk failed = true) (hf : (s.circuit failed).role = .failed) (hp : (s.circuit failed).pairing = .ordered spare) :
    s.Moves (s.ackTransfer failed spare) (PatchRec.ontoSpare failed spare) failed spare := by
  obtain ⟨-, hne, -, hrole, hpair⟩ := hrig.pair hok hf (by rw [hp]; rfl)
  rw [hp] at hrole hpair
  have circuit := State.circuit_ackTransfer hne hp
  have frame := s.ackTransfer_frame failed spare
  obtain ⟨locked, pool⟩ := hc.rewrite_kept (PatchRec.ontoSpare failed spare)
  have hspare : (s.ackTransfer failed spare).resolve spare = none := by
    unfold State.resolve
    rw [circuit, if_neg (Ne.symm hne), if_pos rfl]
  have same {ck : Nat} (h1 : ck ≠ failed) (h2 : ck ≠ spare) :
      (s.ackTransfer failed spare).resolve ck = s.resolve ck :=
    State.resolve_congr (by rw [circuit, if_neg h1, if_neg h2])
  have unresolved : s.resolve spare = none := by
    unfold State.resolve
    rw [hrole]; rfl
  exact {
    sorted := hpatch.sorted
    records := s.records_ackTransfer failed spare
    locked := fun b => by rw [frame]; exact locked b
    changeover := by rw [frame]; rfl
    pool := by rw [frame]; exact pool
    channel := PatchRec.ontoSpare_channel failed spare
    proportion := fun r => by unfold PatchRec.ontoSpare; split <;> rfl
    reset := fun r p => by unfold PatchRec.ontoSpare; split <;> rfl
    unused := fun b r hr => hpatch.spare_unused (.inl hrole) hr
    circuit := fun b r _ => PatchRec.ontoSpare_circuit failed spare r
    conflict := fun ck _ e => by
      by_cases h2 : ck = spare
      · rw [h2]; exact hspare
      · rwa [same (fun h1 => ?_) h2]
        rw [h1, State.resolve, hf] at e
        simp only [hp] at e
        cases e
    resolve := fun ck used orig hck e => by
      by_cases h1 : ck = failed
      · subst h1
        simp only [State.resolve, hf, hp, Option.some.injEq, Prod.mk.injEq] at e
        obtain ⟨rfl, rfl⟩ := e
        refine ⟨hne, some ck, ?_, fun ch prop => ?_⟩
        · simp [State.resolve, circuit, hf, movedCircuit]
        · simp [PatchRec.ontoSpare, movedCircuit]
      · have h2 : ck ≠ spare := by rintro rfl; rw [unresolved] at e; cases e
        obtain ⟨u1, u2⟩ := hrig.resolve_apart hf (by rw [hpair]; rfl) hck h1 h2 e
        exact ⟨u2, orig, by rw [same h1 h2, e, movedCircuit, if_neg u1], fun ch prop => by
          simp [PatchRec.ontoSpare, movedCircuit, u1]⟩ }

theorem State.moves_ackUndo (hc : s.Canonical) (hrig : s.RigOk) (hpatch : s.PatchOk) {failed spare : Nat}
    (hok : circuitOk failed = true) (hf : (s.circuit failed).role = .failed) (hp : (s.circuit failed).pairing = .restoring spare) :
    s.Moves (s.ackUndo failed spare) (PatchRec.backTo failed spare) spare failed := by
  obtain ⟨-, hne, -, hrole, hpair⟩ := hrig.pair hok hf (by rw [hp]; rfl)
  rw [hp] at hrole hpair
  have circuit := State.circuit_ackUndo (s := s) hne
  have frame := s.ackUndo_frame failed spare
  obtain ⟨locked, pool⟩ := hc.rewrite_kept (PatchRec.backTo failed spare)
  have hspare : (s.ackUndo failed spare).resolve spare = none := by
    unfold State.resolve
    rw [circuit, if_neg (Ne.symm hne), if_pos rfl]
  have same {ck : Nat} (h1 : ck ≠ failed) (h2 : ck ≠ spare) : (s.ackUndo failed spare).resolve ck = s.resolve ck :=
    State.resolve_congr (by rw [circuit, if_neg h1, if_neg h2])
  have unresolved : s.resolve spare = none := by
    unfold State.resolve
    rw [hrole]; rfl
  exact {
    sorted := hpatch.sorted
    records := s.records_ackUndo failed spare
    locked := fun b => by rw [frame]; exact locked b
    changeover := by rw [frame]; rfl
    pool := by rw [frame]; exact pool
    channel := PatchRec.backTo_channel failed spare
    proportion := fun r => by unfold PatchRec.backTo; split <;> rfl
    reset := fun r p => by unfold PatchRec.backTo; split <;> rfl
    unused := fun b r hr => hpatch.failed_unused hf (.inr hp) hr
    circuit := fun b r hr => by
      rw [hpatch.backTo_eq hrole (by rw [hpair]; rfl) hr, movedCircuit]
      split <;> rfl
    conflict := fun ck _ e => by
      by_cases h2 : ck = spare
      · rw [h2]; exact hspare
      · rwa [same (fun h1 => ?_) h2]
        rw [h1, State.resolve, hf] at e
        simp only [hp] at e
        cases e
    resolve := fun ck used orig hck e => by
      by_cases h1 : ck = failed
      · subst h1
        simp only [State.resolve, hf, hp, Option.some.injEq, Prod.mk.injEq] at e
        obtain ⟨rfl, rfl⟩ := e
        refine ⟨Ne.symm hne, none, ?_, fun ch prop => ?_⟩
        · simp [State.resolve, circuit, movedCircuit]
        · simp [PatchRec.backTo, movedCircuit]
      · have h2 : ck ≠ spare := by rintro rfl; rw [unresolved] at e; cases e
        obtain ⟨u1, u2⟩ := hrig.resolve_apart hf (by rw [hpair]; rfl) hck h1 h2 e
        exact ⟨u1, orig, by rw [same h1 h2, e, movedCircuit, if_neg u2], fun ch prop => by
          simp [PatchRec.backTo, movedCircuit, u2]⟩ }

end

/-- Settles O31: both acknowledgements are moves, and every edit commutes with a move. -/
theorem edit_and_acknowledgement_commute : Obligations.Edit_and_acknowledgement_commute := by
  intro s failed spare perform ps hc hrig hpatch hok hf hperform edit
  refine ⟨fun hp b => ?_, fun hp b => ?_⟩
  · rw [State.records_ackTransfer, (State.moves_ackTransfer hc hrig hpatch hok hf hp).edit hperform ps b]
  · rw [State.records_ackUndo, (State.moves_ackUndo hc hrig hpatch hok hf hp).edit hperform ps b]

end Sys2Proof.Machine
end

section
/-!
PATCH-LOAD (O27): its opening, the reception of a data frame, and the run of the records a data frame brings.
-/

namespace Sys2Proof.Machine

/-! ### The opening -/

/-- The checks of R20 in their order, whatever the ports. -/
theorem patchLoadOpening_eq {s u : State} (h : s.SameButPorts u) (sq b n1 n0 : Byte) :
    patchLoadOpening ⟨sq, .patchLoad, [b, n1, n0]⟩ u =
      match (if bankOk b.toNat = false ∨ word n1 n0 = 0 ∨ 1024 < word n1 n0 then some ReqOutcome.range
        else if s.changeover.phase = .darkening ∧ s.changeover.target = some b.toNat then some .changing
        else if (s.bank b.toNat).locked = true then some .locked else none) with
      | some o => .error o
      | none => .ok (.load ⟨sq, b.toNat, word n1 n0, 0, 0, none⟩) := by
  have range : (bankOk b.toNat && decide (1 ≤ word n1 n0) && decide (word n1 n0 ≤ 1024)) = false ↔
      bankOk b.toNat = false ∨ word n1 n0 = 0 ∨ 1024 < word n1 n0 := by
    rw [Bool.and_eq_false_iff, Bool.and_eq_false_iff, decide_eq_false_iff_not, decide_eq_false_iff_not, or_assoc, Nat.not_le,
      Nat.not_le, Nat.lt_one_iff]
  rw [h.eq]
  simp only [patchLoadOpening, State.editRefusal_withPorts]
  simp only [State.editRefusal_eq, range] <;> rfl

/-- The first part of O27: a PATCH-LOAD that is taken. -/
theorem exec_patchLoad {s : State} {p : Port} {sq b n1 n0 : Byte} (hn : s.nextRequest = some (p, ⟨sq, .patchLoad, [b, n1, n0]⟩)) :
    ∃ t, exec .patchLoad s = .next t ∧ s.SameButPorts t ∧ t.servedLast = some p ∧
      t.port (otherPort p) = s.port (otherPort p) ∧
      t.port p = match (if bankOk b.toNat = false ∨ word n1 n0 = 0 ∨ 1024 < word n1 n0 then some ReqOutcome.range
          else if s.changeover.phase = .darkening ∧ s.changeover.target = some b.toNat then some .changing
          else if (s.bank b.toNat).locked = true then some .locked else none) with
        | some o => { (s.port p).afterServing ⟨sq, 8, o, 0, []⟩ with dataHold := [] }
        | none => { (s.port p).afterTaking with
            transfer := some (.load ⟨sq, b.toNat, word n1 n0, 0, 0, none⟩), inactivityTimer := .running } := by
  have taken := s.taken_onlyServed p
  have last (v w : PortState) : (((s.taken p).setPort p v).setPort p w).servedLast = some p := by
    rw [State.taken_eq]; cases p <;> rfl
  refine ⟨_, (exec_serveOpening (c := .patchLoad) rfl rfl s).trans (congrArg _ (State.serveOpening_next s _ hn rfl)), ?_⟩
  simp only [ReqCode.opening, patchLoadOpening_eq taken.1]
  generalize (if bankOk b.toNat = false ∨ word n1 n0 = 0 ∨ 1024 < word n1 n0 then some ReqOutcome.range
    else if s.changeover.phase = .darkening ∧ s.changeover.target = some b.toNat then some .changing
    else if (s.bank b.toNat).locked = true then some .locked else none) = refusal
  cases refusal with
  | none =>
    obtain ⟨same, other⟩ := taken.setPort { (s.taken p).port p with
      transfer := some (.load ⟨sq, b.toNat, word n1 n0, 0, 0, none⟩), inactivityTimer := .running }
    refine ⟨same, ?_, other, ?_⟩
    · rw [State.taken_eq]; cases p <;> rfl
    · rw [State.port_setPort, if_pos rfl, State.taken_port]
  | some o =>
    obtain ⟨same, other⟩ := (taken.setPort { (s.taken p).port p with dataHold := [] }).setPort
      ((((s.taken p).setPort p { (s.taken p).port p with dataHold := [] }).port p).answering
        ((⟨sq, .patchLoad, [b, n1, n0]⟩ : Request).answered (.refuse o)))
    refine ⟨same, last _ _, other, ?_⟩
    dsimp only
    rw [State.answer_eq, State.port_setPort, if_pos rfl, State.port_setPort, if_pos rfl, State.taken_port]
    rfl

/-! ### The reception of a data frame (R184) -/

/-- A frame is complete at its last byte and not before. -/
theorem frameComplete_iff {sq code len : Byte} {rest : List Byte} (hlen : rest.length = len.toNat + 2) {part more : List Byte}
    (h : part ++ more = sq :: code :: len :: rest) : frameComplete part = true ↔ more = [] := by
  match part, h with
  | [], h' => exact ⟨nofun, fun e => by subst e; cases h'⟩
  | [_], h' => exact ⟨nofun, fun e => by subst e; cases h'⟩
  | [_, _], h' => exact ⟨nofun, fun e => by subst e; cases h'⟩
  | _ :: _ :: len' :: part, h' =>
    simp only [List.cons_append, List.cons.injEq] at h'
    obtain ⟨-, -, rfl, hrest⟩ := h'
    have hsum := congrArg List.length hrest
    rw [List.length_append] at hsum
    simp only [frameComplete, decide_eq_true_eq]
    rw [← List.length_eq_zero_iff]
    omega

/-- The bytes of a frame after those already received end that frame. -/
theorem receive_rest {sq code len : Byte} {rest : List Byte} (hlen : rest.length = len.toNat + 2) (more : List Byte) :
    ∀ part, more ≠ [] → part ++ more = sq :: code :: len :: rest →
      receive (some part) (more.map .byte) = (none, [sq :: code :: len :: rest]) := by
  induction more with
  | nil => exact fun _ h => absurd rfl h
  | cons x more ih =>
    intro part _ h
    have h' : (part ++ [x]) ++ more = sq :: code :: len :: rest := by rw [← h]; simp
    have complete := frameComplete_iff hlen h'
    rw [List.map_cons, receive_cons]
    cases more with
    | nil =>
      rw [List.append_nil] at h'
      rw [h'] at complete
      simp only [receiveSymbol, h', complete.mpr rfl, if_true, List.map_nil, receive_nil]
      rfl
    | cons y more =>
      have incomplete : frameComplete (part ++ [x]) = false := by
        cases hc : frameComplete (part ++ [x]) with
        | false => rfl
        | true => exact absurd (complete.mp hc) (by simp)
      simp only [receiveSymbol, incomplete, Bool.false_eq_true, if_false]
      rw [ih (part ++ [x]) (by simp) h']
      rfl

theorem dataFrame_eq (d : DataFrame) : dataFrame d = d.sequence :: dataCode :: BitVec.ofNat 8 d.data.length ::
    (d.data ++ wordBytes (frameCheck (d.sequence :: dataCode :: BitVec.ofNat 8 d.data.length :: d.data))) := rfl

theorem toNat_frameLength {n : Nat} (h : n ≤ 58) : (BitVec.ofNat 8 n).toNat = n := by
  rw [BitVec.toNat_ofNat]
  omega

theorem receive_dataFrame {d : DataFrame} (h : d.data.length ≤ 58) : receive none (onLine (dataFrame d)) = (none, [dataFrame d]) := by
  rw [dataFrame_eq, onLine, receive_cons]
  simp only [receiveSymbol]
  rw [receive_rest (sq := d.sequence) (code := dataCode) (len := BitVec.ofNat 8 d.data.length) ?_ _ [] (by simp) rfl]
  · rfl
  · rw [toNat_frameLength h, List.length_append]
    rfl

theorem classifyFrame_dataFrame {d : DataFrame} (h : d.data.length ≤ 58) : classifyFrame (dataFrame d) = .data d := by
  rw [dataFrame_eq]
  simp only [classifyFrame, toNat_frameLength h, List.take_left, List.drop_left, ne_eq, not_true_eq_false, if_false, if_true]
  rw [if_neg (Nat.not_lt.mpr h)]

/-- With none held a data frame is delivered to the open transfer. -/
theorem takeData_deliver {u : State} {p : Port} {tr : Transfer} (htr : (u.port p).transfer = some tr)
    (hhold : (u.port p).dataHold = []) (d : DataFrame) : takeData p (.data d) u = some (u.deliver p tr d.data) := by
  simp only [takeData, hhold, List.length_nil, State.deliverAllHeld, htr]

/-- A data frame that comes to a port with an open transfer is delivered to it, whichever way it comes. -/
theorem exec_brings {s : State} {c : Instr} {p : Port} {tr : Transfer} {d : DataFrame} {rest : List DataFrame}
    (htr : (s.port p).transfer = some tr) (h : s.Brings c p d rest) :
    exec c s = .next ((s.setPort p { s.port p with dataHold := rest }).deliver p tr d.data) := by
  rcases h with ⟨rfl, hlen, hreset, hbuffer, hhold, rfl⟩ | ⟨rfl, hhold⟩
  · have hport : ({ s.port p with receiveBuffer := none } : PortState) = { s.port p with dataHold := [] } := by
      rw [← hbuffer, ← hhold]
    have hv : s.buffering p none = s.setPort p { s.port p with dataHold := [] } := by rw [State.buffering, hport]
    have htake := takeData_deliver (u := s.setPort p { s.port p with dataHold := [] }) (p := p) (tr := tr) (by simpa using htr)
      (by simp) d
    generalize s.setPort p { s.port p with dataHold := [] } = v at hv htake ⊢
    simp only [exec, execDataFrameArrival, State.onFrame, hreset, Bool.false_eq_true, if_false, hbuffer, receive_dataFrame hlen,
      classifyFrame_dataFrame hlen]
    rw [hv, htake]
    rfl
  · simp only [exec, execDataHoldDelivery, State.deliverHeld, hhold, htr]

/-! ### The run of a frame's records -/

/-- How a record of a load fares: its refusal, or none where it is stored. -/
def State.recordOutcome (u : State) (b : Nat) (r : Nat × Nat × Nat) : Option ReqOutcome :=
  match u.editRefusal (channelOk r.1 && circuitOk r.2.1) b with
  | some o => some o
  | none =>
    match u.storeRecord b r.1 r.2.1 (clampProportion r.2.2) with
    | .error o => some o
    | .ok _ => none

/-- The tally after a record, by how it fares. -/
theorem loadRecord_snd (x : State × LoadTransfer) (r : Nat × Nat × Nat) : (loadRecord x r).2 =
    match x.1.recordOutcome x.2.bank r with
    | some o => { x.2 with received := x.2.received + 1, firstFailure := x.2.firstFailure.or (some (x.2.received + 1, o)) }
    | none => { x.2 with received := x.2.received + 1, applied := x.2.applied + 1 } := by
  unfold loadRecord State.recordOutcome
  dsimp only
  cases x.1.editRefusal (channelOk r.1 && circuitOk r.2.1) x.2.bank with
  | some o => rfl
  | none => cases x.1.storeRecord x.2.bank r.1 r.2.1 (clampProportion r.2.2) <;> rfl

/-- The state after a record: changed where the record is stored. -/
theorem loadRecord_fst (x : State × LoadTransfer) (r : Nat × Nat × Nat) : (loadRecord x r).1 =
    match x.1.editRefusal (channelOk r.1 && circuitOk r.2.1) x.2.bank with
    | some _ => x.1
    | none =>
      match x.1.storeRecord x.2.bank r.1 r.2.1 (clampProportion r.2.2) with
      | .error _ => x.1
      | .ok (s', _, _) => s' := by
  unfold loadRecord
  dsimp only
  cases x.1.editRefusal (channelOk r.1 && circuitOk r.2.1) x.2.bank with
  | some o => rfl
  | none => cases x.1.storeRecord x.2.bank r.1 r.2.1 (clampProportion r.2.2) <;> rfl

theorem loadRecord_withPorts (x : State × LoadTransfer) (r : Nat × Nat × Nat) (q : Ports) (l : Option Port) :
    loadRecord (x.1.withPorts q l, x.2) r = ((loadRecord x r).1.withPorts q l, (loadRecord x r).2) := by
  unfold loadRecord
  simp only [State.editRefusal_withPorts, State.storeRecord_withPorts]
  cases x.1.editRefusal (channelOk r.1 && circuitOk r.2.1) x.2.bank with
  | some o => rfl
  | none => cases x.1.storeRecord x.2.bank r.1 r.2.1 (clampProportion r.2.2) <;> rfl

theorem loadFold_withPorts (rs : List (Nat × Nat × Nat)) (x : State × LoadTransfer) (q : Ports) (l : Option Port) :
    rs.foldl loadRecord (x.1.withPorts q l, x.2) = ((rs.foldl loadRecord x).1.withPorts q l, (rs.foldl loadRecord x).2) := by
  induction rs generalizing x with
  | nil => rfl
  | cons r rs ih => rw [List.foldl_cons, loadRecord_withPorts, ih]; rfl

/-- No record changes a lock. -/
theorem State.storeRecord_locked {s t : State} {b ch ck prop n : Nat} {r : PatchRec} (h : s.storeRecord b ch ck prop = .ok (t, r, n))
    (b' : Nat) : (t.bank b').locked = (s.bank b').locked := by
  obtain ⟨_, _, -, ⟨_, -, rfl, -⟩ | ⟨-, -, rfl, -⟩⟩ := s.storeRecord_ok h <;>
  · rw [State.bank_setRecords]
    split
    · subst_vars; rfl
    · rfl

/-- What the run of some records keeps: all but the banks, every lock, and of the tally whose load it is and its count. -/
structure LoadKept (s : State) (t : LoadTransfer) (x : State × LoadTransfer) : Prop where
  frame : x.1 = { s with banks := x.1.banks }
  locked : ∀ b, (x.1.bank b).locked = (s.bank b).locked
  bank : x.2.bank = t.bank

theorem LoadKept.loadRecord {s : State} {t : LoadTransfer} {x : State × LoadTransfer} (h : LoadKept s t x) (r : Nat × Nat × Nat) :
    LoadKept s t (loadRecord x r) := by
  refine ⟨by rw [loadRecord_frame x r, h.frame], fun b => ?_, (loadRecord_tally x r).2.2.1.trans h.bank⟩
  rw [loadRecord_fst]
  split
  · exact h.locked b
  · split
    · exact h.locked b
    · exact (State.storeRecord_locked ‹_› b).trans (h.locked b)

theorem LoadKept.fold {s : State} {t : LoadTransfer} (rs : List (Nat × Nat × Nat)) {x : State × LoadTransfer} (h : LoadKept s t x) :
    LoadKept s t (rs.foldl Machine.loadRecord x) := by
  induction rs generalizing x with
  | nil => exact h
  | cons r rs ih => exact ih (h.loadRecord r)

/-- The checks of a record are those of the state at the start. -/
theorem LoadKept.editRefusal {s : State} {t : LoadTransfer} {x : State × LoadTransfer} (h : LoadKept s t x) (inRange : Bool) :
    x.1.editRefusal inRange t.bank = s.editRefusal inRange t.bank := by
  have changeover : x.1.changeover = s.changeover := by rw [h.frame]
  simp only [State.editRefusal_eq, h.locked, changeover]

section
variable (s : State) (t : LoadTransfer) (rs : List (Nat × Nat × Nat))

/-- The run of a frame's first records. -/
def loadRun (i : Nat) : State × LoadTransfer := (rs.take i).foldl loadRecord (s, t)

/-- How the record that follows so many fares. -/
def loadOutcome (i : Nat) : Option ReqOutcome := rs[i]?.bind ((loadRun s t rs i).1.recordOutcome t.bank)

/-- The records among the first so many that failed. -/
def loadFailed (i : Nat) : List Nat := (List.range i).filter fun j => (loadOutcome s t rs j).isSome

theorem loadRun_kept (i : Nat) : LoadKept s t (loadRun s t rs i) := LoadKept.fold _ ⟨rfl, fun _ => rfl, rfl⟩

theorem loadRun_succ {i : Nat} {r : Nat × Nat × Nat} (h : rs[i]? = some r) :
    loadRun s t rs (i + 1) = loadRecord (loadRun s t rs i) r := by
  simp [loadRun, List.take_add_one, h]

theorem loadRun_all : rs.foldl loadRecord (s, t) = loadRun s t rs rs.length := by rw [loadRun, List.take_length]

theorem loadFailed_length_le (i : Nat) : (loadFailed s t rs i).length ≤ i :=
  (List.length_filter_le _ _).trans_eq List.length_range

/-- The tally counts what was received and applied, and keeps the first failure. -/
theorem loadRun_tally {i : Nat} (hi : i ≤ rs.length) : (loadRun s t rs i).2 =
    { t with
      received := t.received + i
      applied := t.applied + (i - (loadFailed s t rs i).length)
      firstFailure := t.firstFailure.or ((loadFailed s t rs i).head?.map fun j =>
        (t.received + j + 1, (loadOutcome s t rs j).getD .full)) } := by
  induction i with
  | zero => simp [loadRun, loadFailed]
  | succ i ih =>
    have ih := ih (Nat.le_of_succ_le hi)
    have hr : rs[i]? = some rs[i] := List.getElem?_eq_getElem hi
    have hle := loadFailed_length_le s t rs i
    have hfail : loadFailed s t rs (i + 1) = loadFailed s t rs i ++ if (loadOutcome s t rs i).isSome then [i] else [] := by
      rw [loadFailed, List.range_succ, List.filter_append, loadFailed, List.filter_cons, List.filter_nil]
    have hout : (loadRun s t rs i).1.recordOutcome (loadRun s t rs i).2.bank rs[i] = loadOutcome s t rs i := by
      rw [loadOutcome, hr, (loadRun_kept s t rs i).bank]; rfl
    rw [loadRun_succ s t rs hr, loadRecord_snd, hout, hfail, ih]
    cases hcase : loadOutcome s t rs i with
    | none =>
      simp only [Option.isSome_none, Bool.false_eq_true, if_false, List.append_nil, LoadTransfer.mk.injEq, true_and, and_true]
      omega
    | some o =>
      simp only [Option.isSome_some, if_true, LoadTransfer.mk.injEq, true_and, List.length_append, List.length_singleton]
      refine ⟨by omega, by omega, ?_⟩
      rw [Option.or_assoc]
      cases loadFailed s t rs i <;> simp [hcase]

end

/-- A frame's records are those the announced count leaves room for. -/
theorem loadFrame_eq (s : State) (t : LoadTransfer) (data : List Byte) : loadFrame s t data =
    (((loadRecords data).getD []).take (t.announced - t.received)).foldl loadRecord (s, t) := by
  unfold loadFrame
  cases loadRecords data with
  | none => simp
  | some rs => rfl

theorem loadAnswer_eq (t : LoadTransfer) : loadAnswer t =
    match t.firstFailure with
    | none => ⟨t.sequence, 8, .done, 0, []⟩
    | some (pos, o) => ⟨t.sequence, 8, .inPart, t.announced - t.applied, enc2 pos ++ enc1 o.code⟩ := by
  unfold loadAnswer
  cases t.firstFailure <;> rfl

/-- A load's data frame delivered: below the count the load goes on, and at the count it closes with its answer. -/
theorem State.deliver_load (s : State) (p : Port) (t : LoadTransfer) (data : List Byte) : s.deliver p (.load t) data =
    (loadFrame s t data).1.setPort p
      (if (loadFrame s t data).2.announced ≤ (loadFrame s t data).2.received then
        { (loadFrame s t data).1.port p with
          transfer := none
          inactivityTimer := .stopped
          dataHold := []
          outgoing := (((loadFrame s t data).1.port p).outgoing ++ [loadAnswer (loadFrame s t data).2]) ++
            ((loadFrame s t data).1.port p).dataHold.map fun d => malformedAnswer d.sequence dataCode }
      else { (loadFrame s t data).1.port p with transfer := some (.load (loadFrame s t data).2), inactivityTimer := .running }) := by
  unfold State.deliver
  dsimp only
  split
  · rw [State.closeFull_eq]
  · rfl

/-- Settles O27: the opening is answered by its checks, and a data frame is the run of its records, tallied. -/
theorem patch_load : Obligations.Patch_load := by
  refine ⟨fun s p sq b n1 n0 hn => exec_patchLoad hn, ?_⟩
  intro s c p t d rest htr hbrings hbelow rs
  refine ⟨fun i => (loadRun s t rs i).1, loadOutcome s t rs, rfl, fun i r hr => ?_, ?_⟩
  · intro refusal
    have hrefusal : refusal = s.editRefusal (channelOk r.1 && circuitOk r.2.1) t.bank := by
      simp only [refusal, State.editRefusal_eq, Bool.and_eq_false_iff]
    have kept := loadRun_kept s t rs i
    simp only [hrefusal, loadRun_succ s t rs hr, loadRecord_fst, loadOutcome, hr, Option.bind_some, State.recordOutcome, kept.bank,
      kept.editRefusal]
    cases s.editRefusal (channelOk r.1 && circuitOk r.2.1) t.bank with
    | some o => exact ⟨rfl, rfl⟩
    | none =>
      dsimp only [clampProportion]
      cases (loadRun s t rs i).1.storeRecord t.bank r.1 r.2.1 (min r.2.2 100) <;> exact ⟨rfl, rfl⟩
  · intro failed first applied
    have hexec := exec_brings htr hbrings
    have hv := (s.setPort_same p { s.port p with dataHold := rest }).eq
    have hport : (s.setPort p { s.port p with dataHold := rest }).port p = { s.port p with dataHold := rest } := by simp
    have hother := s.setPort_other p { s.port p with dataHold := rest }
    have hpending : (s.setPort p { s.port p with dataHold := rest }).servedLast = s.servedLast := by cases p <;> rfl
    generalize s.setPort p { s.port p with dataHold := rest } = v at hexec hv hport hother hpending
    have hframe : loadFrame v t d.data = ((loadRun s t rs rs.length).1.withPorts v.ports v.servedLast,
        { t with received := t.received + rs.length, applied := applied, firstFailure := first }) := by
      rw [loadFrame_eq, hv]
      refine (loadFold_withPorts rs (s, t) v.ports v.servedLast).trans ?_
      rw [loadRun_all, loadRun_tally s t rs (Nat.le_refl _)]
      rfl
    have hports (q : Port) : ((loadRun s t rs rs.length).1.withPorts v.ports v.servedLast).port q = v.port q := by cases q <;> rfl
    refine ⟨_, hexec, ?_, ?_, ?_⟩
    · rw [State.deliver_load, State.setPort_other, hframe, hports, hother]
    · rw [State.deliver_load, hframe, hpending, (loadRun_kept s t rs rs.length).frame]
      cases p <;> rfl
    · rw [State.deliver_load, State.port_setPort, if_pos rfl, hframe, hports, hport, loadAnswer_eq]
      by_cases hcount : t.received + rs.length < t.announced
      · rw [if_neg (Nat.not_le.mpr hcount), if_pos hcount]
      · rw [if_pos (Nat.not_lt.mp hcount), if_neg hcount, List.append_assoc]
        rfl

end Sys2Proof.Machine
end

section
/-! The reading requests (O38). -/

namespace Sys2Proof.Machine

section
variable {s : State}

/-- A request that answers and leaves the state as it is, whatever the ports, completes so. -/
theorem State.serves_read {c : Instr} {code : ReqCode} {perform : List Byte → State → State × Reply} {ps : List Byte} {y : Reply}
    (hexec : exec c s = .next (s.serve code perform)) (h : ∀ q l, perform ps (s.withPorts q l) = (s.withPorts q l, y)) :
    s.Serves c code ps y s.SameButPorts := by
  refine State.serves_of hexec fun p sq => ?_
  rw [(s.taken_same p).eq, h]
  exact ⟨rfl, rfl, rfl, rfl, (s.withPorts_same ..).trans (State.answer_same ..)⟩

/-! ### The data, field by field -/

theorem encOpt2_ite {c : Prop} [Decidable c] (n : Nat) :
    encOpt2 (if c then some n else none) = if c then 1 :: enc2 n else [0, 0, 0] := by
  split <;> rfl

/-- What an OUTPUT-READ answers (R121). -/
theorem State.outputData_eq (s : State) (n : Nat) : s.outputData n =
    enc1 (linkNumber (linkOf n)) ++ enc2 (slotOf n) ++ enc1 (s.guardOf n) ++
      (((s.records s.liveBank).filter fun r => r.circuit == n).map fun r => enc2 r.channel ++ enc1 r.proportion ++
        encOpt2 r.original ++ enc2 (s.composite r.channel) ++ encBool (s.captureOf r.channel).isSome ++
        enc2 ((s.composite r.channel * r.proportion + 50) / 100)).flatten ++
      enc2 (s.merge n) ++ enc2 s.grandmaster ++ enc2 (s.afterGrand n) ++ enc2 s.changeover.scale ++ enc2 (s.afterScale n) ++
      (if (s.circuit n).mode = .dimmed then 1 :: enc2 (curveOutput (s.curve (s.circuit n).curve) (s.afterScale n))
        else [0, 0, 0]) ++
      enc1 (s.slotBeforeCeiling n) ++ enc1 (s.row (linkOf n) (rackOf n)).thermal.code ++ enc1 (s.slot n) := by
  rw [← encOpt2_ite]
  rfl

/-- What a RACK-READ answers (R155). -/
theorem rackData_eq (k : Link) (r : Nat) : rackData k r =
    encBool (k.row r).present ++ enc1 (k.row r).state.code ++ enc2 (k.row r).silent ++ enc2 (k.row r).wait ++
      enc1 (k.row r).thermal.code ++ encBool (k.row r).news ++
      (match (k.row r).pendingOrder with
        | none => [0, 0, 0, 0, 0, 0]
        | some x => 1 :: (enc1 x.order.kind.code ++ enc1 x.order.circuitIndex ++ enc1 x.order.spareIndex ++
            enc2 x.unacknowledged)) ++
      encBool (k.row r).lostNotice ++ encBool (k.row r).returnedNotice ++ encBool (k.row r).abandonedNotice ++
      (if r ∈ k.pollOrder then 1 :: enc2 (k.pollOrder.findIdx (fun x => x == r) + 1) else [0, 0, 0]) ++
      encBool (k.lastPolled == some r) := by
  rw [← encOpt2_ite]
  simp only [rackData, List.contains_iff_mem]
  cases (k.row r).pendingOrder <;> rfl

/-- The playbacks' flags in a STATUS (R192). -/
theorem State.allPlaybackFlags_eq (s : State) : s.allPlaybackFlags =
    ((List.range' 1 8).map fun p => encBool (s.playback p).followMissed ++ encBool (s.playback p).forced).flatten := rfl

theorem linkOfNumber_none {n : Nat} (h : n = 0 ∨ 4 < n) : linkOfNumber n = none := by
  unfold linkOfNumber
  split
  case h_5 => rfl
  all_goals omega

end

/-- Settles O38: each read looks at its operands, and then at the state alone. -/
theorem reads_answer_and_change_nothing : Obligations.Reads_answer_and_change_nothing := by
  refine ⟨fun s b h l i1 i0 => ⟨fun hb hch => ?_, fun hb hck => ?_, fun hck => ?_, ?_, fun hc => ?_, fun hb hlook h1 h2 => ?_⟩,
    fun s b h l k => ⟨fun hp => ?_, fun h1 h2 => ?_, fun hp hch => ?_, fun h1 h2 => ?_, fun hck => ?_, fun hl hr => ?_, ?_⟩,
    fun s b h l i1 i0 => ⟨fun hr => ?_, fun hr => ?_, fun hr => ⟨?_, ?_⟩, fun hr => ?_, fun hr => ?_, fun hr => ?_, fun hr => ?_,
      fun hr => ?_, fun hr => ?_, fun hr => ?_⟩⟩
  · exact State.serves_read rfl fun q l => by simp only [patchReadChannel, hb, hch, Bool.and_self, if_true]; rfl
  · exact State.serves_read rfl fun q l => by simp only [patchReadCircuit, hb, hck, Bool.and_self, if_true]; rfl
  · exact State.serves_read rfl fun q l => by simp only [circuitRead, hck, if_true]; rfl
  · exact State.serves_read rfl fun q l => by rfl
  · exact State.serves_read rfl fun q l => by simp only [curveRead, hc, if_true]; rfl
  · cases hlook' : s.look b.toNat (word h l) with
    | none =>
      exact State.serves_read rfl fun q l => by
        simp only [lookRead, hb, hlook, h1, h2, decide_true, Bool.and_self, if_true, State.look_withPorts, hlook']
    | some k =>
      exact State.serves_read rfl fun q l => by
        simp only [lookRead, hb, hlook, h1, h2, decide_true, Bool.and_self, if_true, State.look_withPorts, hlook']
  · refine State.serves_read rfl fun q l => ?_
    simp only [playbackRead, hp, Bool.not_true, Bool.false_eq_true, if_false, List.countP_eq_length_filter, playbackFlags,
      ← List.append_assoc]
    rfl
  · cases hf : s.fades.find? fun f => f.number == b.toNat with
    | none =>
      refine State.serves_read rfl fun q l => ?_
      have : (s.withPorts q l).fade b.toNat = none := hf
      simp only [fadeRead, h1, h2, decide_true, Bool.and_self, Bool.not_true, Bool.false_eq_true, if_false, this]
    | some f =>
      refine State.serves_read rfl fun q l => ?_
      have : (s.withPorts q l).fade b.toNat = some f := hf
      simp only [fadeRead, h1, h2, decide_true, Bool.and_self, Bool.not_true, Bool.false_eq_true, if_false, this]
      rfl
  · exact State.serves_read rfl fun q l => by simp only [channelRead, hp, hch, Bool.and_self, if_true]; rfl
  · exact State.serves_read rfl fun q l => by simp only [mixerRead, h1, h2, decide_true, Bool.and_self, if_true]; rfl
  · intro n here
    refine State.serves_read rfl fun q l => ?_
    simp only [outputRead, hck, if_true, State.outputData_eq]
    rfl
  · intro r w order resend waiting circuits
    refine ⟨State.serves_read rfl fun q l => ?_, State.serves_read rfl fun q l => ?_⟩
    · simp only [rackRead, hl, hr, if_true, rackData_eq]
      rfl
    · simp only [transferRead, hl, hr, if_true]
      rfl
  · refine State.serves_read rfl fun q l => ?_
    simp only [status, State.statusData, State.allPlaybackFlags_eq]
    rfl
  · exact State.serves_read rfl fun q l => by rcases hr with hr | hr <;> simp [patchReadChannel, hr]
  · exact State.serves_read rfl fun q l => by rcases hr with hr | hr <;> simp [patchReadCircuit, hr]
  · exact State.serves_read rfl fun q l => by simp [circuitRead, hr]
  · exact State.serves_read rfl fun q l => by simp [outputRead, hr]
  · exact State.serves_read rfl fun q l => by simp [curveRead, hr]
  · exact State.serves_read rfl fun q l => by rcases hr with hr | hr | hr | hr <;> simp [lookRead, hr]
  · exact State.serves_read rfl fun q l => by simp [playbackRead, hr]
  · exact State.serves_read rfl fun q l => by rcases hr with hr | hr <;> simp [fadeRead, hr]
  · exact State.serves_read rfl fun q l => by rcases hr with hr | hr <;> simp [channelRead, hr]
  · exact State.serves_read rfl fun q l => by rcases hr with hr | hr <;> simp [mixerRead, hr]
  · have range : linkOfNumber h.toNat = none ∨ rackOk l.toNat = false := by
      rcases hr with rfl | hr | hr
      · exact .inl rfl
      · exact .inl (linkOfNumber_none (.inr hr))
      · exact .inr hr
    refine ⟨State.serves_read rfl fun q l => ?_, State.serves_read rfl fun q l => ?_⟩
    · rcases range with hr | hr
      · simp [rackRead, hr]
      · cases hk : linkOfNumber h.toNat <;> simp [rackRead, hk, hr]
    · rcases range with hr | hr
      · simp [transferRead, hr]
      · cases hk : linkOfNumber h.toNat <;> simp [transferRead, hk, hr]

end Sys2Proof.Machine
end

section
/-!
SUPPORT. The rig: what a command can do to the circuit records, the rack rows, the rig settings and the curves (O9, O36).
-/

namespace Sys2Proof.Machine

/-! ### Events that leave the rig -/

/-- Neither a circuit record, a link, the rig settings nor a curve differs. -/
structure State.SameRig (s t : State) : Prop where
  circuits : t.circuits = s.circuits
  links : t.links = s.links
  rig : t.rig = s.rig
  curves : t.curves = s.curves

section
variable {s t u : State}

theorem State.SameRig.refl (s : State) : s.SameRig s := ⟨rfl, rfl, rfl, rfl⟩

theorem State.SameRig.trans (h : s.SameRig t) (h' : t.SameRig u) : s.SameRig u :=
  ⟨h'.circuits.trans h.circuits, h'.links.trans h.links, h'.rig.trans h.rig, h'.curves.trans h.curves⟩

theorem State.SameRig.circuit (h : s.SameRig t) (n : Nat) : t.circuit n = s.circuit n := State.circuit_congr h.circuits n

theorem State.SameRig.row (h : s.SameRig t) (l : LinkId) (r : Nat) : t.row l r = s.row l r := by
  cases l <;> simp only [State.row, State.link, h.links]

theorem State.SameButPorts.sameRig (h : s.SameButPorts t) : s.SameRig t := by rw [h]; exact ⟨rfl, rfl, rfl, rfl⟩

theorem State.FadeEngineOnly.sameRig (h : s.FadeEngineOnly t) : s.SameRig t := by rw [h]; exact ⟨rfl, rfl, rfl, rfl⟩

theorem State.DeliveryOnly.sameRig {p : Port} (h : s.DeliveryOnly t p) : s.SameRig t := by
  rw [h.1]; exact ⟨rfl, rfl, rfl, rfl⟩

theorem State.BankEdit.sameRig (h : s.BankEdit t) : s.SameRig t := by rw [h.frame]; exact ⟨rfl, rfl, rfl, rfl⟩

theorem State.setChangeover_sameRig (s : State) (v : Changeover) : s.SameRig (s.setChangeover v) := ⟨rfl, rfl, rfl, rfl⟩

theorem State.switchOver_sameRig (s : State) : s.SameRig s.switchOver := ⟨rfl, rfl, rfl, rfl⟩

/-- The requests that may write a circuit record, a rack row, the rig settings or a curve. -/
def ReqCode.writesRig : ReqCode → Bool
  | .circuitSet | .curveLoad | .rigSet | .rigLock | .rigUnlock | .rackSet | .faultClear | .reassign | .restore | .statusAck => true
  | _ => false

/-- A GO changes the fade engine alone. -/
theorem go_only (ps : List Byte) (s : State) : s.FadeEngineOnly (go ps s).1 := by
  unfold go
  split
  · rename_i p n1 n0 present t1 t0
    generalize (if present = 0 then none else some (word t1 t0)) = time
    split
    · exact .refl s
    · split
      · exact .refl s
      · split
        · exact .refl s
        · dsimp only
          split
          · exact (s.launch_only ..).trans (State.fireDue_only ..)
          · exact s.launch_only ..
  · exact .refl s

theorem resume_only (ps : List Byte) (s : State) : s.FadeEngineOnly (resume ps s).1 := by
  unfold resume
  split
  · split
    · exact .refl s
    · split
      · exact s.resumePlayback_only _
      · exact .refl s
  · exact .refl s

/-- A request of another code leaves the rig. -/
theorem perform_sameRig {code : ReqCode} (h : code.writesRig = false) (ps : List Byte) (s : State) :
    s.SameRig (code.perform ps s).1 := by
  have bank {f : List Byte → State → State × Reply} (h : Grants f State.BankEdit) : s.SameRig (f ps s).1 := by
    rcases h ps s with e | ⟨-, e⟩
    · rw [e]; exact .refl s
    · exact e.sameRig
  cases code with
  | patchSet => exact bank patchSet_grants
  | patchSetIf => exact bank patchSetIf_grants
  | patchClear => exact bank patchClear_grants
  | patchClearIf => exact bank patchClearIf_grants
  | patchClearChannel => exact bank patchClearChannel_grants
  | patchSwap => exact bank patchSwap_grants
  | patchRange => exact bank patchRange_grants
  | bankCopy => exact bank bankCopy_grants
  | bankErase => exact bank bankErase_grants
  | bankLock => exact bank (setBankLock_grants true)
  | bankUnlock => exact bank (setBankLock_grants false)
  | lookDelete => exact bank lookDelete_grants
  | go => exact (go_only ps s).sameRig
  | release => exact (release_only ps s).sameRig
  | resume => exact (resume_only ps s).sameRig
  | hold | stopLoop | master | deskClear | capture | uncapture | grand | blackout | changeover =>
    simp only [ReqCode.perform, Machine.hold, Machine.stopLoop, Machine.master, Machine.deskClear, Machine.capture,
      Machine.uncapture, Machine.grand, Machine.blackout, Machine.changeover]
    repeat' split
    all_goals exact ⟨rfl, rfl, rfl, rfl⟩
  | patchLoad | lookWrite => exact .refl s
  | circuitSet | curveLoad | rigSet | rigLock | rigUnlock | rackSet | faultClear | reassign | restore | statusAck => cases h
  | _ => rw [perform_reads rfl]; exact .refl s

/-! ### All that a command can do to the rig -/

/-- From `s` a command changed the rig at most so: not at all, as a request performs it, as a power-on leaves it, or by an event of a
link. -/
inductive State.RigEvent (s : State) (c : Instr) (t : State) : Prop
  | same (h : s.SameRig t)
  | request {code ps u} (hc : c.requestCode = some code) (hu : s.SameRig u) (h : (code.perform ps u).1.SameRig t)
  | power {x y} (hc : c = .powerOn x y)
  | frameDue {l} (h : t = s.framed l)
  | pollEnd {l r} (hp : (s.link l).polling = some r)
      (h : t = s.setLink l { s.link l with window := some r, polling := none })
  | expiry {l} (h : t = s.windowSilent l)
  | reply {l bytes} (hc : c = .replyArrival l bytes)

theorem exec_rigEvent {c : Instr} (hx : exec c s = .next t) : s.RigEvent c t := by
  cases hc : c.requestCode with
  | some code =>
    rcases exec_request_cases hc hx with rfl | ⟨p, r, -, -, rfl | ⟨tr, rfl⟩ | ⟨o, rfl⟩ | rfl⟩
    · exact .same (.refl _)
    · exact .request hc (s.taken_same p).sameRig (State.answer_same ..).sameRig
    · exact .same ((s.taken_same p).trans (State.setPort_same ..)).sameRig
    · exact .same (((s.taken_same p).trans (State.setPort_same ..)).trans (State.answer_same ..)).sameRig
    · exact .same (((s.closeEarly_same p).trans (State.setPort_same ..)).sameRig.trans ⟨rfl, rfl, rfl, rfl⟩)
  | none =>
    have ports : ∀ (u : State) (p : Port) (v : PortState), v.transfer = (u.port p).transfer → s.SameRig u → s.SameRig (u.setPort p v) :=
      fun u p v _ hu => hu.trans (u.setPort_same p v).sameRig
    have deliver : ∀ (u : State) (p : Port) (tr : Transfer) (data : List Byte), (u.port p).transfer = some tr → s.SameRig u →
        s.SameRig (u.deliver p tr data) := fun u p tr data _ hu => hu.trans (u.deliver_delivery p tr data).sameRig
    cases c <;> cases hc
    case powerOn.refl => exact .power rfl
    case consoleReset.refl => cases hx; exact .same ⟨rfl, rfl, rfl, rfl⟩
    case consoleResetRelease.refl => cases hx; exact .same ⟨rfl, rfl, rfl, rfl⟩
    case requestFrameArrival.refl p xs => cases hx; exact .same (s.onFrame_same p xs _ fun _ _ _ => takeRequest_same).sameRig
    case malformedFrameArrival.refl p xs => cases hx; exact .same (s.onFrame_same p xs _ fun _ _ _ => takeMalformed_same).sameRig
    case dataFrameArrival.refl p xs => cases hx; exact .same (onFrame_takeData ports deliver (.refl s) p xs)
    case dataHoldDelivery.refl p => cases hx; exact .same (deliverHeld_keeps ports deliver (.refl s) p)
    case inactivityTimeout.refl p =>
      simp only [exec, execInactivityTimeout] at hx
      split at hx <;> cases hx
      · exact .same (s.closeEarly_same p).sameRig
      · exact .same (.refl s)
    case heldDeskClearPerformed.refl =>
      simp only [exec, execHeldDeskClearPerformed] at hx
      split at hx
      · cases hx; exact .same (.refl s)
      · split at hx <;> cases hx
        · exact .same (.refl s)
        · exact .same (((State.setPort_same ..).sameRig.trans (perform_sameRig (code := .deskClear) rfl _ _)).trans
            (State.answer_same ..).sameRig)
    case switchEvent.refl =>
      simp only [exec, execSwitchEvent] at hx
      split at hx <;> cases hx
      · exact .same s.switchOver_sameRig
      · exact .same (.refl s)
    case fadeInterval.refl =>
      simp only [exec, execFadeInterval] at hx
      split at hx <;> rw [← Host.Outcome.next.inj hx]
      · exact .same (s.fadeTick_only.sameRig.trans (State.setChangeover_sameRig ..))
      · exact .same (.refl s)
    case frameDue.refl l =>
      simp only [exec, execFrameDue_eq] at hx
      split at hx <;> rw [← Host.Outcome.next.inj hx]
      · exact .frameDue rfl
      · exact .same (.refl s)
    case pollFrameEnd.refl l =>
      simp only [exec, execPollFrameEnd] at hx
      split at hx <;> cases hx
      · exact .same (.refl s)
      · exact .pollEnd ‹_› rfl
    case windowExpiry.refl l => cases hx; exact .expiry rfl
    case replyArrival.refl l bytes => exact .reply rfl
    case answerWhollySent.refl p =>
      simp only [exec, execAnswerWhollySent] at hx
      split at hx <;> cases hx
      · exact .same (.refl s)
      · exact .same (s.setPort_same ..).sameRig

end

end Sys2Proof.Machine
end

section
/-!
SUPPORT. Settings, present fields and poll orders: what the link events and the transfer controller leave of them (O9, O36).
-/

namespace Sys2Proof.Machine

/-! ### Changes of every circuit or row -/

theorem State.circuit_mapCircuits (s : State) {f : Circuit → Circuit} (h : f Circuit.initial = Circuit.initial) (n : Nat) :
    (s.mapCircuits f).circuit n = f (s.circuit n) := Tbl.get_mapVals Circuit.initial (fun _ => f) s.circuits n h

theorem State.circuit_acknowledgeAll (s : State) (n : Nat) : s.acknowledgeAll.circuit n = (s.circuit n).ackMarks :=
  s.circuit_mapCircuits (f := Circuit.ackMarks) rfl n

theorem State.link_acknowledgeAll (s : State) (l : LinkId) : s.acknowledgeAll.link l = (s.link l).ackNotices := by cases l <;> rfl

theorem Link.row_ackNotices (k : Link) (r : Nat) : k.ackNotices.row r = (k.row r).ackNotices :=
  Tbl.get_mapVals RackRow.initial (fun _ => RackRow.ackNotices) k.rows r rfl

/-! ### What a poll or a report leaves of a row or a circuit -/

theorem RackRow.silentPoll_kept (w : RackRow) : w.silentPoll.present = w.present ∧ w.silentPoll.pendingOrder = w.pendingOrder := by
  unfold RackRow.silentPoll
  repeat' split
  all_goals exact ⟨rfl, rfl⟩

theorem RackRow.waitReply_kept (w : RackRow) : w.waitReply.present = w.present ∧ w.waitReply.pendingOrder = w.pendingOrder := by
  unfold RackRow.waitReply
  split
  · exact ⟨rfl, rfl⟩
  · exact RackRow.silentPoll_kept _

/-! ### What the transfer controller leaves -/

/-- The fields of a circuit that only a CIRCUIT-SET writes (R39). -/
def Circuit.settings (c : Circuit) : Mode × Nat × Nat × Option Nat × Bool × Bool :=
  (c.mode, c.curve, c.threshold, c.park, c.openDetect, c.shortDetect)

theorem Circuit.report_settings (c : Circuit) (k : ReportKind) : (c.report k).settings = c.settings := by
  unfold Circuit.report
  split
  · cases k <;> rfl
  · rfl

/-- A link's poll order, what refers to it and the present fields are as they were, but that the reply window may have closed. -/
structure Link.SamePolls (k k' : Link) : Prop where
  pollOrder : k'.pollOrder = k.pollOrder
  lastPolled : k'.lastPolled = k.lastPolled
  polling : k'.polling = k.polling
  window : k'.window = k.window ∨ k'.window = none
  present : ∀ r, (k'.row r).present = (k.row r).present

theorem Link.SamePolls.refl (k : Link) : k.SamePolls k := ⟨rfl, rfl, rfl, .inl rfl, fun _ => rfl⟩

theorem Link.SamePolls.trans {k k' k'' : Link} (h : k.SamePolls k') (h' : k'.SamePolls k'') : k.SamePolls k'' :=
  ⟨h'.pollOrder.trans h.pollOrder, h'.lastPolled.trans h.lastPolled, h'.polling.trans h.polling,
    h'.window.elim (fun e => e ▸ h.window) .inr, fun r => (h'.present r).trans (h.present r)⟩

theorem Link.setRow_samePolls (k : Link) (r : Nat) {v : RackRow} (hv : v.present = (k.row r).present) :
    k.SamePolls (k.setRow r v) := by
  refine ⟨rfl, rfl, rfl, .inl rfl, fun r' => ?_⟩
  rw [Link.row_setRow]
  split
  · rename_i e; rw [hv, e]
  · rfl

/-- The settings of every circuit stand, and every link's polls. -/
structure State.KeepsConfig (s t : State) : Prop where
  settings : ∀ n, (t.circuit n).settings = (s.circuit n).settings
  polls : ∀ l, (s.link l).SamePolls (t.link l)

namespace State.KeepsConfig

variable {s t u : State}

theorem refl (s : State) : s.KeepsConfig s := ⟨fun _ => rfl, fun _ => .refl _⟩

theorem trans (h : s.KeepsConfig t) (h' : t.KeepsConfig u) : s.KeepsConfig u :=
  ⟨fun n => (h'.settings n).trans (h.settings n), fun l => (h.polls l).trans (h'.polls l)⟩

theorem setCircuit (h : s.KeepsConfig t) (n : Nat) {v : Circuit} (hv : v.settings = (t.circuit n).settings) :
    s.KeepsConfig (t.setCircuit n v) := by
  refine h.trans ⟨fun m => ?_, fun l => .refl _⟩
  rw [State.circuit_setCircuit]
  split
  · rename_i e; rw [hv, e]
  · rfl

theorem setLink (h : s.KeepsConfig t) (l : LinkId) {v : Link} (hv : (t.link l).SamePolls v) : s.KeepsConfig (t.setLink l v) := by
  refine h.trans ⟨fun n => by rw [State.circuit_setLink], fun m => ?_⟩
  rw [State.link_setLink]
  split
  · rename_i e; exact e ▸ hv
  · exact .refl _

theorem setRow (h : s.KeepsConfig t) (l : LinkId) (r : Nat) {v : RackRow} (hv : v.present = (t.row l r).present) :
    s.KeepsConfig (t.setRow l r v) := h.setLink l ((t.link l).setRow_samePolls r hv)

theorem setPending (h : s.KeepsConfig t) (l : LinkId) (r : Nat) (w : Option PendingOrder) : s.KeepsConfig (t.setPending l r w) :=
  h.setRow l r rfl

theorem rewriteRecords (h : s.KeepsConfig t) (f : PatchRec → PatchRec) : s.KeepsConfig (t.rewriteRecords f) :=
  h.trans ⟨fun _ => rfl, fun _ => .refl _⟩

theorem placeOrder (h : s.KeepsConfig t) (l : LinkId) (r : Nat) (o : Order) : s.KeepsConfig (t.placeOrder l r o) := by
  rcases t.placeOrder_cases l r o with ⟨-, e⟩ | ⟨-, e⟩ <;> rw [e]
  · exact h.setPending ..
  · exact h

theorem placeNext (h : s.KeepsConfig t) (l : LinkId) (r : Nat) : s.KeepsConfig (t.placeNext l r) := by
  rcases t.placeNext_cases l r with ⟨_, _, -, -, e⟩ | ⟨-, e⟩ <;> rw [e]
  · exact h.setPending ..
  · exact h

theorem placeAll (h : s.KeepsConfig t) (l : LinkId) : s.KeepsConfig (t.placeAll l) := by
  unfold State.placeAll
  generalize List.range' 1 16 = rs
  induction rs generalizing t with
  | nil => exact h
  | cons r rs ih => exact ih (h.placeNext l r)

theorem placeEvery (h : s.KeepsConfig t) : s.KeepsConfig t.placeEvery :=
  (((h.placeAll .a).placeAll .b).placeAll .c).placeAll .d

theorem oweUndo (h : s.KeepsConfig t) (l : LinkId) (r : Nat) (o : Order) : s.KeepsConfig (t.oweUndo l r o) := by
  unfold State.oweUndo
  split
  · split
    · exact h.setPending ..
    · exact h
  · exact h.setPending ..

theorem pairUp (h : s.KeepsConfig t) (failed spare : Nat) : s.KeepsConfig (t.pairUp failed spare) :=
  ((h.setCircuit failed (by rfl)).setCircuit spare (by rfl)).placeOrder ..

theorem confirmFailure (h : s.KeepsConfig t) (n : Nat) : s.KeepsConfig (t.confirmFailure n) := by
  unfold State.confirmFailure State.seekSpare
  dsimp only
  have h1 := h.setCircuit n (v := { t.circuit n with role := .failed, health := .failed }) rfl
  split
  · split
    · split
      · exact h1.pairUp ..
      · exact h1.setCircuit n rfl
    · exact h1.setCircuit n rfl
  · exact h1

theorem acknowledge (h : s.KeepsConfig t) (l : LinkId) (r : Nat) (o : Order) : s.KeepsConfig (t.acknowledge l r o) := by
  unfold State.acknowledge State.ackTransfer State.ackUndo
  dsimp only
  refine KeepsConfig.placeNext ?_ l r
  have h1 := h.setPending l r none
  split
  · split
    · exact (h1.setCircuit _ (by rfl)).rewriteRecords _
    · exact ((h1.setCircuit _ (by rfl)).setCircuit _ (by rfl)).rewriteRecords _
  · exact ((h1.rewriteRecords _).setCircuit _ (by rfl)).setCircuit _ (by rfl)

theorem abandon (h : s.KeepsConfig t) (l : LinkId) (r : Nat) (o : Order) : s.KeepsConfig (t.abandon l r o) := by
  unfold State.abandon State.revertPairing
  dsimp only
  refine KeepsConfig.placeNext ?_ l r
  have h1 := h.setRow l r (v := { t.row l r with pendingOrder := none, abandonedNotice := true }) rfl
  split
  · exact h1.setCircuit _ (by rfl)
  · exact (h1.setCircuit _ (by rfl)).setCircuit _ (by rfl)
  · exact (h1.setCircuit _ (by rfl)).setCircuit _ (by rfl)

/-! ### Polls and replies -/

theorem closeWindow (h : s.KeepsConfig t) (l : LinkId) : s.KeepsConfig (t.closeWindow l) :=
  h.setLink l ⟨rfl, rfl, rfl, .inr rfl, fun _ => rfl⟩

theorem windowSilent (h : s.KeepsConfig t) (l : LinkId) : s.KeepsConfig (t.windowSilent l) := by
  unfold State.windowSilent
  split
  · exact h
  · rename_i r _
    refine (h.closeWindow l).setRow l r ?_
    rw [(RackRow.silentPoll_kept _).1]
    simp [State.closeWindow, State.row, Link.row]

theorem takeAck (h : s.KeepsConfig t) (l : LinkId) (r : Nat) (c a : Option Order) : s.KeepsConfig (t.takeAck l r c a).1 := by
  unfold State.takeAck
  split
  · exact h
  · split
    · split
      · exact h.acknowledge ..
      · split
        · exact h.setPending ..
        · exact h.abandon ..
    · exact h

theorem takeReport {x : State × Bool} (h : s.KeepsConfig x.1) (l : LinkId) (r : Nat) (p : Report) :
    s.KeepsConfig (takeReport l r x p).1 := h.setCircuit _ (Circuit.report_settings ..)

theorem takeHealth {x : State × Bool} (h : s.KeepsConfig x.1) (l : LinkId) (r : Nat) (ps : List Report) (i : Nat) :
    s.KeepsConfig (takeHealth l r ps x i).1 := by
  unfold Machine.takeHealth
  dsimp only
  split
  · split
    · exact h.setCircuit _ (by rfl)
    · exact h.confirmFailure _
    · exact h.setCircuit _ (by rfl)
    · exact h
  · exact h

/-- A fold whose every step keeps them keeps them. -/
theorem foldlPair {α β : Type} {f : State × β → α → State × β}
    (hf : ∀ (x : State × β) a, s.KeepsConfig x.1 → s.KeepsConfig (f x a).1) (xs : List α) {x : State × β}
    (h : s.KeepsConfig x.1) : s.KeepsConfig (xs.foldl f x).1 := by
  induction xs generalizing x with
  | nil => exact h
  | cons a xs ih => exact ih (hf x a h)

theorem takeReady (h : s.KeepsConfig t) (l : LinkId) (r : Nat) (c : Option Order) (y : ReplyFrame) :
    s.KeepsConfig (t.takeReady l r c y) := by
  unfold State.takeReady
  dsimp only
  have h1 := (h.setRow l r (v := { (t.row l r).readyReply with thermal := y.thermal }) rfl).takeAck l r c y.ack
  have h2 := foldlPair (fun _ p hx => hx.takeReport l r p) y.reports (x := (_, false)) h1
  exact (foldlPair (fun _ i hx => hx.takeHealth l r y.reports i) (List.range' 1 32) (x := (_, false)) h2).setRow l r (by rfl)

/-- A reply arrival is a silent poll, a WAIT, or a READY taken stage by stage. -/
theorem replyArrival {l : LinkId} {bytes : List Byte} (hx : exec (.replyArrival l bytes) s = .next t) : s.KeepsConfig t := by
  rcases exec_replyArrival_cases hx with e | e | ⟨r, -, ⟨y, e⟩ | e⟩ <;> rw [e]
  · exact .refl s
  · exact (refl s).windowSilent l
  · exact ((refl s).closeWindow l).takeReady ..
  · refine ((refl s).closeWindow l).setRow l r ?_
    rw [(RackRow.waitReply_kept _).1]
    simp [State.closeWindow, State.row, Link.row]

/-- Every circuit changed, its settings apart. -/
theorem mapCircuits {f : Circuit → Circuit} (h0 : f Circuit.initial = Circuit.initial) (hf : ∀ c, (f c).settings = c.settings) :
    s.KeepsConfig (s.mapCircuits f) :=
  ⟨fun n => by rw [State.circuit_mapCircuits s h0, hf], fun _ => .refl _⟩

theorem acknowledgeAll (s : State) : s.KeepsConfig s.acknowledgeAll := by
  refine ⟨fun n => ?_, fun l => ?_⟩
  · rw [State.circuit_acknowledgeAll]; rfl
  · rw [State.link_acknowledgeAll]
    exact ⟨rfl, rfl, rfl, .inl rfl, fun r => by rw [Link.row_ackNotices]; rfl⟩

end State.KeepsConfig

/-! ### The poll orders (R143) -/

/-- A link's part of the rig's relations: the poll order holds the racks present, each once, and the racks polled among them. -/
structure Link.PollSound (k : Link) : Prop where
  order : ∀ r, r ∈ k.pollOrder ↔ rackOk r = true ∧ (k.row r).present = true
  once : k.pollOrder.Nodup
  polled : ∀ r, k.lastPolled = some r ∨ k.polling = some r ∨ k.window = some r → r ∈ k.pollOrder

namespace Link.PollSound

variable {k k' : Link}

theorem same (h : k.PollSound) (hk : k.SamePolls k') : k'.PollSound := by
  refine ⟨fun r => by rw [hk.pollOrder, hk.present]; exact h.order r, hk.pollOrder ▸ h.once, fun r hr => ?_⟩
  rw [hk.lastPolled, hk.polling] at hr
  rw [hk.pollOrder]
  rcases hr with hr | hr | hr
  · exact h.polled r (.inl hr)
  · exact h.polled r (.inr (.inl hr))
  · rcases hk.window with e | e <;> rw [e] at hr
    · exact h.polled r (.inr (.inr hr))
    · cases hr

/-- The rack polled moves to the end of the poll order. -/
theorem poll (h : k.PollSound) : k.poll.PollSound := by
  unfold Link.poll
  split
  · refine ⟨h.order, h.once, fun r hr => h.polled r ?_⟩
    rcases hr with hr | hr | hr
    · exact .inl hr
    · cases hr
    · exact .inr (.inr hr)
  · rename_i r hr
    have hmem := Link.choose_mem hr
    have moved (x : Nat) : x ∈ k.pollOrder.filter (fun x => x ≠ r) ++ [r] ↔ x ∈ k.pollOrder := by
      by_cases e : x = r
      · simp [e, hmem]
      · simp [e]
    refine ⟨fun x => (moved x).trans (h.order x), ?_, fun x hx => (moved x).mpr ?_⟩
    · exact List.nodup_append.mpr ⟨h.once.filter _, List.nodup_singleton r, by simp⟩
    · rcases hx with hx | hx | hx
      · exact Option.some.inj hx ▸ hmem
      · exact Option.some.inj hx ▸ hmem
      · exact h.polled x (.inr (.inr hx))

theorem pollEnd (h : k.PollSound) {r : Nat} (hr : k.polling = some r) :
    ({ k with window := some r, polling := none } : Link).PollSound := by
  refine ⟨h.order, h.once, fun x hx => ?_⟩
  rcases hx with hx | hx | hx
  · exact h.polled x (.inl hx)
  · cases hx
  · exact h.polled x (.inr (.inl (hr.trans hx)))

theorem addRack (h : k.PollSound) {r : Nat} (hr : rackOk r = true) (ha : (k.row r).present = false) : (k.addRack r).PollSound := by
  have habsent : r ∉ k.pollOrder := fun hm => by rw [((h.order r).mp hm).2] at ha; cases ha
  have row (x : Nat) : (k.addRack r).row x = (k.setRow r ((k.row r).configured true)).row x := rfl
  refine ⟨fun x => ?_, ?_, fun x hx => List.mem_append_left _ (h.polled x hx)⟩
  · rw [row, Link.row_setRow]
    by_cases e : r = x
    · subst e; simp [Link.addRack, RackRow.configured, hr]
    · rw [if_neg e, ← h.order x]
      simp [Link.addRack, Link.setRow, Ne.symm e]
  · exact List.nodup_append.mpr ⟨h.once, List.nodup_singleton r, fun x hx y hy e =>
      habsent (List.mem_singleton.mp hy ▸ e ▸ hx)⟩

theorem dropRack (h : k.PollSound) (r : Nat) : (k.dropRack r).PollSound := by
  have row (x : Nat) : (k.dropRack r).row x = (k.setRow r ((k.row r).configured false)).row x := rfl
  have left (x : Nat) : x ∈ (k.dropRack r).pollOrder ↔ x ∈ k.pollOrder ∧ x ≠ r := by simp [Link.dropRack]
  have others {o : Option Nat} {x : Nat} (hx : (if o = some r then none else o) = some x) : o = some x ∧ x ≠ r := by
    split at hx
    · cases hx
    · rename_i hne; exact ⟨hx, fun e => hne (e ▸ hx)⟩
  refine ⟨fun x => ?_, h.once.filter _, fun x hx => (left x).mpr ?_⟩
  · rw [left, row, Link.row_setRow]
    by_cases e : r = x
    · subst e; simp [RackRow.configured]
    · rw [if_neg e, ← h.order x]
      simp [Ne.symm e]
  · rcases hx with hx | hx | hx
    · exact ⟨h.polled x (.inl (others hx).1), (others hx).2⟩
    · exact ⟨h.polled x (.inr (.inl (others hx).1)), (others hx).2⟩
    · exact ⟨h.polled x (.inr (.inr (others hx).1)), (others hx).2⟩

theorem powerOn (k : Link) : k.powerOn.PollSound := by
  have row (r : Nat) : k.powerOn.row r = (k.row r).powerOn :=
    Tbl.get_mapVals RackRow.initial (fun _ => RackRow.powerOn) k.rows r rfl
  refine ⟨fun r => ?_, (List.nodup_range' ..).filter _, fun r hr => ?_⟩
  · rw [row, rackOk_iff]
    simp only [Link.powerOn, RackRow.powerOn, List.mem_filter, List.mem_range'_1]
    refine and_congr_left fun _ => ?_
    omega
  · rcases hr with hr | hr | hr <;> cases hr

end Link.PollSound

end Sys2Proof.Machine
end

section
/-!
SUPPORT. Roles, pairings, health and orders, circuit by circuit and rack by rack: what a write of a circuit and its partner has to
show for them to stand (O9).
-/

namespace Sys2Proof.Machine

/-! ### Circuits and racks by number -/

theorem rackOf_ok (n : Nat) : rackOk (rackOf n) = true := by
  rw [rackOk_iff]
  unfold rackOf
  omega

theorem indexOf_range (n : Nat) : 1 ≤ indexOf n ∧ indexOf n ≤ 32 := by unfold indexOf; omega

/-- The circuit at an index of a rack, by where it lies. -/
theorem circuitAt_eq_iff {l : LinkId} {r i n : Nat} (hr : rackOk r = true) (hi : 1 ≤ i ∧ i ≤ 32) (hn : circuitOk n = true) :
    circuitAt l r i = n ↔ linkOf n = l ∧ rackOf n = r ∧ indexOf n = i := by
  constructor
  · rintro rfl
    exact (circuitAt_range l hr hi).2
  · rintro ⟨rfl, rfl, rfl⟩
    exact circuitAt_of hn

/-! ### The relations, one by one -/

section
variable {s t : State}

/-- The relations of one circuit: its role fits its pairing, the other end fits both, and so do health and re-send mark (R33, R36,
R159). -/
structure State.CircuitSound (s : State) (n : Nat) : Prop where
  unpaired : (s.circuit n).role = .ordinary ∨ (s.circuit n).role = .spareFree ∨ (s.circuit n).role = .retired →
    (s.circuit n).pairing = .unpaired
  failed : ∀ m, (s.circuit n).role = .failed → (s.circuit n).pairing.partner = some m →
    circuitOk m = true ∧ sameRack n m = true ∧ (s.circuit m).role = (s.circuit n).pairing.spareRole ∧
    (s.circuit m).pairing = (s.circuit n).pairing.withPartner n
  spare : (s.circuit n).role = .spareHeld ∨ (s.circuit n).role = .spareInUse →
    ∃ m, (s.circuit n).pairing.partner = some m ∧ circuitOk m = true ∧ (s.circuit m).role = .failed ∧
      (s.circuit m).pairing.partner = some n
  health : (s.circuit n).health = .failed ↔ (s.circuit n).role = .failed
  resend : (s.circuit n).resend = true → (s.circuit n).role = .failed ∧ ∃ m, (s.circuit n).pairing = .confirmed m

theorem State.CircuitSound.congr {n : Nat} (h : s.CircuitSound n) (hc : ∀ k, t.circuit k = s.circuit k) : t.CircuitSound n := by
  obtain ⟨hunpaired, hfailed, hspare, hhealth, hresend⟩ := h
  constructor <;> simpa only [hc]

/-- A rack's order: pending with a count below the limit and owed, or nothing owed (R160). -/
def State.OrderSound (s : State) (l : LinkId) (r : Nat) : Prop :=
  match (s.row l r).pendingOrder with
  | none => s.owedOrders l r = []
  | some w => w.order ∈ s.owedOrders l r ∧ w.unacknowledged < Config.unackLimit

/-- The relations of the rig but for the poll orders. -/
structure State.PairsSound (s : State) : Prop where
  circuits : ∀ n, circuitOk n = true → s.CircuitSound n
  spares : ∀ l r, rackOk r = true → s.rackSpares l r ≤ Config.rackSpares
  orders : ∀ l r, rackOk r = true → s.OrderSound l r

/-- The relations of the rig are those of its circuits, its orders and its links. -/
theorem State.rigOk_iff : s.RigOk ↔ s.PairsSound ∧ ∀ l, (s.link l).PollSound := by
  constructor
  · intro h
    refine ⟨⟨fun n hn => ⟨h.unpaired n hn, fun m => h.failed n m hn, h.spare n hn, h.health n hn, h.resend n hn⟩, h.spares,
      fun l r hr => ?_⟩, fun l => ⟨h.pollOrder l, h.pollOnce l, h.polled l⟩⟩
    unfold State.OrderSound
    split
    · exact h.noOrder l r hr ‹_›
    · exact h.order l r _ hr ‹_›
  · rintro ⟨⟨hc, hs, ho⟩, hp⟩
    refine ⟨fun n hn => (hc n hn).unpaired, fun n m hn => (hc n hn).failed m, fun n hn => (hc n hn).spare, hs,
      fun n hn => (hc n hn).health, fun n hn => (hc n hn).resend, fun l => (hp l).order, fun l => (hp l).once, fun l => (hp l).polled,
      fun l r hr hw => ?_, fun l r w hr hw => ?_⟩
    · have := ho l r hr
      rwa [State.OrderSound, hw] at this
    · have := ho l r hr
      rwa [State.OrderSound, hw] at this

/-! ### Owed orders -/

theorem State.mem_owedOrders {l : LinkId} {r : Nat} {o : Order} :
    o ∈ s.owedOrders l r ↔ ∃ i, (1 ≤ i ∧ i ≤ 32) ∧ s.owedOrder l r i = some o := by
  unfold State.owedOrders
  rw [List.mem_filterMap]
  refine exists_congr fun i => and_congr_left fun _ => ?_
  rw [List.mem_range'_1]
  omega

/-- An owed order is of the circuit at its index. -/
theorem State.owedOrder_index {l : LinkId} {r i : Nat} {o : Order} (h : s.owedOrder l r i = some o) : o.circuitIndex = i := by
  unfold State.owedOrder at h
  repeat' split at h
  all_goals cases h <;> rfl

theorem State.owedOrder_congr {l : LinkId} {r i : Nat} (hr : (t.circuit (circuitAt l r i)).role = (s.circuit (circuitAt l r i)).role)
    (hp : (t.circuit (circuitAt l r i)).pairing = (s.circuit (circuitAt l r i)).pairing)
    (hs : (t.circuit (circuitAt l r i)).resend = (s.circuit (circuitAt l r i)).resend) :
    t.owedOrder l r i = s.owedOrder l r i := by
  unfold State.owedOrder
  rw [hr, hp, hs]

/-- A circuit that is not FAILED, or is FAILED with pairing NONE, owes no order. -/
theorem State.owedOrder_none {l : LinkId} {r i : Nat} (h : (s.circuit (circuitAt l r i)).role ≠ .failed ∨
    (s.circuit (circuitAt l r i)).pairing = .unpaired) : s.owedOrder l r i = none := by
  unfold State.owedOrder
  rcases h with h | h
  · rw [if_neg h]
  · rw [h]; split <;> rfl

/-- Where every circuit of the rack owes what it owed, the rack's order stands. -/
theorem State.OrderSound.congr {l : LinkId} {r : Nat} (h : s.OrderSound l r)
    (howed : ∀ i, 1 ≤ i ∧ i ≤ 32 → t.owedOrder l r i = s.owedOrder l r i)
    (hp : (t.row l r).pendingOrder = (s.row l r).pendingOrder) : t.OrderSound l r := by
  have : t.owedOrders l r = s.owedOrders l r := by
    unfold State.owedOrders
    refine List.filterMap_congr fun i hi => howed i ?_
    rw [List.mem_range'_1] at hi
    omega
  unfold State.OrderSound at *
  rw [hp, this]
  exact h

/-- Where no rack holds a pending order, its placing leaves it as it should be, whatever is owed (R160). -/
theorem State.orderSound_placeNext {l : LinkId} {r : Nat} (h : (s.row l r).pendingOrder = none) : (s.placeNext l r).OrderSound l r := by
  have howed : (s.placeNext l r).owedOrders l r = s.owedOrders l r := State.owedOrders_congr (s.circuit_placeNext l r) l r
  unfold State.OrderSound
  rw [howed]
  rcases s.placeNext_cases l r with ⟨o, rest, ho, -, e⟩ | ⟨h', e⟩ <;> rw [e]
  · rw [State.row_setPending, if_pos ⟨rfl, rfl⟩, ho]
    exact ⟨List.mem_cons_self, (by decide : 0 < Config.unackLimit)⟩
  · rw [h]
    exact h'.resolve_right (fun hne => hne h)

/-! ### Circuits as they were -/

/-- Role, pairing, re-send mark, and whether health is FAILED. -/
structure Circuit.SamePairing (c c' : Circuit) : Prop where
  role : c'.role = c.role
  pairing : c'.pairing = c.pairing
  resend : c'.resend = c.resend
  health : c'.health = .failed ↔ c.health = .failed

theorem Circuit.SamePairing.refl (c : Circuit) : c.SamePairing c := ⟨rfl, rfl, rfl, .rfl⟩

theorem State.PairsSound.same (h : s.PairsSound) (hc : ∀ n, (s.circuit n).SamePairing (t.circuit n))
    (hp : ∀ l r, (t.row l r).pendingOrder = (s.row l r).pendingOrder) : t.PairsSound := by
  refine ⟨fun n hn => ?_, fun l r hr => ?_, fun l r hr => (h.orders l r hr).congr (fun i _ =>
    State.owedOrder_congr (hc _).role (hc _).pairing (hc _).resend) (hp l r)⟩
  · obtain ⟨h1, h2, h3, h4, h5⟩ := h.circuits n hn
    have role (m : Nat) := (hc m).role
    have pairing (m : Nat) := (hc m).pairing
    refine ⟨?_, ?_, ?_, (hc n).health.trans ?_, ?_⟩ <;> simp only [role, pairing, (hc n).resend]
    · exact h1
    · exact h2
    · exact h3
    · exact h4
    · exact h5
  · have : t.rackSpares l r = s.rackSpares l r := by simp only [State.rackSpares, (hc _).role]
    exact this ▸ h.spares l r hr

/-! ### A circuit and its partner written -/

/-- The partner of a circuit is a circuit of its rack, whose partner it is. -/
theorem State.PairsSound.partner (h : s.PairsSound) {n m : Nat} (hn : circuitOk n = true)
    (hp : (s.circuit n).pairing.partner = some m) :
    circuitOk m = true ∧ sameRack n m = true ∧ (s.circuit m).pairing.partner = some n := by
  obtain ⟨hunpaired, hfailed, hspare, -, -⟩ := h.circuits n hn
  have paired (hu : (s.circuit n).pairing = .unpaired) : False := by rw [hu] at hp; cases hp
  have spare (hr : (s.circuit n).role = .spareHeld ∨ (s.circuit n).role = .spareInUse) :
      circuitOk m = true ∧ sameRack n m = true ∧ (s.circuit m).pairing.partner = some n := by
    obtain ⟨m', hm', hok, hf, hback⟩ := hspare hr
    obtain rfl : m' = m := Option.some.inj (hm'.symm.trans hp)
    have hsame := ((h.circuits m' hok).failed n hf hback).2.1
    rw [sameRack_iff] at hsame ⊢
    exact ⟨hok, ⟨hsame.1.symm, hsame.2.symm⟩, hback⟩
  cases hr : (s.circuit n).role with
  | ordinary => exact (paired (hunpaired (.inl hr))).elim
  | spareFree => exact (paired (hunpaired (.inr (.inl hr)))).elim
  | retired => exact (paired (hunpaired (.inr (.inr hr)))).elim
  | spareHeld => exact spare (.inl hr)
  | spareInUse => exact spare (.inr hr)
  | failed =>
    obtain ⟨hok, hsame, -, hback⟩ := hfailed m hr hp
    refine ⟨hok, hsame, ?_⟩
    rw [hback]
    cases hpair : (s.circuit n).pairing with
    | unpaired => exact (paired hpair).elim
    | _ => rfl

/-- From `s` to `t` circuits `n` and `m` of one rack were written and no other, neither of them paired with a third. -/
structure State.WritesPair (s t : State) (n m : Nat) : Prop where
  nOk : circuitOk n = true
  mOk : circuitOk m = true
  rack : sameRack n m = true
  nPartner : ∀ k, (s.circuit n).pairing.partner = some k → k = m
  mPartner : ∀ k, (s.circuit m).pairing.partner = some k → k = n
  others : ∀ k, k ≠ n → k ≠ m → t.circuit k = s.circuit k

/-- Where the two circuits written fit their roles, and their rack its spares and its order, the relations of the rig stand. -/
theorem State.PairsSound.writePair (h : s.PairsSound) {n m : Nat} (w : s.WritesPair t n m) (hn : t.CircuitSound n) (hm : t.CircuitSound m)
    (hspares : t.rackSpares (linkOf n) (rackOf n) ≤ Config.rackSpares) (horder : t.OrderSound (linkOf n) (rackOf n))
    (hp : ∀ l r, ¬ (l = linkOf n ∧ r = rackOf n) → (t.row l r).pendingOrder = (s.row l r).pendingOrder) : t.PairsSound := by
  obtain ⟨hlink, hrack⟩ := (sameRack_iff n m).mp w.rack
  have apart {l : LinkId} {r i : Nat} (hr : rackOk r = true) (hi : 1 ≤ i ∧ i ≤ 32) (hne : ¬ (l = linkOf n ∧ r = rackOf n)) :
      t.circuit (circuitAt l r i) = s.circuit (circuitAt l r i) := by
    refine w.others _ (fun e => hne ?_) (fun e => hne ?_)
    · obtain ⟨h1, h2, -⟩ := (circuitAt_eq_iff hr hi w.nOk).mp e
      exact ⟨h1.symm, h2.symm⟩
    · obtain ⟨h1, h2, -⟩ := (circuitAt_eq_iff hr hi w.mOk).mp e
      exact ⟨h1.symm.trans hlink.symm, h2.symm.trans hrack.symm⟩
  refine ⟨fun k hk => ?_, fun l r hr => ?_, fun l r hr => ?_⟩
  · by_cases hkn : k = n
    · exact hkn ▸ hn
    by_cases hkm : k = m
    · exact hkm ▸ hm
    have self := w.others k hkn hkm
    have partner {p : Nat} (hp : (s.circuit k).pairing.partner = some p) : t.circuit p = s.circuit p := by
      obtain ⟨-, -, hback⟩ := h.partner hk hp
      refine w.others p (fun e => hkm ?_) (fun e => hkn ?_)
      · exact w.nPartner k (e ▸ hback)
      · exact w.mPartner k (e ▸ hback)
    obtain ⟨h1, h2, h3, h4, h5⟩ := h.circuits k hk
    refine ⟨?_, ?_, ?_, ?_, ?_⟩ <;> rw [self]
    · exact h1
    · intro p hf hp
      rw [partner hp]
      exact h2 p hf hp
    · intro hr
      obtain ⟨p, hp, rest⟩ := h3 hr
      exact ⟨p, hp, by rw [partner hp]; exact rest⟩
    · exact h4
    · exact h5
  · by_cases hne : l = linkOf n ∧ r = rackOf n
    · obtain ⟨rfl, rfl⟩ := hne
      exact hspares
    · refine le_of_eq_of_le (List.countP_congr fun i hi => ?_) (h.spares l r hr)
      rw [List.mem_range'_1] at hi
      rw [apart hr (by omega) hne]
  · by_cases hne : l = linkOf n ∧ r = rackOf n
    · obtain ⟨rfl, rfl⟩ := hne
      exact horder
    · exact (h.orders l r hr).congr (fun i hi => by unfold State.owedOrder; rw [apart hr hi hne]) (hp l r hne)

/-- A spare stays a spare and no circuit becomes one: the racks keep their count. -/
theorem State.rackSpares_congr (h : ∀ k, (t.circuit k).role.isSpare = (s.circuit k).role.isSpare) (l : LinkId) (r : Nat) :
    t.rackSpares l r = s.rackSpares l r := by simp only [State.rackSpares, h]

end

end Sys2Proof.Machine
end

section
/-!
SUPPORT. Roles, pairings, health and orders under each change the transfer controller makes: a failure, a pairing, an acknowledgement, an
abandoned order, a RESTORE (O9).
-/

namespace Sys2Proof.Machine

section
variable {s t u : State}

/-! ### Circuits that fit -/

/-- A circuit with pairing NONE in a role that asks for none. -/
theorem State.circuitSound_unpaired {n : Nat} (hp : (t.circuit n).pairing = .unpaired) (hr : (t.circuit n).role.isSpare = true →
    (t.circuit n).role = .spareFree) (hh : (t.circuit n).health = .failed ↔ (t.circuit n).role = .failed)
    (hs : (t.circuit n).resend = false) : t.CircuitSound n := by
  refine ⟨fun _ => hp, fun m _ hm => ?_, fun h => ?_, hh, fun h => ?_⟩
  · rw [hp] at hm; cases hm
  · rcases h with h | h <;> rw [h] at hr <;> exact absurd (hr rfl) nofun
  · rw [hs] at h; cases h

/-- A FAILED circuit and its spare, each at the other's end of one pairing. -/
structure State.Joined (t : State) (failed spare : Nat) : Prop where
  failedOk : circuitOk failed = true
  spareOk : circuitOk spare = true
  rack : sameRack failed spare = true
  partner : (t.circuit failed).pairing.partner = some spare
  role : (t.circuit failed).role = .failed
  health : (t.circuit failed).health = .failed
  resend : (t.circuit failed).resend = true → (t.circuit failed).pairing = .confirmed spare
  spareRole : (t.circuit spare).role = (t.circuit failed).pairing.spareRole
  sparePairing : (t.circuit spare).pairing = (t.circuit failed).pairing.withPartner failed
  spareHealth : (t.circuit spare).health ≠ .failed
  spareResend : (t.circuit spare).resend = false

theorem State.Joined.sound (h : t.Joined failed spare) : t.CircuitSound failed ∧ t.CircuitSound spare := by
  obtain ⟨hf, hs, hrack, hpartner, hrole, hhealth, hresend, hsrole, hspair, hshealth, hsresend⟩ := h
  have back : (t.circuit spare).pairing.partner = some failed := by
    rw [hspair]
    cases hp : (t.circuit failed).pairing with
    | unpaired => rw [hp] at hpartner; cases hpartner
    | _ => rfl
  have used : (t.circuit spare).role = .spareHeld ∨ (t.circuit spare).role = .spareInUse := by
    rw [hsrole]
    cases hp : (t.circuit failed).pairing with
    | unpaired => rw [hp] at hpartner; cases hpartner
    | ordered => exact .inl rfl
    | confirmed | restoring => exact .inr rfl
  refine ⟨⟨fun h => ?_, fun m _ hm => ?_, fun h => ?_, by simp [hrole, hhealth], fun h => ⟨hrole, spare, hresend h⟩⟩,
    ⟨fun h => ?_, fun m h => ?_, fun _ => ⟨failed, back, hf, hrole, hpartner⟩, ?_, fun h => ?_⟩⟩
  · rw [hrole] at h; rcases h with h | h | h <;> cases h
  · obtain rfl := Option.some.inj (hpartner.symm.trans hm)
    exact ⟨hs, hrack, hsrole, hspair⟩
  · rw [hrole] at h; rcases h with h | h <;> cases h
  · rcases used with e | e <;> rw [e] at h <;> rcases h with h | h | h <;> cases h
  · rcases used with e | e <;> rw [e] at h <;> cases h
  · refine iff_of_false hshealth fun h => ?_
    rcases used with e | e <;> rw [e] at h <;> cases h
  · rw [hsresend] at h; cases h

/-- A FAILED circuit with a partner and that partner are so joined. -/
theorem State.PairsSound.joined (h : s.PairsSound) {failed spare : Nat} (hn : circuitOk failed = true)
    (hf : (s.circuit failed).role = .failed) (hp : (s.circuit failed).pairing.partner = some spare) : s.Joined failed spare := by
  obtain ⟨hok, hrack, hrole, hpair⟩ := (h.circuits failed hn).failed spare hf hp
  have hfailed : (s.circuit spare).role ≠ .failed := by
    rw [hrole]; cases (s.circuit failed).pairing <;> nofun
  refine ⟨hn, hok, hrack, hp, hf, (h.circuits failed hn).health.mpr hf, fun hr => ?_, hrole, hpair,
    fun hh => hfailed ((h.circuits spare hok).health.mp hh), ?_⟩
  · obtain ⟨-, m, hm⟩ := (h.circuits failed hn).resend hr
    rw [hm] at hp ⊢
    rw [Option.some.inj hp]
  · by_contra hr
    exact hfailed ((h.circuits spare hok).resend (by simpa using hr)).1

theorem State.Joined.ne (h : t.Joined failed spare) : failed ≠ spare := by
  rintro rfl
  have := h.spareRole
  rw [h.role] at this
  cases hp : (t.circuit failed).pairing <;> rw [hp] at this <;> cases this

/-- What is written at the two ends of a pairing touches no third circuit's. -/
theorem State.Joined.writes (h : s.Joined failed spare) (hothers : ∀ k, k ≠ failed → k ≠ spare → t.circuit k = s.circuit k) :
    s.WritesPair t failed spare := by
  refine ⟨h.failedOk, h.spareOk, h.rack, fun k hk => Option.some.inj (hk.symm.trans h.partner), fun k hk => ?_, hothers⟩
  have hp := h.partner
  rw [h.sparePairing] at hk
  cases hpair : (s.circuit failed).pairing <;> rw [hpair] at hk hp <;> cases hk <;> rfl

/-- Two circuits of pairing NONE in one rack touch no third. -/
theorem State.writes_unpaired {n m : Nat} (hn : circuitOk n = true) (hm : circuitOk m = true) (hrack : sameRack n m = true)
    (pn : (s.circuit n).pairing = .unpaired) (pm : (s.circuit m).pairing = .unpaired)
    (hothers : ∀ k, k ≠ n → k ≠ m → t.circuit k = s.circuit k) : s.WritesPair t n m :=
  ⟨hn, hm, hrack, fun k hk => (by rw [pn] at hk; cases hk), fun k hk => (by rw [pm] at hk; cases hk), hothers⟩

/-- A pair written with spares staying spares keeps the racks' counts. -/
theorem State.PairsSound.spares_writePair (h : s.PairsSound) {n m : Nat} (w : s.WritesPair t n m)
    (hn : (t.circuit n).role.isSpare = (s.circuit n).role.isSpare) (hm : (t.circuit m).role.isSpare = (s.circuit m).role.isSpare) :
    t.rackSpares (linkOf n) (rackOf n) ≤ Config.rackSpares := by
  rw [State.rackSpares_congr (s := s) fun k => ?_]
  · exact h.spares _ _ (rackOf_ok n)
  · by_cases hkn : k = n
    · rw [hkn, hn]
    · by_cases hkm : k = m
      · rw [hkm, hm]
      · rw [w.others k hkn hkm]

/-! ### One circuit without a partner -/

/-- A circuit of pairing NONE written with another role that asks for none. -/
theorem State.PairsSound.writeUnpaired (h : s.PairsSound) {n : Nat} {v : Circuit} (hn : circuitOk n = true)
    (hp : (s.circuit n).pairing = .unpaired) (vp : v.pairing = .unpaired) (vr : v.role.isSpare = true → v.role = .spareFree)
    (vh : v.health = .failed ↔ v.role = .failed) (vs : v.resend = (s.circuit n).resend)
    (hspares : (s.setCircuit n v).rackSpares (linkOf n) (rackOf n) ≤ Config.rackSpares) : (s.setCircuit n v).PairsSound := by
  have self : (s.setCircuit n v).circuit n = v := by simp
  have other (k : Nat) (hk : k ≠ n) : (s.setCircuit n v).circuit k = s.circuit k := by simp [Ne.symm hk]
  have resend : v.resend = false := by
    rw [vs]
    by_contra hr
    obtain ⟨-, m, hm⟩ := (h.circuits n hn).resend (by simpa using hr)
    rw [hp] at hm; cases hm
  have sound : (s.setCircuit n v).CircuitSound n := by
    apply State.circuitSound_unpaired <;> rw [self]
    · exact vp
    · exact vr
    · exact vh
    · exact resend
  refine h.writePair (State.writes_unpaired hn hn (by simp [sameRack_iff]) hp hp fun k hk _ => other k hk) sound sound hspares
    ((h.orders _ _ (rackOf_ok n)).congr (fun i _ => ?_) rfl) fun _ _ _ => rfl
  by_cases e : circuitAt (linkOf n) (rackOf n) i = n
  · rw [State.owedOrder_none (.inr (by rw [e, self, vp])), State.owedOrder_none (.inr (by rw [e, hp]))]
  · unfold State.owedOrder
    rw [other _ e]

/-- An ORDINARY circuit fails (R161). -/
theorem State.PairsSound.fail (h : s.PairsSound) {n : Nat} (hn : circuitOk n = true) (ho : (s.circuit n).role = .ordinary) :
    (s.setCircuit n { s.circuit n with role := .failed, health := .failed }).PairsSound := by
  have hp := (h.circuits n hn).unpaired (.inl ho)
  refine h.writeUnpaired hn hp hp nofun (by simp) rfl ?_
  rw [State.rackSpares_congr (s := s) fun k => ?_]
  · exact h.spares _ _ (rackOf_ok n)
  · rw [State.circuit_setCircuit]
    split
    · rename_i e; rw [← e, ho]; rfl
    · rfl

/-! ### A pairing made -/

/-- The owed orders of a rack that still are owed. -/
theorem State.owedOrders_mono {l : LinkId} {r : Nat} {o : Order} (h : o ∈ s.owedOrders l r)
    (howed : ∀ i, s.owedOrder l r i = some o → t.owedOrder l r i = some o) : o ∈ t.owedOrders l r := by
  obtain ⟨i, hi, ho⟩ := State.mem_owedOrders.mp h
  exact State.mem_owedOrders.mpr ⟨i, hi, howed i ho⟩

/-- An owed order is placed where nothing is pending, and what is pending stays as it should be. -/
theorem State.orderSound_placeOrder {l : LinkId} {r : Nat} {o : Order} (ho : o ∈ s.owedOrders l r)
    (h : ∀ w, (s.row l r).pendingOrder = some w → w.order ∈ s.owedOrders l r ∧ w.unacknowledged < Config.unackLimit) :
    (s.placeOrder l r o).OrderSound l r := by
  have howed : (s.placeOrder l r o).owedOrders l r = s.owedOrders l r := State.owedOrders_congr (s.circuit_placeOrder l r · o) l r
  unfold State.OrderSound
  rw [howed]
  rcases s.placeOrder_cases l r o with ⟨-, e⟩ | ⟨hw, e⟩ <;> rw [e]
  · rw [State.row_setPending, if_pos ⟨rfl, rfl⟩]
    exact ⟨ho, (by decide : 0 < Config.unackLimit)⟩
  · obtain ⟨w, hw⟩ := Option.ne_none_iff_exists'.mp hw
    rw [hw]
    exact h w hw

theorem State.OrderSound.pending {l : LinkId} {r : Nat} (h : s.OrderSound l r) {w : PendingOrder}
    (hw : (s.row l r).pendingOrder = some w) : w.order ∈ s.owedOrders l r ∧ w.unacknowledged < Config.unackLimit := by
  rwa [State.OrderSound, hw] at h

/-- The placing of an order writes no other rack's row. -/
theorem State.row_placeOrder_other {l l' : LinkId} {r r' : Nat} {o : Order} (h : ¬ (l' = l ∧ r' = r)) :
    (s.placeOrder l r o).row l' r' = s.row l' r' := by
  rcases s.placeOrder_cases l r o with ⟨-, e⟩ | ⟨-, e⟩ <;> rw [e]
  rw [State.row_setPending, if_neg fun e => h ⟨e.1.symm, e.2.symm⟩]

/-- The pairing of a FAILED circuit that has none with a free spare of its rack (R163). -/
theorem State.PairsSound.pairUp (h : s.PairsSound) {failed spare : Nat} (hfok : circuitOk failed = true)
    (hsok : circuitOk spare = true) (hrack : sameRack failed spare = true) (hf : (s.circuit failed).role = .failed)
    (hp : (s.circuit failed).pairing = .unpaired) (hs : (s.circuit spare).role = .spareFree) : (s.pairUp failed spare).PairsSound := by
  have hne : failed ≠ spare := by rintro rfl; rw [hf] at hs; cases hs
  have circuit := s.circuit_pairUp hne
  have cf : (s.pairUp failed spare).circuit failed = { s.circuit failed with pairing := .ordered spare } := by
    rw [circuit, if_pos rfl]
  have cs : (s.pairUp failed spare).circuit spare = { s.circuit spare with role := .spareHeld, pairing := .ordered failed } := by
    rw [circuit, if_neg (Ne.symm hne), if_pos rfl]
  have others (k : Nat) (h1 : k ≠ failed) (h2 : k ≠ spare) : (s.pairUp failed spare).circuit k = s.circuit k := by
    rw [circuit, if_neg h1, if_neg h2]
  have w := State.writes_unpaired (t := s.pairUp failed spare) hfok hsok hrack hp
    ((h.circuits spare hsok).unpaired (.inr (.inl hs))) others
  have idle {n : Nat} (hn : circuitOk n = true) (hc : ∀ m, (s.circuit n).pairing ≠ .confirmed m) : (s.circuit n).resend = false := by
    by_contra hr
    obtain ⟨-, m, hm⟩ := (h.circuits n hn).resend (by simpa using hr)
    exact hc m hm
  have joined : (s.pairUp failed spare).Joined failed spare := by
    refine ⟨hfok, hsok, hrack, by rw [cf]; rfl, by rw [cf]; exact hf, by rw [cf]; exact (h.circuits failed hfok).health.mpr hf,
      fun hr => ?_, by rw [cs, cf]; rfl, by rw [cs, cf]; rfl, ?_, ?_⟩
    · rw [cf] at hr
      rw [idle hfok (by rw [hp]; nofun)] at hr; cases hr
    · rw [cs]
      intro hh
      have := (h.circuits spare hsok).health.mp hh
      rw [hs] at this; cases this
    · rw [cs]
      exact idle hsok (by rw [(h.circuits spare hsok).unpaired (.inr (.inl hs))]; nofun)
  refine h.writePair w joined.sound.1 joined.sound.2 (h.spares_writePair w (by rw [cf]) (by rw [cs, hs]; rfl)) ?_ ?_
  · unfold State.pairUp at cf others ⊢
    dsimp only at cf others ⊢
    generalize hu : State.setCircuit _ spare _ = u at cf others ⊢
    have row (l : LinkId) (r : Nat) : u.row l r = s.row l r := by rw [← hu]; rfl
    simp only [State.circuit_placeOrder] at cf others
    refine State.orderSound_placeOrder (State.mem_owedOrders.mpr ⟨indexOf failed, indexOf_range failed, ?_⟩) fun w hw => ?_
    · unfold State.owedOrder
      rw [circuitAt_of hfok, cf, if_pos hf]
    · rw [row] at hw
      obtain ⟨hmem, hlt⟩ := (h.orders _ _ (rackOf_ok failed)).pending hw
      refine ⟨State.owedOrders_mono hmem fun i hi => ?_, hlt⟩
      by_cases e : circuitAt (linkOf failed) (rackOf failed) i = failed
      · rw [State.owedOrder_none (.inr (by rw [e, hp]))] at hi; cases hi
      by_cases e' : circuitAt (linkOf failed) (rackOf failed) i = spare
      · rw [State.owedOrder_none (.inl (by rw [e', hs]; nofun))] at hi; cases hi
      · rw [← hi]
        unfold State.owedOrder
        rw [others _ e e']
  · intro l r hne
    unfold State.pairUp
    dsimp only
    rw [State.row_placeOrder_other hne]
    rfl

/-- The automatic choice after a failure keeps the relations (R161 to R163). -/
theorem State.PairsSound.confirmFailure (h : s.PairsSound) {n : Nat} (hn : circuitOk n = true)
    (ho : (s.circuit n).role = .ordinary) : (s.confirmFailure n).PairsSound := by
  have hp := (h.circuits n hn).unpaired (.inl ho)
  have hfail := h.fail hn ho
  have self : (s.setCircuit n { s.circuit n with role := .failed, health := .failed }).circuit n =
      { s.circuit n with role := .failed, health := .failed } := by simp
  unfold State.confirmFailure
  dsimp only
  generalize s.setCircuit n { s.circuit n with role := .failed, health := .failed } = u at hfail self ⊢
  have marked : (u.setCircuit n { u.circuit n with dimmerFail := { (u.circuit n).dimmerFail with isNew := true } }).PairsSound := by
    refine hfail.same (fun k => ?_) fun _ _ => rfl
    rw [State.circuit_setCircuit]
    split
    · rename_i e; exact e ▸ ⟨rfl, rfl, rfl, .rfl⟩
    · exact .refl _
  split
  · unfold State.seekSpare
    split
    · rename_i spare hc
      split
      · have helig := List.find?_some hc
        simp only [Circuit.eligibleSpare, Bool.and_eq_true, beq_iff_eq] at helig
        obtain ⟨i, hi, rfl⟩ := List.mem_map.mp (List.mem_of_find?_eq_some hc)
        rw [List.mem_range'_1] at hi
        obtain ⟨hok, hlink, hrack, -⟩ := circuitAt_range (linkOf n) (rackOf_ok n) (i := i) (by omega)
        refine hfail.pairUp hn hok ?_ (by rw [self]) (by rw [self]; exact hp) helig.1
        rw [sameRack_iff, hlink, hrack]
        exact ⟨rfl, rfl⟩
      · exact marked
    · exact marked
  · exact hfail

/-! ### A pending order settled -/

/-- A pending order is taken away, and its circuit and the spare are written so that they fit: with the next order placed the relations
of the rig stand (R160, R167 to R169). -/
theorem State.PairsSound.settle (h : s.PairsSound) {n m : Nat} (w : s.WritesPair u n m) (sound : u.CircuitSound n ∧ u.CircuitSound m)
    (hn : (u.circuit n).role.isSpare = (s.circuit n).role.isSpare) (hm : (u.circuit m).role.isSpare = (s.circuit m).role.isSpare)
    (hrow : ∀ l r, (u.row l r).pendingOrder = if l = linkOf n ∧ r = rackOf n then none else (s.row l r).pendingOrder) :
    (u.placeNext (linkOf n) (rackOf n)).PairsSound := by
  have circuit (k : Nat) := u.circuit_placeNext (linkOf n) (rackOf n) k
  have w' : s.WritesPair (u.placeNext (linkOf n) (rackOf n)) n m :=
    { w with others := fun k h1 h2 => (circuit k).trans (w.others k h1 h2) }
  refine h.writePair w' (sound.1.congr circuit) (sound.2.congr circuit) (h.spares_writePair w' (by rw [circuit, hn]) (by rw [circuit, hm]))
    (State.orderSound_placeNext (by rw [hrow, if_pos ⟨rfl, rfl⟩])) fun l r hne => ?_
  rw [State.row_placeNext, if_neg fun e => hne ⟨e.1.symm, e.2.symm⟩, hrow, if_neg hne]

/-- The ends of the pairing a pending order serves. -/
theorem State.PairingOf.partner {k : OrderKind} {failed spare : Nat} (hp : s.PairingOf k failed spare) :
    (s.circuit failed).pairing.partner = some spare := by
  rcases hp.ends with ⟨-, e, -⟩ | ⟨-, e, -⟩ | ⟨-, e, -⟩ <;> rw [e] <;> rfl


/-- The two ends of a pairing are no spare and a spare. -/
theorem State.Joined.isSpare (h : s.Joined failed spare) :
    (s.circuit failed).role.isSpare = false ∧ (s.circuit spare).role.isSpare = true := by
  rw [h.role, h.spareRole]
  refine ⟨rfl, ?_⟩
  have hp := h.partner
  cases hpair : (s.circuit failed).pairing with
  | unpaired => rw [hpair] at hp; cases hp
  | _ => rfl

/-- The pairing at both ends written with one of another stage. -/
theorem State.Joined.rejoin (h : s.Joined failed spare) {p : Pairing} {b : Bool} (hp : p.partner = some spare)
    (hb : b = true → p = .confirmed spare) (cf : u.circuit failed = { s.circuit failed with pairing := p, resend := b })
    (cs : u.circuit spare = { s.circuit spare with role := p.spareRole, pairing := p.withPartner failed }) :
    u.Joined failed spare := by
  obtain ⟨hf, hs, hrack, -, hrole, hhealth, -, -, -, hshealth, hsresend⟩ := h
  constructor
  case failedOk => exact hf
  case spareOk => exact hs
  case rack => exact hrack
  all_goals simp only [cf, cs]
  case partner => exact hp
  case role => exact hrole
  case health => exact hhealth
  case resend => exact hb
  case spareHealth => exact hshealth
  case spareResend => exact hsresend

/-- The pairing taken away at both ends: the spare is free, the other circuit FAILED still or ORDINARY and sound. -/
theorem State.Joined.unjoin (h : s.Joined failed spare) (hc : (s.circuit failed).pairing ≠ .confirmed spare) {role : Role} {health : Health}
    (hrole : (role = .failed ∧ health = .failed) ∨ (role = .ordinary ∧ health = .ok))
    (cf : u.circuit failed = { s.circuit failed with role := role, health := health, pairing := .unpaired })
    (cs : u.circuit spare = { s.circuit spare with role := .spareFree, pairing := .unpaired }) :
    u.CircuitSound failed ∧ u.CircuitSound spare := by
  have hresend : (s.circuit failed).resend = false := by
    by_contra hr
    exact hc (h.resend (by simpa using hr))
  constructor <;> apply State.circuitSound_unpaired
  · rw [cf]
  · rw [cf]; rcases hrole with ⟨rfl, -⟩ | ⟨rfl, -⟩ <;> nofun
  · rw [cf]; rcases hrole with ⟨rfl, rfl⟩ | ⟨rfl, rfl⟩ <;> simp
  · rw [cf]; exact hresend
  · rw [cs]
  · rw [cs]; exact fun _ => rfl
  · rw [cs]; exact iff_of_false h.spareHealth nofun
  · rw [cs]; exact h.spareResend

/-- A pending order that leaves its pairing at another stage, settled. -/
theorem State.PairsSound.settle_rejoin (h : s.PairsSound) (hj : s.Joined failed spare) {p : Pairing} {b : Bool}
    (hp : p.partner = some spare) (hb : b = true → p = .confirmed spare)
    (circuit : ∀ n, u.circuit n = if n = failed then { s.circuit failed with pairing := p, resend := b }
      else if n = spare then { s.circuit spare with role := p.spareRole, pairing := p.withPartner failed } else s.circuit n)
    (hrow : ∀ l r, (u.row l r).pendingOrder = if l = linkOf failed ∧ r = rackOf failed then none else (s.row l r).pendingOrder) :
    (u.placeNext (linkOf failed) (rackOf failed)).PairsSound := by
  have cf := (circuit failed).trans (if_pos rfl)
  have cs := ((circuit spare).trans (if_neg (Ne.symm hj.ne))).trans (if_pos rfl)
  have joined := hj.rejoin hp hb cf cs
  exact h.settle (hj.writes fun k h1 h2 => by rw [circuit, if_neg h1, if_neg h2]) joined.sound
    (joined.isSpare.1.trans hj.isSpare.1.symm) (joined.isSpare.2.trans hj.isSpare.2.symm) hrow

/-- A pending order that ends its pairing, settled. -/
theorem State.PairsSound.settle_unjoin (h : s.PairsSound) (hj : s.Joined failed spare) (hc : (s.circuit failed).pairing ≠ .confirmed spare)
    {role : Role} {health : Health} (hrole : (role = .failed ∧ health = .failed) ∨ (role = .ordinary ∧ health = .ok))
    (circuit : ∀ n, u.circuit n = if n = failed then { s.circuit failed with role := role, health := health, pairing := .unpaired }
      else if n = spare then { s.circuit spare with role := .spareFree, pairing := .unpaired } else s.circuit n)
    (hrow : ∀ l r, (u.row l r).pendingOrder = if l = linkOf failed ∧ r = rackOf failed then none else (s.row l r).pendingOrder) :
    (u.placeNext (linkOf failed) (rackOf failed)).PairsSound := by
  have cf := (circuit failed).trans (if_pos rfl)
  have cs := ((circuit spare).trans (if_neg (Ne.symm hj.ne))).trans (if_pos rfl)
  refine h.settle (hj.writes fun k h1 h2 => by rw [circuit, if_neg h1, if_neg h2]) (hj.unjoin hc hrole cf cs) ?_ ?_ hrow
  · rw [cf, hj.isSpare.1]
    rcases hrole with ⟨rfl, -⟩ | ⟨rfl, -⟩ <;> rfl
  · rw [cs, hj.isSpare.2]; rfl

/-- A write of two circuits, read back. -/
theorem State.circuit_setPair (s : State) {n m : Nat} (hne : n ≠ m) (c : Circuit) (d : Circuit) (k : Nat) :
    ((s.setCircuit n c).setCircuit m d).circuit k = if k = n then c else if k = m then d else s.circuit k := by
  simp only [State.circuit_setCircuit, eq_comm (b := k)]
  by_cases h1 : k = n
  · subst h1; simp [hne]
  · simp [h1]

theorem State.circuit_ite (s : State) (n m : Nat) : (if n = m then s.circuit m else s.circuit n) = s.circuit n := by
  split
  · rename_i e; rw [e]
  · rfl

/-- The acknowledgement of a re-send clears the re-send mark (R177). -/
theorem State.circuit_ackResend {failed spare : Nat} (hp : (s.circuit failed).pairing = .confirmed spare) (n : Nat) :
    (s.ackTransfer failed spare).circuit n = if n = failed then { s.circuit failed with resend := false } else s.circuit n := by
  unfold State.ackTransfer
  simp only [hp, State.circuit_rewriteRecords, State.circuit_setCircuit, eq_comm (b := n)]

/-- A spare of a CONFIRMED or RESTORING pairing stands as that pairing asks. -/
theorem State.Joined.spare_eq (h : s.Joined failed spare) {p : Pairing} (hr : p.spareRole = (s.circuit failed).pairing.spareRole)
    (hp : p.withPartner failed = (s.circuit failed).pairing.withPartner failed) :
    { s.circuit spare with role := p.spareRole, pairing := p.withPartner failed } = s.circuit spare := by
  rw [hr, hp, ← h.spareRole, ← h.sparePairing]

theorem State.row_ackTransfer (s : State) (failed spare : Nat) (l : LinkId) (r : Nat) :
    (s.ackTransfer failed spare).row l r = s.row l r := by
  unfold State.ackTransfer
  dsimp only
  split <;> rfl

theorem State.row_ackUndo (s : State) (failed spare : Nat) (l : LinkId) (r : Nat) :
    (s.ackUndo failed spare).row l r = s.row l r := rfl

theorem State.row_revertPairing (s : State) (k : OrderKind) (failed spare : Nat) (l : LinkId) (r : Nat) :
    (s.revertPairing k failed spare).row l r = s.row l r := by
  unfold State.revertPairing
  split <;> rfl

/-- What a rack's acknowledgement of its pending order, and its abandonment, start from: the order taken away, its pairing standing. -/
structure State.Taken (s v : State) (l : LinkId) (r : Nat) (kind : OrderKind) (failed spare : Nat) : Prop where
  joined : s.Joined failed spare
  pairing : s.PairingOf kind failed spare
  link : linkOf failed = l
  rack : rackOf failed = r
  circuit : ∀ n, v.circuit n = s.circuit n
  row : ∀ l' r', (v.row l' r').pendingOrder = if l = l' ∧ r = r' then none else (s.row l' r').pendingOrder

theorem State.PairsSound.taken (h : s.PairsSound) {l : LinkId} {r : Nat} (hr : rackOk r = true) {o : Order}
    (hi : 1 ≤ o.circuitIndex ∧ o.circuitIndex ≤ 32)
    (hp : s.PairingOf o.kind (circuitAt l r o.circuitIndex) (circuitAt l r o.spareIndex)) {v : RackRow} (hv : v.pendingOrder = none) :
    s.Taken (s.setRow l r v) l r o.kind (circuitAt l r o.circuitIndex) (circuitAt l r o.spareIndex) := by
  obtain ⟨-, hlink, hrack, -⟩ := circuitAt_range l hr hi
  refine ⟨h.joined hp.failedOk hp.role hp.partner, hp, hlink, hrack, fun n => by simp [State.setRow], fun l' r' => ?_⟩
  rw [State.row_setRow]
  split
  · exact hv
  · rfl

section
variable {v : State} {l : LinkId} {r : Nat} {kind : OrderKind} {failed spare : Nat}

/-- The acknowledged order leaves the pairing CONFIRMED, or, as an UNDO, at an end. -/
theorem State.PairsSound.acknowledged (h : s.PairsSound) (w : s.Taken v l r kind failed spare) :
    ((match kind with
      | .transfer => v.ackTransfer failed spare
      | .undo => v.ackUndo failed spare).placeNext l r).PairsSound := by
  obtain ⟨hj, hp, hlink, hrack, hcircuit, hrow⟩ := w
  have hne := hp.ne
  subst hlink hrack
  rcases hp.ends with ⟨hk, hpair, -⟩ | ⟨hk, hpair, -⟩ | ⟨hk, hpair, -⟩ <;> subst hk
  · refine h.settle_rejoin hj (p := .confirmed spare) (b := (s.circuit failed).resend) rfl (fun _ => rfl) (fun n => ?_) fun l r => ?_
    · rw [State.circuit_ackTransfer hne ((congrArg _ (hcircuit failed)).trans hpair)]
      simp only [hcircuit]; rfl
    · rw [State.row_ackTransfer, hrow]
      simp only [eq_comm]
  · refine h.settle_rejoin hj (p := .confirmed spare) (b := false) rfl nofun (fun n => ?_) fun l r => ?_
    · rw [State.circuit_ackResend ((congrArg _ (hcircuit failed)).trans hpair), hj.spare_eq (by rw [hpair]) (by rw [hpair]),
        s.circuit_ite]
      simp only [hcircuit, hpair]
    · rw [State.row_ackTransfer, hrow]
      simp only [eq_comm]
  · refine h.settle_unjoin hj (by rw [hpair]; nofun) (.inr ⟨rfl, rfl⟩) (fun n => ?_) fun l r => ?_
    · rw [State.circuit_ackUndo hne]
      simp only [hcircuit]
    · rw [State.row_ackUndo, hrow]
      simp only [eq_comm]

/-- The abandoned order leaves the pairing CONFIRMED, or, as a first TRANSFER, at an end (R169). -/
theorem State.PairsSound.abandoned (h : s.PairsSound) (w : s.Taken v l r kind failed spare) :
    ((v.revertPairing kind failed spare).placeNext l r).PairsSound := by
  obtain ⟨hj, hp, hlink, hrack, hcircuit, hrow⟩ := w
  have hne := hp.ne
  subst hlink hrack
  have rows (l' : LinkId) (r' : Nat) : ((v.revertPairing kind failed spare).row l' r').pendingOrder =
      if l' = linkOf failed ∧ r' = rackOf failed then none else (s.row l' r').pendingOrder := by
    rw [State.row_revertPairing, hrow]
    simp only [eq_comm]
  rcases hp.ends with ⟨hk, hpair, -⟩ | ⟨hk, hpair, -⟩ | ⟨hk, hpair, -⟩ <;> subst hk
  · refine h.settle_unjoin hj (by rw [hpair]; nofun) (.inl ⟨rfl, rfl⟩) (fun n => ?_) rows
    simp only [State.revertPairing, hcircuit, hpair, State.circuit_setPair _ hne, State.circuit_setCircuit, if_neg hne, hj.role,
      hj.health]
  · refine h.settle_rejoin hj (p := .confirmed spare) (b := false) rfl nofun (fun n => ?_) rows
    rw [hj.spare_eq (by rw [hpair]) (by rw [hpair]), s.circuit_ite]
    simp only [State.revertPairing, hcircuit, hpair, State.circuit_setCircuit, eq_comm (b := n)]
  · refine h.settle_rejoin hj (p := .confirmed spare) (b := (s.circuit failed).resend) rfl (fun _ => rfl) (fun n => ?_) rows
    have hrole : (s.circuit spare).role = .spareInUse := by rw [hj.spareRole, hpair]; rfl
    simp only [State.revertPairing, hcircuit, State.circuit_setPair _ hne, State.circuit_setCircuit, if_neg hne, hrole]
    rfl

end

/-! ### A RESTORE -/

/-- The UNDO of a RESTORE is placed, or it waits behind another circuit's order or an UNDO (R172). -/
theorem State.oweUndo_cases (s : State) (l : LinkId) (r : Nat) (o : Order) :
    s.oweUndo l r o = s.setPending l r (some ⟨o, 0⟩) ∨
    ∃ w, (s.row l r).pendingOrder = some w ∧ ¬ (w.order.kind = .transfer ∧ w.order.circuitIndex = o.circuitIndex) ∧
      s.oweUndo l r o = s := by
  unfold State.oweUndo
  split
  · rename_i w _
    by_cases hw : w.order.kind = .transfer ∧ w.order.circuitIndex = o.circuitIndex
    · exact .inl (if_pos hw)
    · exact .inr ⟨w, ‹_›, hw, if_neg hw⟩
  · exact .inl rfl

/-- The order a CONFIRMED circuit owes is the re-send of its TRANSFER (R159). -/
theorem State.owedOrder_confirmed {l : LinkId} {r i m : Nat} {o : Order} (h : s.owedOrder l r i = some o)
    (hp : (s.circuit (circuitAt l r i)).pairing = .confirmed m) : o.kind = .transfer := by
  unfold State.owedOrder at h
  simp only [hp] at h
  repeat' split at h
  all_goals cases h <;> rfl

/-- A RESTORE turns a CONFIRMED pairing RESTORING at both ends; its UNDO takes the place of the re-send, or is placed, or waits (R172). -/
theorem State.PairsSound.restore (h : s.PairsSound) {failed spare : Nat} (hok : circuitOk failed = true)
    (hf : (s.circuit failed).role = .failed) (hpair : (s.circuit failed).pairing = .confirmed spare)
    (circuit : ∀ n, u.circuit n = if n = failed then { s.circuit failed with pairing := .restoring spare, resend := false }
      else if n = spare then { s.circuit spare with pairing := .restoring failed } else s.circuit n)
    (hrow : ∀ l r, u.row l r = s.row l r) :
    (u.oweUndo (linkOf failed) (rackOf failed) ⟨.undo, indexOf failed, indexOf spare⟩).PairsSound := by
  generalize ht : u.oweUndo (linkOf failed) (rackOf failed) ⟨.undo, indexOf failed, indexOf spare⟩ = t
  have hj := h.joined hok hf (by rw [hpair]; rfl)
  have hrole : (s.circuit spare).role = .spareInUse := by rw [hj.spareRole, hpair]; rfl
  have tcircuit (n : Nat) : t.circuit n = u.circuit n := by rw [← ht]; exact State.circuit_congr (u.oweUndo_patch ..).2 n
  have cf := (tcircuit failed).trans ((circuit failed).trans (if_pos rfl))
  have cs := (tcircuit spare).trans (((circuit spare).trans (if_neg (Ne.symm hj.ne))).trans (if_pos rfl))
  have others (k : Nat) (h1 : k ≠ failed) (h2 : k ≠ spare) : t.circuit k = s.circuit k := by
    rw [tcircuit, circuit, if_neg h1, if_neg h2]
  have joined : t.Joined failed spare := hj.rejoin (p := .restoring spare) (b := false) rfl nofun cf (by rw [cs]; simp only [hrole]; rfl)
  have w := hj.writes others
  have howed : t.owedOrder (linkOf failed) (rackOf failed) (indexOf failed) = some ⟨.undo, indexOf failed, indexOf spare⟩ := by
    unfold State.owedOrder
    rw [circuitAt_of hok, joined.role, if_pos rfl, cf]
  refine h.writePair w joined.sound.1 joined.sound.2 (h.spares_writePair w (joined.isSpare.1.trans hj.isSpare.1.symm)
    (joined.isSpare.2.trans hj.isSpare.2.symm)) ?_ fun l r hne => ?_
  · unfold State.OrderSound
    rcases u.oweUndo_cases (linkOf failed) (rackOf failed) ⟨.undo, indexOf failed, indexOf spare⟩ with e | ⟨x, hx, hkind, e⟩
    · have hrow' : (t.row (linkOf failed) (rackOf failed)).pendingOrder = some ⟨⟨.undo, indexOf failed, indexOf spare⟩, 0⟩ := by
        rw [← ht, e, State.row_setPending, if_pos ⟨rfl, rfl⟩]
      rw [hrow']
      exact ⟨State.mem_owedOrders.mpr ⟨_, indexOf_range failed, howed⟩, (by decide : 0 < Config.unackLimit)⟩
    · rw [← ht, e, hx, ← e, ht]
      obtain ⟨hmem, hlt⟩ := (h.orders _ _ (rackOf_ok failed)).pending ((congrArg _ (hrow ..)).symm.trans hx)
      obtain ⟨i, hi, ho⟩ := State.mem_owedOrders.mp hmem
      refine ⟨State.mem_owedOrders.mpr ⟨i, hi, ?_⟩, hlt⟩
      by_cases e1 : circuitAt (linkOf failed) (rackOf failed) i = failed
      · obtain ⟨-, -, hindex⟩ := (circuitAt_eq_iff (rackOf_ok failed) hi hok).mp e1
        exact absurd ⟨State.owedOrder_confirmed ho (by rw [e1, hpair]), (State.owedOrder_index ho).trans hindex.symm⟩ hkind
      by_cases e2 : circuitAt (linkOf failed) (rackOf failed) i = spare
      · rw [State.owedOrder_none (.inl (by rw [e2, hrole]; nofun))] at ho; cases ho
      · rw [← ho]
        unfold State.owedOrder
        rw [others _ e1 e2]
  · rcases u.oweUndo_cases (linkOf failed) (rackOf failed) ⟨.undo, indexOf failed, indexOf spare⟩ with e | ⟨-, -, -, e⟩ <;>
      rw [← ht, e]
    · rw [State.row_setPending, if_neg fun e => hne ⟨e.1.symm, e.2.symm⟩, hrow]
    · rw [hrow]

end

end Sys2Proof.Machine
end

section
/-! The relations of roles, pairings, health and orders, and the poll orders, are kept by every step (O9). -/

namespace Sys2Proof.Machine

section
variable {s t u : State}

/-! ### A change of role by CIRCUIT-SET -/

/-- The changes of role R38 allows. -/
def State.RoleAllowed (s : State) (n : Nat) (role : Role) : Prop :=
  ((s.circuit n).role = .ordinary ∧ (role = .spareFree ∨ role = .retired) ∧ s.named n = false) ∨
  ((s.circuit n).role = .spareFree ∧ (role = .ordinary ∨ role = .retired)) ∨
  ((s.circuit n).role = .retired ∧ (role = .ordinary ∨ role = .spareFree)) ∨
  ((s.circuit n).role = .failed ∧ (s.circuit n).pairing = .unpaired ∧
    (role = .ordinary ∨ ((role = .spareFree ∨ role = .retired) ∧ s.named n = false)))

theorem State.roleChangeAllowed_iff {n : Nat} {role : Role} : s.roleChangeAllowed n role = true ↔ s.RoleAllowed n role := by
  constructor
  · intro h
    unfold State.roleChangeAllowed at h
    unfold State.RoleAllowed
    split at h <;> simp_all
  · rintro (⟨h, rfl | rfl, hn⟩ | ⟨h, rfl | rfl⟩ | ⟨h, rfl | rfl⟩ | ⟨h, hp, rfl | ⟨rfl | rfl, hn⟩⟩) <;>
      simp [State.roleChangeAllowed, *]

/-- An allowed change is to a role that asks for pairing NONE, of another circuit than a spare that is free or its like. -/
theorem State.RoleAllowed.new {n : Nat} {role : Role} (h : s.RoleAllowed n role) :
    (role = .ordinary ∨ role = .spareFree ∨ role = .retired) ∧
      ((s.circuit n).role = .ordinary ∨ (s.circuit n).role = .spareFree ∨ (s.circuit n).role = .retired ∨
        (s.circuit n).pairing = .unpaired) := by
  rcases h with ⟨h, hn, -⟩ | ⟨h, hn⟩ | ⟨h, hn⟩ | ⟨-, h, hn | ⟨hn, -⟩⟩ <;> simp only [h] <;> tauto

/-- What R37 and R38 refuse of a selected role. -/
theorem State.roleRefusal_eq (s : State) (n : Nat) (role : Role) [Decidable (s.RoleAllowed n role)] : s.roleRefusal n role =
    if role = (s.circuit n).role then none
    else if ¬ s.RoleAllowed n role then some .conflict
    else if role = .spareFree ∧ Config.rackSpares < s.otherSpares n + 1 then some .full else none := by
  unfold State.roleRefusal
  simp only [← State.roleChangeAllowed_iff, Bool.not_eq_true']
  simp

/-- The spares of a circuit's rack are the others and itself. -/
theorem State.rackSpares_eq (s : State) {n : Nat} (hn : circuitOk n = true) :
    s.rackSpares (linkOf n) (rackOf n) = s.otherSpares n + if (s.circuit n).role.isSpare then 1 else 0 := by
  have self : (List.range' 1 32).filter (fun i => decide (circuitAt (linkOf n) (rackOf n) i = n)) = [indexOf n] := by
    have hmem : indexOf n ∈ List.range' 1 32 := by have := indexOf_range n; rw [List.mem_range'_1]; omega
    rw [List.filter_congr (q := fun i => i == indexOf n) fun i hi => ?_, List.filter_beq,
      List.count_eq_one_of_mem (List.nodup_range' ..) hmem]
    · rfl
    · rw [List.mem_range'_1] at hi
      have := circuitAt_eq_iff (l := linkOf n) (rackOf_ok n) (i := i) (by omega) hn
      rw [Bool.eq_iff_iff, decide_eq_true_iff, this, beq_iff_eq]
      simp only [true_and, eq_comm]
  unfold State.rackSpares State.otherSpares
  rw [List.countP_eq_countP_filter_add _ _ (fun i => decide (circuitAt (linkOf n) (rackOf n) i = n)), self, add_comm]
  congr 1
  · rw [List.countP_filter]
    refine List.countP_congr fun i _ => ?_
    simp [and_comm]
  · simp [circuitAt_of hn, List.countP_cons]

theorem State.otherSpares_setCircuit (s : State) (n : Nat) (v : Circuit) : (s.setCircuit n v).otherSpares n = s.otherSpares n := by
  unfold State.otherSpares
  refine List.countP_congr fun i _ => ?_
  rw [State.circuit_setCircuit]
  split
  · rename_i e; simp [← e]
  · rfl

/-- A CIRCUIT-SET keeps the relations of roles and pairings (R37, R38). -/
theorem State.PairsSound.circuitSet (h : s.PairsSound) {n : Nat} {role : Role} (x : CircuitSelection) (hn : circuitOk n = true)
    (hr : s.roleRefusal n role = none) :
    (s.setCircuit n (((s.circuit n).applyRole role).applySettings x)).PairsSound := by
  classical
  rw [State.roleRefusal_eq] at hr
  by_cases hsame : role = (s.circuit n).role
  · refine h.same (fun k => ?_) fun _ _ => rfl
    rw [State.circuit_setCircuit, Circuit.applyRole, if_pos hsame]
    split
    · rename_i e; exact e ▸ ⟨rfl, rfl, rfl, .rfl⟩
    · exact .refl _
  rw [if_neg hsame] at hr
  by_cases hallowed : s.RoleAllowed n role
  case neg => rw [if_pos hallowed] at hr; cases hr
  rw [if_neg (not_not.mpr hallowed)] at hr
  have hroom : ¬ (role = .spareFree ∧ Config.rackSpares < s.otherSpares n + 1) := fun e => by rw [if_pos e] at hr; cases hr
  obtain ⟨hnew, hold⟩ := hallowed.new
  have hp : (s.circuit n).pairing = .unpaired := by
    rcases hold with ho | ho | ho | ho
    · exact (h.circuits n hn).unpaired (.inl ho)
    · exact (h.circuits n hn).unpaired (.inr (.inl ho))
    · exact (h.circuits n hn).unpaired (.inr (.inr ho))
    · exact ho
  have hv : (s.circuit n).applyRole role = { s.circuit n with role := role, health := .ok } := if_neg hsame
  rw [hv]
  refine h.writeUnpaired hn hp hp (fun hs => ?_) ?_ rfl ?_
  · rcases hnew with rfl | rfl | rfl
    · cases hs
    · rfl
    · cases hs
  · refine iff_of_false nofun fun (hf : role = .failed) => ?_
    rcases hnew with rfl | rfl | rfl <;> cases hf
  · have hspares := h.spares (linkOf n) (rackOf n) (rackOf_ok n)
    rw [State.rackSpares_eq s hn] at hspares
    rw [State.rackSpares_eq _ hn, State.otherSpares_setCircuit, State.circuit_setCircuit, if_pos rfl]
    show _ + (if role.isSpare then 1 else 0) ≤ _
    rcases hnew with rfl | rfl | rfl
    · exact (Nat.le_add_right ..).trans hspares
    · exact not_lt.mp fun hlt => hroom ⟨rfl, hlt⟩
    · exact (Nat.le_add_right ..).trans hspares

/-! ### Circuit requests -/

theorem Circuit.clearFaults_pairing (c : Circuit) : c.SamePairing c.clearFaults := ⟨rfl, rfl, rfl, .rfl⟩
theorem Circuit.ackMarks_pairing (c : Circuit) : c.SamePairing c.ackMarks := ⟨rfl, rfl, rfl, .rfl⟩

theorem State.row_acknowledgeAll (s : State) (l : LinkId) (r : Nat) : s.acknowledgeAll.row l r = (s.row l r).ackNotices := by
  rw [State.row, State.link_acknowledgeAll, Link.row_ackNotices]; rfl

/-- A circuit edit keeps the relations of roles, pairings and orders. -/
theorem State.PairsSound.circuitEdit (h : s.PairsSound) (e : s.CircuitEdit t) : t.PairsSound := by
  cases e with
  | set x hn hr => exact h.circuitSet x hn hr
  | clearFaults n =>
    refine h.same (fun k => ?_) fun _ _ => rfl
    rw [State.circuit_setCircuit]
    split
    · rename_i e; exact e ▸ Circuit.clearFaults_pairing _
    · exact .refl _
  | clearAll =>
    refine h.same (fun k => ?_) fun _ _ => rfl
    rw [s.circuit_mapCircuits rfl]
    exact Circuit.clearFaults_pairing _
  | acknowledge =>
    refine h.same (fun k => ?_) fun l r => ?_
    · rw [State.circuit_acknowledgeAll]
      exact Circuit.ackMarks_pairing _
    · rw [State.row_acknowledgeAll]; rfl
  | @reassign ck sp u hck hsp free same hu =>
    rcases hu with ⟨ho, rfl⟩ | ⟨hf, hp, rfl⟩
    · have hne : ck ≠ sp := by rintro rfl; rw [ho] at free; cases free
      exact (h.fail hck ho).pairUp hck hsp same (by simp) (by simpa using (h.circuits ck hck).unpaired (.inl ho))
        (by simpa [hne] using free)
    · exact h.pairUp hck hsp same hf hp free
  | @restore ck sp u hck hf hp hu =>
    subst hu
    have hne := (h.joined hck hf (by rw [hp]; rfl)).ne
    refine h.restore hck hf hp (fun n => ?_) fun _ _ => rfl
    rw [State.circuit_setPair _ hne, State.circuit_setCircuit, if_neg hne]

/-! ### Replies -/

/-- The relations of the rig stand where those of the circuits do and the poll orders are as they were. -/
theorem State.RigOk.ofPairs (h : s.RigOk) (hk : s.KeepsConfig t) (ht : t.PairsSound) : t.RigOk :=
  State.rigOk_iff.mpr ⟨ht, fun l => ((State.rigOk_iff.mp h).2 l).same (hk.polls l)⟩

theorem State.RigOk.pairs (h : s.RigOk) : s.PairsSound := (State.rigOk_iff.mp h).1

/-- Circuits and pending orders as they were. -/
theorem State.PairsSound.ofRows (h : s.PairsSound) (hc : ∀ n, t.circuit n = s.circuit n)
    (hp : ∀ l r, (t.row l r).pendingOrder = (s.row l r).pendingOrder) : t.PairsSound :=
  h.same (fun n => hc n ▸ .refl _) hp

theorem State.PairsSound.setRow (h : s.PairsSound) {l : LinkId} {r : Nat} {v : RackRow}
    (hv : v.pendingOrder = (s.row l r).pendingOrder) : (s.setRow l r v).PairsSound := by
  refine h.ofRows (fun n => by simp [State.setRow]) fun l' r' => ?_
  rw [State.row_setRow]
  split
  · rename_i e; rw [hv, e.1, e.2]
  · rfl

/-- Where an order stays pending, another count below the limit keeps the relations (R149). -/
theorem State.PairsSound.recount (h : s.PairsSound) {l : LinkId} {r : Nat} {w : PendingOrder} (hr : rackOk r = true)
    (hw : (s.row l r).pendingOrder = some w) {n : Nat} (hn : n < Config.unackLimit) :
    (s.setPending l r (some { w with unacknowledged := n })).PairsSound := by
  have circuit (k : Nat) := s.circuit_setPending l r k (some { w with unacknowledged := n })
  refine ⟨fun k hk => (h.circuits k hk).congr circuit, fun l' r' hr' => ?_, fun l' r' hr' => ?_⟩
  · rw [State.rackSpares_congr (s := s) fun k => by rw [circuit]]
    exact h.spares l' r' hr'
  · unfold State.OrderSound
    rw [State.owedOrders_congr circuit, State.row_setPending]
    by_cases e : l = l' ∧ r = r'
    · obtain ⟨rfl, rfl⟩ := e
      rw [if_pos ⟨rfl, rfl⟩]
      exact ⟨((h.orders l r hr).pending hw).1, hn⟩
    · rw [if_neg e]
      exact h.orders l' r' hr'

/-- The third stage of a READY reply (R149). -/
theorem State.RigOk.takeAck (h : s.RigOk) {l : LinkId} {r : Nat} (hr : rackOk r = true) (c a : Option Order) :
    (s.takeAck l r c a).1.PairsSound := by
  unfold State.takeAck
  split
  · exact h.pairs
  · rename_i w hw
    have hp := h.pairingOf hr hw
    obtain ⟨i, hi, ho⟩ := State.mem_owedOrders.mp ((h.pairs.orders l r hr).pending hw).1
    have hi : 1 ≤ w.order.circuitIndex ∧ w.order.circuitIndex ≤ 32 := State.owedOrder_index ho ▸ hi
    split
    · split
      · exact h.pairs.acknowledged (h.pairs.taken hr hi hp (v := { s.row l r with pendingOrder := none }) rfl)
      · split
        · exact h.pairs.recount hr hw ‹_›
        · exact h.pairs.abandoned (h.pairs.taken hr hi hp (v := { s.row l r with pendingOrder := none, abandonedNotice := true }) rfl)
    · exact h.pairs

theorem Circuit.report_pairing (c : Circuit) (k : ReportKind) : c.SamePairing (c.report k) := by
  unfold Circuit.report
  split
  · cases k <;> exact ⟨rfl, rfl, rfl, .rfl⟩
  · exact .refl c

/-- A circuit written with its role, its pairing and its re-send mark. -/
theorem State.PairsSound.setCircuit (h : s.PairsSound) (n : Nat) {v : Circuit} (hv : (s.circuit n).SamePairing v) :
    (s.setCircuit n v).PairsSound := by
  refine h.same (fun k => ?_) fun _ _ => rfl
  rw [State.circuit_setCircuit]
  split
  · rename_i e; exact e ▸ hv
  · exact .refl _

theorem State.PairsSound.takeHealth {x : State × Bool} (h : x.1.PairsSound) {l : LinkId} {r : Nat} (hr : rackOk r = true)
    (ps : List Report) {i : Nat} (hi : 1 ≤ i ∧ i ≤ 32) : (takeHealth l r ps x i).1.PairsSound := by
  unfold Machine.takeHealth
  dsimp only
  split
  · split
    · rename_i hh _
      exact h.setCircuit _ ⟨rfl, rfl, rfl, by simp [hh]⟩
    · exact h.confirmFailure (circuitAt_range l hr hi).1 ‹_›
    · rename_i hh _
      exact h.setCircuit _ ⟨rfl, rfl, rfl, by simp [hh]⟩
    · exact h
  · exact h

/-- A fold keeps the relations when every step on a listed element does. -/
theorem State.PairsSound.foldl {α β : Type} {f : State × β → α → State × β} (xs : List α)
    (hf : ∀ (x : State × β), ∀ a ∈ xs, x.1.PairsSound → (f x a).1.PairsSound) {x : State × β} (h : x.1.PairsSound) :
    (xs.foldl f x).1.PairsSound := by
  induction xs generalizing x with
  | nil => exact h
  | cons a xs ih => exact ih (fun y b hb => hf y b (List.mem_cons_of_mem _ hb)) (hf x a List.mem_cons_self h)

theorem State.RigOk.takeReady (h : s.RigOk) {l : LinkId} {r : Nat} (hr : rackOk r = true) (c : Option Order) (y : ReplyFrame) :
    (s.takeReady l r c y).RigOk := by
  refine h.ofPairs ((State.KeepsConfig.refl s).takeReady l r c y) ?_
  unfold State.takeReady
  dsimp only
  have h1 : (s.setRow l r { (s.row l r).readyReply with thermal := y.thermal }).RigOk :=
    h.ofPairs ((State.KeepsConfig.refl s).setRow l r rfl) (h.pairs.setRow rfl)
  have h2 := h1.takeAck (l := l) hr c y.ack
  have h3 := State.PairsSound.foldl (f := Machine.takeReport l r) y.reports
    (fun x p _ hx => hx.setCircuit _ (Circuit.report_pairing _ p.kind)) (x := (_, false)) h2
  refine (State.PairsSound.foldl (f := Machine.takeHealth l r y.reports) (List.range' 1 32)
    (fun x i hi hx => hx.takeHealth hr y.reports ?_) (x := (_, false)) h3).setRow rfl
  rw [List.mem_range'_1] at hi
  omega

/-! ### Link events -/

theorem State.PairsSound.setLink (h : s.PairsSound) {l : LinkId} {k : Link}
    (hk : ∀ r, (k.row r).pendingOrder = (s.row l r).pendingOrder) : (s.setLink l k).PairsSound := by
  refine h.ofRows (fun n => by simp) fun l' r => ?_
  rw [State.row, State.link_setLink]
  split
  · rename_i e; exact e ▸ hk r
  · rfl

/-- A link written with its pending orders, its poll order and what it polls fitting. -/
theorem State.RigOk.setLink (h : s.RigOk) {l : LinkId} {k : Link} (hk : k.PollSound)
    (hp : ∀ r, (k.row r).pendingOrder = (s.row l r).pendingOrder) : (s.setLink l k).RigOk := by
  refine State.rigOk_iff.mpr ⟨h.pairs.setLink hp, fun l' => ?_⟩
  rw [State.link_setLink]
  split
  · exact hk
  · exact (State.rigOk_iff.mp h).2 l'

theorem State.RigOk.closeWindow (h : s.RigOk) (l : LinkId) : (s.closeWindow l).RigOk :=
  h.ofPairs ((State.KeepsConfig.refl s).closeWindow l) (h.pairs.setLink fun _ => rfl)

theorem State.row_closeWindow (s : State) (l l' : LinkId) (r : Nat) : (s.closeWindow l).row l' r = s.row l' r := by
  unfold State.closeWindow
  rw [State.row, State.link_setLink]
  split
  · rename_i e; subst e; rfl
  · rfl

theorem State.RigOk.windowSilent (h : s.RigOk) (l : LinkId) : (s.windowSilent l).RigOk := by
  refine h.ofPairs ((State.KeepsConfig.refl s).windowSilent l) ?_
  unfold State.windowSilent
  split
  · exact h.pairs
  · refine (h.closeWindow l).pairs.setRow ?_
    rw [State.row_closeWindow, (RackRow.silentPoll_kept _).2]

theorem State.RigOk.framed (h : s.RigOk) (l : LinkId) : (s.framed l).RigOk := by
  have hw := h.windowSilent l
  have hpoll := ((State.rigOk_iff.mp hw).2 l).same (k' := { (s.windowSilent l).link l with
    levelOut := levelFrame ((s.windowSilent l).linkSlots l) }) ⟨rfl, rfl, rfl, .inl rfl, fun _ => rfl⟩
  refine hw.setLink hpoll.poll fun r => ?_
  unfold Link.poll
  split <;> rfl

theorem State.RigOk.replyArrival (h : s.RigOk) {l : LinkId} {bytes : List Byte} (hx : exec (.replyArrival l bytes) s = .next t) :
    t.RigOk := by
  rcases exec_replyArrival_cases hx with e | e | ⟨r, hw, ⟨y, e⟩ | e⟩
  · exact e ▸ h
  · exact e ▸ h.windowSilent l
  · exact e ▸ (h.closeWindow l).takeReady (h.window_rack hw) _ y
  · refine h.ofPairs (.replyArrival hx) (e ▸ (h.closeWindow l).pairs.setRow ?_)
    rw [State.row_closeWindow, (RackRow.waitReply_kept _).2]

/-! ### Requests and power-on -/

/-- All a RACK-SET can do: nothing, or the link's rack is made present that was not, or the reverse (R154). -/
theorem rackSet_cases (ps : List Byte) (s : State) : (rackSet ps s).1 = s ∨
    ∃ l r k, rackOk r = true ∧ (rackSet ps s).1 = s.setLink l k ∧
      (k = s.link l ∨ (k = (s.link l).addRack r ∧ (s.row l r).present = false) ∨ k = (s.link l).dropRack r) := by
  unfold rackSet
  split
  · split
    · exact .inl rfl
    · rename_i ln r v _ l _
      split
      · exact .inl rfl
      · rename_i hr
        simp only [Bool.not_eq_true', Bool.not_eq_false, Bool.and_eq_true] at hr
        split
        · exact .inl rfl
        · split
          · exact .inl rfl
          · refine .inr ⟨l, r.toNat, _, hr.1, rfl, ?_⟩
            split
            · exact .inl rfl
            · rename_i hpresent
              split
              · rename_i hv
                refine .inr (.inl ⟨rfl, ?_⟩)
                subst hv
                simpa using hpresent
              · exact .inr (.inr rfl)
  · exact .inl rfl

theorem Link.pending_setRow (k : Link) (r : Nat) {v : RackRow} (hv : v.pendingOrder = (k.row r).pendingOrder) (r' : Nat) :
    ((k.setRow r v).row r').pendingOrder = (k.row r').pendingOrder := by
  rw [Link.row_setRow]
  split
  · rename_i e; rw [hv, e]
  · rfl

theorem State.RigOk.rackSet (h : s.RigOk) (ps : List Byte) : (rackSet ps s).1.RigOk := by
  have hpolls := (State.rigOk_iff.mp h).2
  rcases rackSet_cases ps s with e | ⟨l, r, k, hr, e, rfl | ⟨rfl, ha⟩ | rfl⟩ <;> rw [e]
  · exact h
  · exact h.setLink (hpolls l) fun _ => rfl
  · exact h.setLink ((hpolls l).addRack hr ha) ((s.link l).pending_setRow r (v := ((s.link l).row r).configured true) rfl)
  · exact h.setLink ((hpolls l).dropRack r) ((s.link l).pending_setRow r (v := ((s.link l).row r).configured false) rfl)

/-- A circuit edit leaves the poll orders. -/
theorem State.CircuitEdit.samePolls (e : s.CircuitEdit t) (l : LinkId) : (s.link l).SamePolls (t.link l) := by
  cases e with
  | set | clearFaults | clearAll => exact .refl _
  | acknowledge => exact (State.KeepsConfig.acknowledgeAll s).polls l
  | @reassign ck sp u _ _ _ _ hu =>
    have hs := State.KeepsConfig.refl s
    rcases hu with ⟨-, e⟩ | ⟨-, -, e⟩ <;> rw [e]
    · exact ((hs.setCircuit ck (v := { s.circuit ck with role := .failed, health := .failed }) rfl).pairUp ck sp).polls l
    · exact (hs.pairUp ck sp).polls l
  | @restore ck sp u _ _ _ hu =>
    rw [hu]
    exact ((((State.KeepsConfig.refl s).setCircuit ck (by rfl)).setCircuit sp (by rfl)).oweUndo ..).polls l

/-- RIG-SET, RIG-LOCK and RIG-UNLOCK write the rig settings alone, and CURVE-LOAD the curves. -/
theorem rigSet_frame (ps : List Byte) (s : State) : (rigSet ps s).1 = { s with rig := (rigSet ps s).1.rig } := by
  unfold rigSet
  repeat' split
  all_goals rfl

theorem setRigLock_frame (on : Bool) (ps : List Byte) (s : State) :
    (setRigLock on ps s).1 = { s with rig := (setRigLock on ps s).1.rig } := by
  unfold setRigLock
  split <;> rfl

theorem curveLoad_frame (ps : List Byte) (s : State) : (curveLoad ps s).1 = { s with curves := (curveLoad ps s).1.curves } := by
  unfold curveLoad
  repeat' split
  all_goals rfl

/-- What a request performs keeps the relations of the rig. -/
theorem State.RigOk.perform (h : s.RigOk) (code : ReqCode) (ps : List Byte) : (code.perform ps s).1.RigOk := by
  have circuit {f : List Byte → State → State × Reply} (hf : Grants f State.CircuitEdit) : (f ps s).1.RigOk := by
    rcases hf ps s with e | ⟨-, e⟩
    · rw [e]; exact h
    · exact State.rigOk_iff.mpr ⟨h.pairs.circuitEdit e, fun l => ((State.rigOk_iff.mp h).2 l).same (e.samePolls l)⟩
  by_cases hw : code.writesRig = true
  case neg =>
    have same := perform_sameRig (Bool.not_eq_true _ ▸ hw) ps s
    exact h.congr same.circuits same.links
  cases code <;> cases hw
  case circuitSet.refl => exact circuit circuitSet_grants
  case faultClear.refl => exact circuit faultClear_grants
  case statusAck.refl => exact circuit statusAck_grants
  case reassign.refl => exact circuit reassign_grants
  case restore.refl => exact circuit restore_grants
  case rackSet.refl => exact h.rackSet ps
  case rigSet.refl => exact h.congr (by rw [ReqCode.perform, rigSet_frame]) (by rw [ReqCode.perform, rigSet_frame])
  case rigLock.refl => exact h.congr (by rw [ReqCode.perform, setRigLock_frame]) (by rw [ReqCode.perform, setRigLock_frame])
  case rigUnlock.refl => exact h.congr (by rw [ReqCode.perform, setRigLock_frame]) (by rw [ReqCode.perform, setRigLock_frame])
  case curveLoad.refl => exact h.congr (by rw [ReqCode.perform, curveLoad_frame]) (by rw [ReqCode.perform, curveLoad_frame])

/-- Power-on with retention keeps roles and pairings, marks the CONFIRMED circuits, and places on every rack what it owes (R48, R138,
R176). -/
theorem State.RigOk.powerOn (h : s.RigOk) {x y : Bool} (hx : exec (.powerOn x y) s = .next t) : t.RigOk := by
  rcases exec_powerOn_cases hx with ⟨-, e⟩ | ⟨-, e⟩
  · exact State.reset_rigOk.congr (by rw [e]; rfl) (by rw [e]; rfl)
  · replace e : t = s.powerOnRetained.placeEvery := e
    have circuit (n : Nat) : t.circuit n = (s.circuit n).powerOn := by
      rw [e, State.circuit_congr s.powerOnRetained.placeEvery_patch.2, State.powerOnRetained_circuit]
    have polls (l : LinkId) : (s.link l).powerOn.SamePolls (t.link l) := by
      rw [e, ← State.powerOnRetained_link]
      exact (State.KeepsConfig.refl s.powerOnRetained).placeEvery.polls l
    refine State.rigOk_iff.mpr ⟨⟨fun n hn => ?_, fun l r hr => ?_, fun l r hr => ?_⟩, fun l => (Link.PollSound.powerOn _).same (polls l)⟩
    · obtain ⟨hunpaired, hfailed, hspare, hhealth, -⟩ := h.pairs.circuits n hn
      constructor <;> simp only [circuit]
      · exact hunpaired
      · exact hfailed
      · exact hspare
      · exact hhealth
      · exact (Circuit.powerOn_resend _).mp
    · rw [State.rackSpares_congr (s := s) fun k => by rw [circuit]; rfl]
      exact h.pairs.spares l r hr
    · have owed : t.owedOrders l r = s.powerOnRetained.owedOrders l r := by
        rw [e]; exact State.owedOrders_congr (State.circuit_congr s.powerOnRetained.placeEvery_patch.2) l r
      have row : (t.row l r).pendingOrder = (t.owedOrders l r).head?.map fun o => ⟨o, 0⟩ := by
        rw [owed, e, State.row_placeEvery _ l hr, State.placed, State.powerOnRetained_row]
        rfl
      unfold State.OrderSound
      rw [row]
      cases t.owedOrders l r with
      | nil => rfl
      | cons o rest => exact ⟨List.mem_cons_self, (by decide : 0 < Config.unackLimit)⟩

/-! ### Commands -/

/-- Every command keeps the relations of the rig. -/
theorem State.RigOk.exec (h : s.RigOk) {c : Instr} (hx : exec c s = .next t) : t.RigOk := by
  cases exec_rigEvent hx with
  | same hst => exact h.congr hst.circuits hst.links
  | @request code ps u _ hu hst => exact ((h.congr hu.circuits hu.links).perform code ps).congr hst.circuits hst.links
  | power hc => subst hc; exact h.powerOn hx
  | @frameDue l e => exact e ▸ h.framed l
  | @pollEnd l r hp e => exact e ▸ h.setLink (((State.rigOk_iff.mp h).2 l).pollEnd hp) fun _ => rfl
  | @expiry l e => exact e ▸ h.windowSilent l
  | reply hc => subst hc; exact h.replyArrival hx

end

/-- Settles O9: each change of a circuit comes with the fitting one of its partner and of its rack's order, and each of a poll order with
the present field. -/
theorem pairings_and_orders_kept : Obligations.Pairings_and_orders_kept := by
  intro s t _ h _ hx
  rcases step_cases hx with rfl | ⟨c, rest, -, hx⟩
  · exact h
  · exact (h.congr (t := { s with pending := rest }) rfl rfl).exec hx

end Sys2Proof.Machine
end

section
/-! What the rig lock guards (O35, O36). -/

namespace Sys2Proof.Machine

section
variable {s t u : State}

/-! ### The settings the lock guards (O36) -/

/-- Every circuit's settings, the curves, the rig settings and every rack's present field stand. -/
structure State.KeepsGuarded (s t : State) : Prop where
  settings : ∀ n, (t.circuit n).settings = (s.circuit n).settings
  curves : t.curves = s.curves
  rig : t.rig = s.rig
  present : ∀ l r, (t.row l r).present = (s.row l r).present

theorem State.SameRig.guarded (h : s.SameRig t) : s.KeepsGuarded t :=
  ⟨fun n => by rw [h.circuit], h.curves, h.rig, fun l r => by rw [h.row]⟩

theorem State.KeepsGuarded.trans (h : s.KeepsGuarded t) (h' : t.KeepsGuarded u) : s.KeepsGuarded u :=
  ⟨fun n => (h'.settings n).trans (h.settings n), h'.curves.trans h.curves, h'.rig.trans h.rig,
    fun l r => (h'.present l r).trans (h.present l r)⟩

theorem State.KeepsConfig.guarded (h : s.KeepsConfig t) (ho : s.RigOnly t) : s.KeepsGuarded t :=
  ⟨h.settings, by rw [ho], by rw [ho], fun l r => (h.polls l).present r⟩

theorem State.replyArrival_only {l : LinkId} {bytes : List Byte} (hx : exec (.replyArrival l bytes) s = .next t) : s.RigOnly t := by
  rcases exec_replyArrival_cases hx with e | e | ⟨r, -, ⟨y, e⟩ | e⟩ <;> rw [e]
  · exact .refl s
  · exact s.windowSilent_only l
  · exact (s.closeWindow_only l).trans (State.takeReady_only ..)
  · exact (s.closeWindow_only l).trans (State.setRow_only ..)

/-- A frame-due event polls a rack, and leaves every row but the silent one's. -/
theorem State.framed_guarded (s : State) (l : LinkId) : s.KeepsGuarded (s.framed l) := by
  have silent := ((State.KeepsConfig.refl s).windowSilent l).guarded (s.windowSilent_only l)
  refine silent.trans ⟨fun n => by simp [State.framed], by simp [State.framed], by simp [State.framed], fun l' r => ?_⟩
  unfold State.framed
  rw [State.row, State.link_setLink]
  split
  · rename_i e
    subst e
    unfold Link.poll
    split <;> rfl
  · rfl

theorem State.pollEnd_guarded (s : State) (l : LinkId) (r : Nat) :
    s.KeepsGuarded (s.setLink l { s.link l with window := some r, polling := none }) := by
  refine ⟨fun n => by simp, by simp, by simp, fun l' r' => ?_⟩
  rw [State.row, State.link_setLink]
  split
  · rename_i e; subst e; rfl
  · rfl

/-- The requests the rig lock refuses (R43). -/
def ReqCode.rigLocked : ReqCode → Bool
  | .circuitSet | .curveLoad | .rigSet | .rackSet | .reassign | .restore => true
  | _ => false

/-- While the rig lock is set they change nothing, whatever their parameters. -/
theorem perform_locked {code : ReqCode} (h : code.rigLocked = true) (hl : s.rig.locked = true) (ps : List Byte) :
    (code.perform ps s).1 = s := by
  cases code <;> cases h <;> simp only [ReqCode.perform, circuitSet, curveLoad, rigSet, rackSet, reassign, restore, hl, if_true]
  all_goals repeat' split
  all_goals rfl

theorem faultClear_guarded (ps : List Byte) (s : State) : s.KeepsGuarded (faultClear ps s).1 := by
  unfold faultClear
  split
  · split
    · exact (State.KeepsConfig.mapCircuits (f := Circuit.clearFaults) rfl fun _ => rfl).guarded (s.mapCircuits_only _)
    · split
      · exact (State.SameRig.refl s).guarded
      · exact ((State.KeepsConfig.refl s).setCircuit _ (by rfl)).guarded (s.setCircuit_only ..)
  · exact (State.SameRig.refl s).guarded

theorem statusAck_guarded (ps : List Byte) (s : State) : s.KeepsGuarded (statusAck ps s).1 := by
  unfold statusAck
  split
  · have h := State.KeepsConfig.acknowledgeAll s
    exact ⟨h.settings, rfl, rfl, fun l r => (h.polls l).present r⟩
  · exact (State.SameRig.refl s).guarded

/-- A RIG-LOCK on a locked rig changes nothing. -/
theorem rigLock_guarded (hl : s.rig.locked = true) (ps : List Byte) : s.KeepsGuarded (setRigLock true ps s).1 := by
  unfold setRigLock
  split
  · exact ⟨fun _ => rfl, rfl, by rw [State.setRig_rig, ← hl], fun _ _ => rfl⟩
  · exact (State.SameRig.refl s).guarded

/-- While the rig lock is set no request but RIG-UNLOCK changes what it guards. -/
theorem perform_guarded (hl : s.rig.locked = true) {code : ReqCode} (hc : code ≠ .rigUnlock) (ps : List Byte) :
    s.KeepsGuarded (code.perform ps s).1 := by
  by_cases hlocked : code.rigLocked = true
  · rw [perform_locked hlocked hl]
    exact (State.SameRig.refl s).guarded
  by_cases hw : code.writesRig = true
  · cases code <;> cases hw <;> try exact absurd rfl hlocked
    case faultClear.refl => exact faultClear_guarded ps s
    case statusAck.refl => exact statusAck_guarded ps s
    case rigLock.refl => exact rigLock_guarded hl ps
    case rigUnlock.refl => exact absurd rfl hc
  · exact (perform_sameRig (Bool.not_eq_true _ ▸ hw) ps s).guarded

theorem exec_guarded {c : Instr} (hl : s.rig.locked = true) (hx : exec c s = .next t) (hc : c ≠ .rigUnlock)
    (hpower : ∀ x y, c ≠ .powerOn x y) : s.KeepsGuarded t := by
  cases exec_rigEvent hx with
  | same h => exact h.guarded
  | @request code ps u hcode hu h =>
    have hne : code ≠ .rigUnlock := by
      rintro rfl
      cases c <;> cases hcode
      exact hc rfl
    exact (hu.guarded.trans (perform_guarded (by rw [hu.rig]; exact hl) hne ps)).trans h.guarded
  | power hp => exact absurd hp (hpower _ _)
  | @frameDue l e => exact e ▸ s.framed_guarded l
  | @pollEnd l r _ e => exact e ▸ s.pollEnd_guarded l r
  | @expiry l e => exact e ▸ ((State.KeepsConfig.refl s).windowSilent l).guarded (s.windowSilent_only l)
  | reply hr => subst hr; exact (State.KeepsConfig.replyArrival hx).guarded (State.replyArrival_only hx)

end

/-- Settles O36: the requests that write what the lock guards look for it first, and no event of a link touches it. -/
theorem rig_lock_keeps_settings : Obligations.Rig_lock_keeps_settings := by
  intro s t c hl hx hc hpower
  have h := exec_guarded hl hx hc hpower
  refine ⟨fun n => ?_, h.curves, h.rig, h.present⟩
  have hs := h.settings n
  simpa only [Circuit.settings, Prod.mk.injEq] using hs

end Sys2Proof.Machine
end

section
/-! CIRCUIT-SET: the fields it selects, what it refuses and what it stores (O32, O33). -/

namespace Sys2Proof.Machine

section
variable {s : State}

/-! ### The bytes of a selection -/

theorem takeOne_bytes (o : Option Byte) (rest : List Byte) : takeOne o.isSome (o.toList ++ rest) = (o, rest) := by
  cases o <;> rfl

theorem takeTwo_bytes (o : Option (Byte × Byte)) (rest : List Byte) : takeTwo o.isSome (pairBytes o ++ rest) = (o, rest) := by
  cases o <;> rfl

theorem length_toList_bytes (o : Option Byte) : o.toList.length = if o.isSome then 1 else 0 := by cases o <;> rfl

theorem length_pairBytes (o : Option (Byte × Byte)) : (pairBytes o).length = if o.isSome then 2 else 0 := by cases o <;> rfl

/-- Six choices as the low bits of a byte are read back one by one. -/
theorem lowBits (a b c d e f : Bool) :
    let y : Byte := BitVec.ofNat 8 ((if a then 1 else 0) + (if b then 2 else 0) + (if c then 4 else 0) + (if d then 8 else 0) +
      (if e then 16 else 0) + (if f then 32 else 0))
    y.toNat < 64 ∧ y.getLsbD 0 = a ∧ y.getLsbD 1 = b ∧ y.getLsbD 2 = c ∧ y.getLsbD 3 = d ∧ y.getLsbD 4 = e ∧ y.getLsbD 5 = f := by
  revert a b c d e f
  decide

theorem CircuitSelection.bits (x : CircuitSelection) :
    x.byte.toNat < 64 ∧ x.byte.getLsbD 0 = x.role.isSome ∧ x.byte.getLsbD 1 = x.mode.isSome ∧ x.byte.getLsbD 2 = x.curve.isSome ∧
      x.byte.getLsbD 3 = x.threshold.isSome ∧ x.byte.getLsbD 4 = x.park.isSome ∧ x.byte.getLsbD 5 = x.masks.isSome :=
  lowBits ..

/-- A selection written as its byte and its fields is read back. -/
theorem CircuitSelection.readSelection_bytes (x : CircuitSelection) : readSelection x.byte x.bytes = x := by
  obtain ⟨-, h0, h1, h2, h3, h4, h5⟩ := x.bits
  have hmasks := takeTwo_bytes x.masks []
  rw [List.append_nil] at hmasks
  simp only [readSelection, CircuitSelection.bytes, h0, h1, h2, h3, h4, h5, List.append_assoc, takeOne_bytes, takeTwo_bytes, hmasks]

theorem CircuitSelection.length_bytes (x : CircuitSelection) : x.bytes.length = selectionLength x.byte := by
  obtain ⟨-, h0, h1, h2, h3, h4, h5⟩ := x.bits
  simp only [selectionLength, CircuitSelection.bytes, h0, h1, h2, h3, h4, h5, List.length_append, length_toList_bytes,
    length_pairBytes]

/-! ### Values in range -/

theorem Role.ofCode_eq_none : ∀ n, (Role.ofCode n).isSome = false ↔ n = 0 ∨ 6 < n
  | 0 | 1 | 2 | 3 | 4 | 5 | 6 => by decide
  | n + 7 => iff_of_true rfl (by omega)

theorem Mode.ofCode_eq_none : ∀ n, (Mode.ofCode n).isSome = false ↔ n = 0 ∨ 3 < n
  | 0 | 1 | 2 | 3 => by decide
  | n + 4 => iff_of_true rfl (by omega)

theorem Byte.toNat_eq_zero (b : Byte) : b.toNat = 0 ↔ b = 0 := by bv_omega

/-- A choice of two stands in a byte of 0 or 1. -/
theorem Byte.not_choice (b : Byte) : (b == 0 || b == 1) = false ↔ 1 < b.toNat := by
  rw [Bool.or_eq_false_iff, beq_eq_false_iff_ne, beq_eq_false_iff_ne]
  bv_omega

/-- What R37 calls out of range, in a circuit number and the selected fields. -/
def CircuitSelection.Outside (x : CircuitSelection) (n : Nat) : Prop :=
  n = 0 ∨ 2048 < n ∨ (∃ b, x.role = some b ∧ (b = 0 ∨ 6 < b.toNat)) ∨
    (∃ b, x.mode = some b ∧ (b = 0 ∨ 3 < b.toNat)) ∨ (∃ b, x.curve = some b ∧ 15 < b.toNat) ∨
    (∃ b, x.park = some b ∧ 1 < b.1.toNat) ∨ (∃ b, x.masks = some b ∧ (1 < b.1.toNat ∨ 1 < b.2.toNat))

theorem CircuitSelection.outside_iff (x : CircuitSelection) (n : Nat) :
    x.Outside n ↔ (circuitOk n && x.inRange) = false := by
  have hn : circuitOk n = false ↔ n = 0 ∨ 2048 < n := by
    rw [← Bool.not_eq_true, circuitOk_iff]
    omega
  simp only [CircuitSelection.Outside, CircuitSelection.inRange, Bool.and_eq_false_iff, Option.all_eq_false, hn, Role.ofCode_eq_none,
    Mode.ofCode_eq_none, Byte.not_choice, Byte.toNat_eq_zero, decide_eq_false_iff_not, not_le, or_assoc]

/-! ### CIRCUIT-SET, branch by branch -/

/-- A request that does the same whatever the ports completes with what it does. -/
theorem State.serves_write {u : State} {c : Instr} {code : ReqCode} {perform : List Byte → State → State × Reply} {ps : List Byte}
    {y : Reply} {after : State → Prop} (hexec : exec c s = .next (s.serve code perform))
    (h : ∀ q l, perform ps (s.withPorts q l) = (u.withPorts q l, y)) (hpending : u.pending = s.pending)
    (hafter : ∀ t, u.SameButPorts t → after t) : s.Serves c code ps y after := by
  refine State.serves_of hexec fun p sq => ?_
  rw [(s.taken_same p).eq, h]
  exact ⟨rfl, rfl, rfl, hpending, hafter _ ((u.withPorts_same ..).trans (State.answer_same ..))⟩

@[simp] theorem State.rig_withPorts (q : Ports) (l : Option Port) : (s.withPorts q l).rig = s.rig := rfl
@[simp] theorem State.roleRefusal_withPorts (q : Ports) (l : Option Port) (n : Nat) (role : Role) :
    (s.withPorts q l).roleRefusal n role = s.roleRefusal n role := rfl

/-- The role a selection asks for, where it selects one, and else the present one. -/
def CircuitSelection.newRole (x : CircuitSelection) (c : Circuit) : Role :=
  (x.role.bind fun b => Role.ofCode b.toNat).getD c.role

variable {a b : Byte} {x : CircuitSelection}

theorem circuitSet_outside (h : x.Outside (word a b)) :
    s.Serves .circuitSet .circuitSet (a :: b :: x.byte :: x.bytes) (.refuse .range) s.SameButPorts := by
  refine State.serves_read rfl fun q l => ?_
  rw [x.outside_iff, Bool.and_eq_false_iff] at h
  rw [circuitSet, if_neg (not_not.mpr x.length_bytes), x.readSelection_bytes]
  refine if_pos ?_
  rcases h with h | h <;> simp [h]

/-- A selection with bit 6 or 7 set is out of range (R180). -/
theorem circuitSet_highBits {selection : Byte} {fields : List Byte} (h : 64 ≤ selection.toNat)
    (hlen : fields.length = selectionLength selection) :
    s.Serves .circuitSet .circuitSet (a :: b :: selection :: fields) (.refuse .range) s.SameButPorts := by
  refine State.serves_read rfl fun q l => ?_
  rw [circuitSet, if_neg (not_not.mpr hlen)]
  exact if_pos (by simp [not_lt.mpr h])

/-- In range the rig lock refuses first, then the role, and else the record is written. -/
theorem circuitSet_inside (h : ¬ x.Outside (word a b)) : circuitSet (a :: b :: x.byte :: x.bytes) s =
    if s.rig.locked = true then (s, .refuse .locked)
    else match s.roleRefusal (word a b) (x.newRole (s.circuit (word a b))) with
      | some o => (s, .refuse o)
      | none =>
        (s.setCircuit (word a b) (((s.circuit (word a b)).applyRole (x.newRole (s.circuit (word a b)))).applySettings x),
          .done 0 (circuitData (((s.circuit (word a b)).applyRole (x.newRole (s.circuit (word a b)))).applySettings x))) := by
  rw [x.outside_iff, Bool.not_eq_false, Bool.and_eq_true] at h
  obtain ⟨hck, hx⟩ := h
  rw [circuitSet, if_neg (not_not.mpr x.length_bytes), x.readSelection_bytes]
  simp only [hck, hx, x.bits.1, CircuitSelection.newRole]
  rfl

theorem circuitSet_refuses (h : ¬ x.Outside (word a b)) (hl : s.rig.locked = false) {o : ReqOutcome}
    (hr : s.roleRefusal (word a b) (x.newRole (s.circuit (word a b))) = some o) :
    s.Serves .circuitSet .circuitSet (a :: b :: x.byte :: x.bytes) (.refuse o) s.SameButPorts := by
  refine State.serves_read rfl fun q l => ?_
  rw [circuitSet_inside h, State.circuit_withPorts, State.rig_withPorts, State.roleRefusal_withPorts, if_neg (by simp [hl]), hr]

theorem circuitSet_locked (h : ¬ x.Outside (word a b)) (hl : s.rig.locked = true) :
    s.Serves .circuitSet .circuitSet (a :: b :: x.byte :: x.bytes) (.refuse .locked) s.SameButPorts :=
  State.serves_read rfl fun q l => by rw [circuitSet_inside h]; exact if_pos hl

/-- What CIRCUIT-SET stores completes the request, and no other circuit is touched. -/
theorem circuitSet_serves (h : ¬ x.Outside (word a b)) (hl : s.rig.locked = false)
    (hr : s.roleRefusal (word a b) (x.newRole (s.circuit (word a b))) = none) {new : Circuit}
    (hnew : ((s.circuit (word a b)).applyRole (x.newRole (s.circuit (word a b)))).applySettings x = new) :
    s.Serves .circuitSet .circuitSet (a :: b :: x.byte :: x.bytes) (.done 0 (circuitData new)) fun t =>
      s.SameButCircuits t ∧ ∀ m, t.circuit m = if m = word a b then new else s.circuit m := by
  refine State.serves_write (u := s.setCircuit (word a b) new) rfl (fun q l => ?_) (by rfl) fun t ht => ⟨?_, fun m => ?_⟩
  · rw [circuitSet_inside h, State.circuit_withPorts, State.rig_withPorts, State.roleRefusal_withPorts, if_neg (by simp [hl]), hr, hnew]
    rfl
  · rw [ht.eq]; rfl
  · simp only [State.circuit_congr ht.circuits, State.circuit_setCircuit, eq_comm]

end

theorem clampThreshold_eq (n : Nat) : clampThreshold n = max 1 (min n 4096) := by
  unfold clampThreshold
  split <;> omega

/-- Settles O32: the bytes of a selection are read back as the selection, and its fields are written into the circuit's record. -/
theorem circuit_set_stores_selected_fields : Obligations.Circuit_set_stores_selected_fields := by
  intro s ck1 ck0 x n outside old role
  refine ⟨circuitSet_outside, fun selection fields => circuitSet_highBits, ?_⟩
  intro h hl hr new
  refine circuitSet_serves h hl hr ?_
  change (old.applyRole role).applySettings x = new
  simp only [new, Circuit.applyRole, ← clampThreshold_eq]
  split <;> rename_i hsame
  · rw [hsame]; rfl
  · rfl

/-- The selection of a role alone. -/
def CircuitSelection.ofRole (code : Byte) : CircuitSelection := ⟨some code, none, none, none, none, none⟩

theorem CircuitSelection.ofRole_outside (code : Byte) (n : Nat) :
    (CircuitSelection.ofRole code).Outside n ↔ code = 0 ∨ 6 < code.toNat ∨ circuitOk n = false := by
  rw [← Bool.not_eq_true, circuitOk_iff]
  simp only [CircuitSelection.Outside, CircuitSelection.ofRole, Option.some.injEq, exists_eq_left', reduceCtorEq, false_and, exists_false,
    or_false, ← Byte.toNat_eq_zero]
  omega

/-- Settles O33: the changes of role refused are those of `State.roleRefusal_eq`, and a circuit that is no spare adds one to its rack. -/
theorem circuit_set_role_changes : Obligations.Circuit_set_role_changes := by
  classical
  intro s ck1 ck0 code
  have outside := CircuitSelection.ofRole_outside code (word ck1 ck0)
  refine ⟨fun h => circuitSet_outside (outside.mpr h), ?_⟩
  intro role hck hl hcode n old allowed
  have inside : ¬ (CircuitSelection.ofRole code).Outside n := by
    rw [outside, hck]
    have := Role.ofCode_eq_none code.toNat
    rw [hcode, Byte.toNat_eq_zero] at this
    simpa using this
  have hrole : (CircuitSelection.ofRole code).newRole old = role := by
    rw [CircuitSelection.newRole, CircuitSelection.ofRole, Option.bind_some, hcode, Option.getD_some]
  have refusal : s.roleRefusal n ((CircuitSelection.ofRole code).newRole old) = _ :=
    (congrArg _ hrole).trans (s.roleRefusal_eq n role)
  have spares := s.rackSpares_eq hck
  refine ⟨fun hne (hno : ¬ s.RoleAllowed n role) => ?_, fun hne (hyes : s.RoleAllowed n role) hfree hold hfull => ?_,
    fun hne (hyes : s.RoleAllowed n role) hroom => ?_⟩
  · exact circuitSet_refuses inside hl (by rw [refusal, if_neg hne, if_pos hno])
  · refine circuitSet_refuses inside hl ?_
    rw [hold] at spares
    rw [refusal, if_neg hne, if_neg (not_not.mpr hyes), if_pos ⟨hfree, Nat.lt_succ_of_le (hfull.trans_eq spares)⟩]
  · refine circuitSet_serves inside hl ?_ ?_
    · rw [refusal, if_neg hne, if_neg (not_not.mpr hyes), if_neg]
      rintro ⟨hfree, hfull⟩
      obtain ⟨hold, hlt⟩ := hroom hfree
      rw [spares, hold] at hlt
      exact absurd hlt (not_lt.mpr (Nat.le_of_lt_succ hfull))
    · change (old.applyRole _).applySettings _ = _
      rw [hrole, Circuit.applyRole, if_neg hne]
      rfl

end Sys2Proof.Machine
end

section
/-! The rig settings, the rig lock and the curves (O34), and the six requests the lock refuses (O35). -/

namespace Sys2Proof.Machine

section
variable {s : State}

/-! ### The rig settings and the lock -/

theorem enc1_of_lt {n : Nat} (h : n < 256) : enc1 n = [BitVec.ofNat 8 n] := if_pos h

theorem enc1_toNat (b : Byte) : enc1 b.toNat = [b] := by
  rw [enc1_of_lt b.isLt, BitVec.ofNat_toNat, BitVec.setWidth_eq]

theorem Byte.choice {b : Byte} (h : b = 0 ∨ b = 1) : (b == 0 || b == 1) = true := by
  rcases h with rfl | rfl <;> rfl

theorem encBool_choice {b : Byte} (h : b = 0 ∨ b = 1) : encBool (b == 1) = [b] := by
  rcases h with rfl | rfl <;> rfl

/-- Setting or clearing the rig lock keeps the settings (R43). -/
theorem setRigLock_serves {c : Instr} {code : ReqCode} (on : Bool) (hexec : exec c s = .next (s.serve code (setRigLock on))) :
    s.Serves c code [] (.done 0 []) fun t => s.SameButRig t ∧ t.rig = { s.rig with locked := on } := by
  refine State.serves_write (u := s.setRig { s.rig with locked := on }) hexec (fun _ _ => rfl) (by rfl) fun t ht => ?_
  rw [ht.eq]
  exact ⟨rfl, rfl⟩

theorem rigSet_range {auto : Byte} (h0 : auto ≠ 0) (h1 : auto ≠ 1) (reserve ceiling : Byte) :
    s.Serves .rigSet .rigSet [auto, reserve, ceiling] (.refuse .range) s.SameButPorts :=
  State.serves_read rfl fun q l => if_pos (by rw [beq_eq_false_iff_ne.mpr h0, beq_eq_false_iff_ne.mpr h1]; rfl)

theorem rigSet_locked {auto : Byte} (h : auto = 0 ∨ auto = 1) (hl : s.rig.locked = true) (reserve ceiling : Byte) :
    s.Serves .rigSet .rigSet [auto, reserve, ceiling] (.refuse .locked) s.SameButPorts :=
  State.serves_read rfl fun q l => (if_neg (by rw [Byte.choice h]; decide)).trans (if_pos hl)

theorem rigSet_serves {auto : Byte} (h : auto = 0 ∨ auto = 1) (hl : s.rig.locked = false) (reserve ceiling : Byte) :
    s.Serves .rigSet .rigSet [auto, reserve, ceiling] (.done 0 [auto, BitVec.ofNat 8 (min reserve.toNat 8), ceiling]) fun t =>
      s.SameButRig t ∧ t.rig = ⟨auto == 1, min reserve.toNat 8, ceiling.toNat, false⟩ := by
  refine State.serves_write (u := s.setRig ⟨auto == 1, min reserve.toNat 8, ceiling.toNat, false⟩) rfl (fun q l => ?_) (by rfl)
    fun t ht => ?_
  · have data : rigData ⟨auto == 1, min reserve.toNat 8, ceiling.toNat, false⟩ =
        [auto, BitVec.ofNat 8 (min reserve.toNat 8), ceiling] := by
      simp only [rigData, encBool_choice h, enc1_of_lt (show min reserve.toNat 8 < 256 by omega), enc1_toNat, List.cons_append,
        List.nil_append]
    rw [rigSet, if_neg (by rw [Byte.choice h]; decide), State.rig_withPorts, hl, if_neg Bool.false_ne_true]
    exact Prod.ext rfl (congrArg (Reply.done 0) data)
  · rw [ht.eq]
    exact ⟨rfl, rfl⟩

/-! ### Curves -/

theorem nonDecreasing_iff : ∀ l : List Nat, nonDecreasing l = true ↔ l.Pairwise (· ≤ ·)
  | [] => by simp [nonDecreasing]
  | [_] => by simp [nonDecreasing]
  | x :: y :: t => by
    rw [nonDecreasing, Bool.and_eq_true, decide_eq_true_iff, nonDecreasing_iff (y :: t), ← List.isChain_iff_pairwise,
      ← List.isChain_iff_pairwise, List.isChain_cons_cons]

variable {c : Byte} {pts : List Byte}

theorem curveLoad_range (hlen : pts.length = 34) (h : c = 0 ∨ 15 < c.toNat ∨ ∃ p ∈ words pts, 4096 < p) :
    s.Serves .curveLoad .curveLoad (c :: pts) (.refuse .range) s.SameButPorts := by
  refine State.serves_read rfl fun q l => (if_neg (not_not.mpr hlen)).trans (if_pos ?_)
  rw [Bool.not_eq_true', Bool.and_eq_false_iff, Bool.and_eq_false_iff, decide_eq_false_iff_not, decide_eq_false_iff_not, or_assoc,
    List.all_eq_false]
  simpa only [not_le, decide_eq_true_eq, Nat.lt_one_iff, Byte.toNat_eq_zero] using h

section
variable (hlen : pts.length = 34) (h1 : 1 ≤ c.toNat) (h15 : c.toNat ≤ 15) (hp : ∀ p ∈ words pts, p ≤ 4096)
include hlen h1 h15 hp

/-- In range a falling set is refused, then the rig lock refuses, and else the points are stored. -/
theorem curveLoad_inRange : curveLoad (c :: pts) s =
    if !nonDecreasing (words pts) then (s, .refuse .malformed)
    else if s.rig.locked then (s, .refuse .locked)
    else (s.setCurve c.toNat (words pts), .done 0 []) := by
  have hall : (words pts).all (fun p => decide (p ≤ 4096)) = true := by simpa using hp
  exact (if_neg (not_not.mpr hlen)).trans (if_neg (by simp [h1, h15, hall]))

theorem curveLoad_falling (hfall : ¬ nonDecreasing (words pts) = true) :
    s.Serves .curveLoad .curveLoad (c :: pts) (.refuse .malformed) s.SameButPorts :=
  State.serves_read rfl fun q l => (curveLoad_inRange hlen h1 h15 hp).trans (if_pos (by simpa using hfall))

theorem curveLoad_locked (hrise : nonDecreasing (words pts) = true) (hl : s.rig.locked = true) :
    s.Serves .curveLoad .curveLoad (c :: pts) (.refuse .locked) s.SameButPorts :=
  State.serves_read rfl fun q l => (curveLoad_inRange hlen h1 h15 hp).trans ((if_neg (by simp [hrise])).trans (if_pos hl))

theorem curveLoad_serves (hrise : nonDecreasing (words pts) = true) (hl : s.rig.locked = false) :
    s.Serves .curveLoad .curveLoad (c :: pts) (.done 0 []) fun t =>
      t = { s with curves := t.curves, ports := t.ports, servedLast := t.servedLast } ∧
      ∀ k, t.curve k = if k = c.toNat then words pts else s.curve k := by
  refine State.serves_write (u := s.setCurve c.toNat (words pts)) rfl (fun q l => ?_) (by rfl) fun t ht => ?_
  · exact (curveLoad_inRange hlen h1 h15 hp).trans ((if_neg (by simp [hrise])).trans (if_neg (by simp [hl])))
  · rw [ht.eq]
    exact ⟨rfl, fun k => (s.curve_setCurve _ k _ (by omega)).trans (by simp only [eq_comm])⟩

end

/-! ### What the lock refuses -/

theorem linkOfNumber_some {n : Nat} (h1 : 1 ≤ n) (h4 : n ≤ 4) : ∃ l, linkOfNumber n = some l := by
  interval_cases n <;> exact ⟨_, rfl⟩

theorem rackSet_locked {a b c : Byte} (hl : s.rig.locked = true) (h1 : 1 ≤ a.toNat) (h4 : a.toNat ≤ 4) (hb : rackOk b.toNat = true)
    (hc : c = 0 ∨ c = 1) : s.Serves .rackSet .rackSet [a, b, c] (.refuse .locked) s.SameButPorts := by
  obtain ⟨link, hlink⟩ := linkOfNumber_some h1 h4
  refine State.serves_read rfl fun q l => ?_
  rw [rackSet, hlink]
  exact (if_neg (by rw [hb, Byte.choice hc]; decide)).trans (if_pos hl)

theorem reassign_locked {a b c d : Byte} (hl : s.rig.locked = true) (h : circuitOk (word a b) = true) (h' : circuitOk (word c d) = true) :
    s.Serves .reassign .reassign [a, b, c, d] (.refuse .locked) s.SameButPorts :=
  State.serves_read rfl fun q l => (if_neg (by simp [h, h'])).trans (if_pos hl)

theorem restore_locked {a b : Byte} (hl : s.rig.locked = true) (h : circuitOk (word a b) = true) :
    s.Serves .restore .restore [a, b] (.refuse .locked) s.SameButPorts :=
  State.serves_read rfl fun q l => (if_neg (by simp [h])).trans (if_pos hl)

end

/-- Settles O34: each request is followed through its checks. -/
theorem rig_settings_lock_and_curves : Obligations.Rig_settings_lock_and_curves := by
  refine ⟨fun s auto reserve ceiling => ⟨fun h hl => rigSet_serves h hl _ _, fun h0 h1 => rigSet_range h0 h1 _ _,
    setRigLock_serves true rfl, setRigLock_serves false rfl⟩, fun s c pts hlen => ⟨fun h1 h15 hp => ?_, curveLoad_range hlen⟩⟩
  rw [← nonDecreasing_iff]
  exact ⟨curveLoad_serves hlen h1 h15 hp, curveLoad_falling hlen h1 h15 hp⟩

/-- Settles O35: each of the six looks for the lock after its checks of range. -/
theorem rig_lock_refuses_six_requests : Obligations.Rig_lock_refuses_six_requests := by
  intro s a b c d x pts hl
  refine ⟨fun hn hx => circuitSet_locked (by simp [CircuitSelection.outside_iff, hn, hx]) hl,
    fun h1 h15 hlen hp hrise => curveLoad_locked hlen h1 h15 hp hrise hl, fun h => rigSet_locked h hl _ _,
    rackSet_locked hl, reassign_locked hl, restore_locked hl⟩

end Sys2Proof.Machine
end

section
/-! FAULT-CLEAR, STATUS-ACK and the attention line (O59). -/

namespace Sys2Proof

variable {α : Type}

/-- In a table in rising order a listed value is what its number reads. -/
theorem Tbl.get_of_mem (d : α) {t : Tbl α} (ht : t.Pairwise fun e e' => e.1 < e'.1) {k : Nat} {v : α} (h : (k, v) ∈ t) :
    t.get d k = v := by
  induction t with
  | nil => cases h
  | cons e t ih =>
    obtain ⟨he, ht⟩ := List.pairwise_cons.mp ht
    unfold Tbl.get
    rcases List.mem_cons.mp h with rfl | hmem
    · exact if_pos rfl
    · rw [if_neg (he _ hmem).ne]
      exact ih ht hmem

/-- Where nothing unlisted is counted, the listed pairs counted are the numbers of the range counted: both name the same numbers in rising
order. -/
theorem Tbl.countIn_eq [DecidableEq α] {d : α} {t : Tbl α} (ht : t.Canonical d) {p : α → Bool} (hd : p d = false) (n : Nat) :
    t.countIn 1 n p = (List.range' 1 n).countP fun k => p (t.get d k) := by
  have numbers : (t.filter fun e => decide (1 ≤ e.1) && decide (e.1 ≤ n) && p e.2).map Prod.fst =
      (List.range' 1 n).filter fun k => p (t.get d k) := by
    refine List.Pairwise.eq_of_mem_iff (r := (· < ·)) (List.pairwise_map.mpr (ht.1.filter _)) ((List.pairwise_lt_range' ..).filter _)
      fun k => ?_
    simp only [List.mem_map, List.mem_filter, Bool.and_eq_true, decide_eq_true_eq, List.mem_range'_1]
    constructor
    · rintro ⟨⟨k, v⟩, ⟨hmem, ⟨h1, hn⟩, hp⟩, rfl⟩
      exact ⟨by omega, by rw [Tbl.get_of_mem d ht.1 hmem]; exact hp⟩
    · rintro ⟨hk, hp⟩
      rcases t.get_cases d k with e | hmem
      · rw [e, hd] at hp; cases hp
      · exact ⟨_, ⟨hmem, ⟨hk.1, by omega⟩, hp⟩, rfl⟩
  rw [Tbl.countIn, List.countP_eq_length_filter, List.countP_eq_length_filter, ← numbers, List.length_map]

end Sys2Proof

namespace Sys2Proof.Machine

section
variable {s : State}

/-! ### The counts -/

theorem State.Canonical.countCircuits (h : s.Canonical) {p : Circuit → Bool} (hp : p Circuit.initial = false) :
    s.circuits.countIn 1 2048 p = (List.range' 1 2048).countP fun m => p (s.circuit m) :=
  Tbl.countIn_eq h.circuits hp 2048

theorem State.Canonical.countRacks (h : s.Canonical) {p : RackRow → Bool} (hp : p RackRow.initial = false) :
    s.countRacks p = ([LinkId.a, .b, .c, .d].map fun l => (List.range' 1 16).countP fun r => p (s.row l r)).sum := by
  have row (l : LinkId) : (s.link l).rows.countIn 1 16 p = (List.range' 1 16).countP fun r => p (s.row l r) :=
    Tbl.countIn_eq (h.rows l) hp 16
  simp only [List.map_cons, List.map_nil, List.sum_cons, List.sum_nil, ← row, State.countRacks, State.link, ← add_assoc, add_zero]

/-! ### The attention line -/

theorem Circuit.anyMark_iff (c : Circuit) : c.anyMark = true ↔ ∃ k, (c.flag k).isNew = true := by
  rw [Circuit.anyMark, Bool.or_eq_true, Bool.or_eq_true]
  constructor
  · rintro ((h | h) | h)
    · exact ⟨.openLoad, h⟩
    · exact ⟨.short, h⟩
    · exact ⟨.dimmerFail, h⟩
  · rintro ⟨_ | _ | _, h⟩
    · exact .inl (.inl h)
    · exact .inl (.inr h)
    · exact .inr h

theorem RackRow.anyNotice_iff (w : RackRow) :
    w.anyNotice = true ↔ w.lostNotice = true ∨ w.returnedNotice = true ∨ w.abandonedNotice = true := by
  rw [RackRow.anyNotice, Bool.or_eq_true, Bool.or_eq_true, or_assoc]

theorem State.Canonical.markedCircuits_pos (h : s.Canonical) :
    0 < s.markedCircuits ↔ ∃ m k, circuitOk m = true ∧ ((s.circuit m).flag k).isNew = true := by
  rw [State.markedCircuits, h.countCircuits rfl, List.countP_pos_iff]
  simp only [Circuit.anyMark_iff, List.mem_range'_1, circuitOk_iff, exists_and_left]
  exact exists_congr fun m => and_congr_left' (by omega)

theorem State.Canonical.noticedRacks_pos (h : s.Canonical) : 0 < s.noticedRacks ↔ ∃ l r, rackOk r = true ∧
    ((s.row l r).lostNotice = true ∨ (s.row l r).returnedNotice = true ∨ (s.row l r).abandonedNotice = true) := by
  rw [State.noticedRacks, h.countRacks rfl, List.sum_pos_iff_exists_pos_nat]
  constructor
  · rintro ⟨_, hsum, hl⟩
    obtain ⟨l, -, rfl⟩ := List.mem_map.mp hsum
    obtain ⟨r, hr, hw⟩ := List.countP_pos_iff.mp hl
    rw [List.mem_range'_1] at hr
    exact ⟨l, r, (rackOk_iff r).mpr (by omega), (s.row l r).anyNotice_iff.mp hw⟩
  · rintro ⟨l, r, hr, hw⟩
    rw [rackOk_iff] at hr
    refine ⟨_, List.mem_map.mpr ⟨l, by cases l <;> simp, rfl⟩, ?_⟩
    exact List.countP_pos_iff.mpr ⟨r, List.mem_range'_1.mpr (by omega), (s.row l r).anyNotice_iff.mpr hw⟩

/-- The line is asserted while the restart flag, a new mark or a notice stands (R194). -/
theorem State.Canonical.attention_iff (h : s.Canonical) : s.attention = true ↔ s.restartFlag = true ∨
    (∃ m k, circuitOk m = true ∧ ((s.circuit m).flag k).isNew = true) ∨
    ∃ l r, rackOk r = true ∧ ((s.row l r).lostNotice = true ∨ (s.row l r).returnedNotice = true ∨ (s.row l r).abandonedNotice = true) := by
  rw [State.attention, Bool.or_eq_true, Bool.or_eq_true, decide_eq_true_iff, decide_eq_true_iff, h.markedCircuits_pos,
    h.noticedRacks_pos, or_assoc]

theorem State.playback_acknowledgeAll (s : State) (p : Nat) : s.acknowledgeAll.playback p = (s.playback p).ackFlags :=
  Tbl.get_mapVals Playback.initial (fun _ => Playback.ackFlags) s.playbacks p rfl

/-- STATUS-ACK lets the line fall (R193, R194). -/
theorem State.Canonical.attention_acknowledgeAll (h : s.Canonical) : s.acknowledgeAll.attention = false := by
  rw [← Bool.not_eq_true, h.acknowledgeAll.attention_iff]
  rintro (h | ⟨m, k, -, h⟩ | ⟨l, r, -, h⟩)
  · cases h
  · rw [State.circuit_acknowledgeAll] at h
    cases k <;> cases h
  · rw [State.row_acknowledgeAll] at h
    rcases h with h | h | h <;> cases h

/-! ### FAULT-CLEAR -/

theorem faultClear_one {a b : Byte} (hn : circuitOk (word a b) = true) :
    s.Serves .faultClear .faultClear [a, b] (.done (if (s.circuit (word a b)).anyFlag then 1 else 0) []) fun t =>
      s.SameButCircuits t ∧ ∀ m, t.circuit m = if m = word a b then (s.circuit m).clearFaults else s.circuit m := by
  refine State.serves_write (u := s.setCircuit (word a b) (s.circuit (word a b)).clearFaults) rfl (fun q l => ?_) (by rfl)
    fun t ht => ⟨?_, fun m => ?_⟩
  · have h0 : word a b ≠ 0 := by rw [circuitOk_iff] at hn; omega
    exact (if_neg h0).trans (if_neg (by simp [hn]))
  · rw [ht.eq]; rfl
  · rw [State.circuit_congr ht.circuits, State.circuit_setCircuit]
    by_cases e : word a b = m
    · rw [if_pos e, if_pos e.symm, e]
    · rw [if_neg e, if_neg (Ne.symm e)]

theorem faultClear_all (h : s.Canonical) :
    s.Serves .faultClear .faultClear [0, 0] (.done ((List.range' 1 2048).countP fun m => (s.circuit m).anyFlag) []) fun t =>
      s.SameButCircuits t ∧ ∀ m, t.circuit m = (s.circuit m).clearFaults := by
  refine State.serves_write (u := s.mapCircuits Circuit.clearFaults) rfl (fun q l => ?_) (by rfl) fun t ht => ⟨?_, fun m => ?_⟩
  · rw [← h.countCircuits (p := Circuit.anyFlag) rfl]
    have h0 : word 0 0 = 0 := rfl
    rw [faultClear, if_pos h0]
    rfl
  · rw [ht.eq]; rfl
  · rw [State.circuit_congr ht.circuits, State.circuit_mapCircuits s rfl]

theorem faultClear_range {a b : Byte} (hn : 2048 < word a b) :
    s.Serves .faultClear .faultClear [a, b] (.refuse .range) s.SameButPorts := by
  refine State.serves_read rfl fun q l => (if_neg (by omega)).trans (if_pos ?_)
  rw [Bool.not_eq_true', ← Bool.not_eq_true, circuitOk_iff]
  omega

end

/-- Settles O59: the counts over the tables are counts over their numbers, and STATUS-ACK maps every record to one without marks. -/
theorem faults_status_and_attention : Obligations.Faults_status_and_attention := by
  intro s c1 c0 h n marked clear racks
  refine ⟨faultClear_one, faultClear_all h, faultClear_range, ?_, h.attention_iff⟩
  refine State.serves_write (u := s.acknowledgeAll) rfl (fun q l => ?_) (by rfl) fun t ht => ?_
  · change (s.acknowledgeAll.withPorts q l, Reply.done (s.countRacks RackRow.anyNotice) (encBool s.restartFlag ++
      enc2 (s.countRacks RackRow.lostNotice) ++ enc2 (s.countRacks RackRow.returnedNotice) ++
      enc2 (s.countRacks RackRow.abandonedNotice) ++ enc2 (s.circuits.countIn 1 2048 Circuit.anyMark) ++ s.allPlaybackFlags)) = _
    rw [h.countRacks (p := RackRow.anyNotice) rfl, h.countRacks (p := RackRow.lostNotice) rfl,
      h.countRacks (p := RackRow.returnedNotice) rfl, h.countRacks (p := RackRow.abandonedNotice) rfl,
      h.countCircuits (p := Circuit.anyMark) rfl, s.allPlaybackFlags_eq]
    rfl
  · rw [ht.eq]
    exact ⟨rfl, s.playback_acknowledgeAll, s.circuit_acknowledgeAll, fun l => by cases l <;> rfl, s.row_acknowledgeAll,
      h.attention_acknowledgeAll⟩

end Sys2Proof.Machine
end

section
/-!
The look store's requests: the opening of a look write, and LOOK-DELETE (O37).
-/

namespace Sys2Proof.Machine

/-! ### An announcing request taken -/

/-- A port after the engine took an announcing request from it, by what the opening decides: the transfer opens with its timer running,
or the refusal is answered and the data hold emptied (R186). -/
def PortState.afterOpening (q : PortState) (r : Request) : Except ReqOutcome Transfer → PortState
  | .ok t => { q.afterTaking with transfer := some t, inactivityTimer := .running }
  | .error o => { q.afterServing (r.answered (.refuse o)) with dataHold := [] }

/-- The taking of an announcing request changes its port and the port served last, and nothing else. -/
theorem exec_announcing {s : State} {c : Instr} {p : Port} {r : Request} (hc : c.requestCode = some r.code)
    (ha : r.code.announcing = true) (hn : s.nextRequest = some (p, r)) :
    ∃ t, exec c s = .next t ∧ s.SameButPorts t ∧ t.servedLast = some p ∧ t.port (otherPort p) = s.port (otherPort p) ∧
      t.port p = (s.port p).afterOpening r (r.code.opening r (s.taken p)) := by
  have written (v : PortState) : s.OnlyServed ((s.taken p).setPort p v) p ∧ ((s.taken p).setPort p v).servedLast = some p ∧
      ((s.taken p).setPort p v).port p = v := by
    refine ⟨(s.taken_onlyServed p).setPort v, ?_, by rw [State.port_setPort, if_pos rfl]⟩
    rw [State.taken_eq]
    cases p <;> rfl
  rw [exec_serveOpening hc ha, State.serveOpening_next s _ hn rfl]
  refine ⟨_, rfl, ?_⟩
  cases r.code.opening r (s.taken p) with
  | ok t =>
    obtain ⟨⟨same, other⟩, last, port⟩ := written { (s.taken p).port p with transfer := some t, inactivityTimer := .running }
    exact ⟨same, last, other, by rw [port, State.taken_port, PortState.afterOpening]⟩
  | error o =>
    have emptied : ((s.taken p).setPort p { (s.taken p).port p with dataHold := [] }).answer p r (.refuse o) =
        (s.taken p).setPort p ((s.port p).afterOpening r (.error o)) := by
      rw [State.answer_eq, State.port_setPort, if_pos rfl, State.taken_port]
      cases p <;> rfl
    obtain ⟨⟨same, other⟩, last, port⟩ := written ((s.port p).afterOpening r (.error o))
    dsimp only
    rw [emptied]
    exact ⟨same, last, other, port⟩

/-! ### The checks of LOOK-WRITE (R52) -/

theorem followOfBytes_eq (present l1 l0 d1 d0 : Byte) : followOfBytes present l1 l0 d1 d0 =
    if (present == 0 || (present == 1 && lookOk (word l1 l0))) = true then
      some (if present = 0 then none else some ⟨word l1 l0, word d1 d0⟩)
    else none := by
  unfold followOfBytes
  by_cases h0 : present = 0
  · subst h0; rfl
  · rw [if_neg h0, if_neg h0, beq_eq_false_iff_ne.mpr h0, Bool.false_or]
    simp only [Bool.and_eq_true, beq_iff_eq]

theorem Loop.ofCodes_eq (code passes : Byte) : Loop.ofCodes code.toNat passes.toNat =
    if (code == 0 || code == 1 || (code == 2 && passes != 0)) = true then
      some (if code = 0 then .absent else if code = 1 then .endless else .passes passes.toNat)
    else none := by
  by_cases h0 : code = 0
  · subst h0; rfl
  by_cases h1 : code = 1
  · subst h1; rfl
  rw [if_neg h0, if_neg h1, beq_eq_false_iff_ne.mpr h0, beq_eq_false_iff_ne.mpr h1, Bool.false_or, Bool.false_or]
  by_cases h2 : code = 2
  · subst h2
    simp only [Loop.ofCodes, BitVec.reduceToNat, Byte.toNat_eq_zero, beq_self_eq_true, Bool.true_and, bne_iff_ne, ne_eq, ite_not]
  · rw [beq_eq_false_iff_ne.mpr h2, Bool.false_and, if_neg Bool.false_ne_true]
    unfold Loop.ofCodes
    split
    case h_4 => rfl
    all_goals bv_omega

theorem State.editRefusal_false (s : State) (b : Nat) : s.editRefusal false b = some .range := rfl

/-- The checks of R52 in their order, whatever the ports. -/
theorem lookWriteOpening_eq {s u : State} (h : s.SameButPorts u) (sq b n1 n0 e1 e0 ut1 ut0 dt1 dt0 ud1 ud0 dd1 dd0 : Byte)
    (fp fl1 fl0 fd1 fd0 lc lp : Byte) :
    lookWriteOpening ⟨sq, .lookWrite,
        [b, n1, n0, e1, e0, ut1, ut0, dt1, dt0, ud1, ud0, dd1, dd0, fp, fl1, fl0, fd1, fd0, lc, lp]⟩ u =
      match (s.editRefusal (bankOk b.toNat && lookOk (word n1 n0) && decide (1 ≤ word e1 e0) && decide (word e1 e0 ≤ 1024) &&
          (fp == 0 || (fp == 1 && lookOk (word fl1 fl0))) && (lc == 0 || lc == 1 || (lc == 2 && lp != 0))) b.toNat).or
          (if s.lookFits b.toNat (word n1 n0) (word e1 e0) = false then some .full else none) with
      | some o => .error o
      | none => .ok (.write ⟨sq, b.toNat, word n1 n0, word e1 e0, ⟨word ut1 ut0, word dt1 dt0, word ud1 ud0, word dd1 dd0,
          if fp = 0 then none else some ⟨word fl1 fl0, word fd1 fd0⟩,
          if lc = 0 then .absent else if lc = 1 then .endless else .passes lp.toNat⟩, [], 0, none⟩) := by
  have fits : (s.withPorts u.ports u.servedLast).lookFits b.toNat (word n1 n0) (word e1 e0) =
      s.lookFits b.toNat (word n1 n0) (word e1 e0) := rfl
  rw [h.eq]
  simp only [lookWriteOpening, followOfBytes_eq, Loop.ofCodes_eq, State.editRefusal_withPorts, fits]
  generalize (if lc = 0 then Loop.absent else if lc = 1 then .endless else .passes lp.toNat) = loop
  generalize (if fp = 0 then none else some (⟨word fl1 fl0, word fd1 fd0⟩ : Follow)) = follow
  generalize (bankOk b.toNat && lookOk (word n1 n0) && decide (1 ≤ word e1 e0) && decide (word e1 e0 ≤ 1024)) = numbersOk
  cases (fp == 0 || (fp == 1 && lookOk (word fl1 fl0))) with
  | false => rw [Bool.and_false, Bool.false_and, State.editRefusal_false]; rfl
  | true =>
    cases (lc == 0 || lc == 1 || (lc == 2 && lp != 0)) with
    | false => rw [Bool.and_false, State.editRefusal_false]; rfl
    | true =>
      rw [Bool.and_true, Bool.and_true]
      cases s.editRefusal numbersOk b.toNat with
      | some o => rfl
      | none => cases s.lookFits b.toNat (word n1 n0) (word e1 e0) <;> rfl

/-! ### A look written or taken away -/

/-- After the writing of a look, whatever the ports: no other look, no record and no lock differs. -/
theorem State.SameButPorts.setLook {s t : State} {b n : Nat} {v : Option Look} (h : (s.setLook b n v).SameButPorts t) :
    s.SameButBanks t ∧ (∀ b' n', t.look b' n' = if b' = b ∧ n' = n then v else s.look b' n') ∧
      ∀ b', t.records b' = s.records b' ∧ (t.bank b').locked = (s.bank b').locked := by
  obtain ⟨frame, others, hb⟩ := State.SameButPorts.setBank (v := { s.bank b with looks := (s.bank b).looks.set none n v }) h
  rw [h.eq] at *
  refine ⟨frame, fun b' n' => ?_, fun b' => ⟨?_, ?_⟩⟩
  · rw [State.look_withPorts, State.look_setLook]
    simp only [eq_comm]
  · rw [State.records_withPorts, State.records_setLook]
  · by_cases e : b' = b
    · rw [e, hb]
    · rw [others b' e]

section
variable {s : State} {b n1 n0 : Byte}

theorem lookDelete_refused {o : ReqOutcome} (h : s.editRefusal (bankOk b.toNat && lookOk (word n1 n0)) b.toNat = some o) :
    s.Serves .lookDelete .lookDelete [b, n1, n0] (.refuse o) s.SameButPorts :=
  State.serves_read rfl fun q l => by simp only [lookDelete, State.editRefusal_withPorts, h]

theorem lookDelete_absent (h : s.editRefusal (bankOk b.toNat && lookOk (word n1 n0)) b.toNat = none)
    (hlook : s.look b.toNat (word n1 n0) = none) :
    s.Serves .lookDelete .lookDelete [b, n1, n0] (.refuse .absent) s.SameButPorts :=
  State.serves_read rfl fun q l => by simp only [lookDelete, State.editRefusal_withPorts, State.look_withPorts, h, hlook]

theorem lookDelete_held {k : Look} (h : s.editRefusal (bankOk b.toNat && lookOk (word n1 n0)) b.toNat = none)
    (hlook : s.look b.toNat (word n1 n0) = some k) :
    s.Serves .lookDelete .lookDelete [b, n1, n0] (.done k.entries.length []) (s.setLook b.toNat (word n1 n0) none).SameButPorts :=
  State.serves_write rfl (fun q l => by
    simp only [lookDelete, State.editRefusal_withPorts, State.look_withPorts, h, hlook]; rfl) (by rfl) fun _ ht => ht

end

/-- Settles O37: the opening is answered by its checks, and a deletion writes one look. -/
theorem look_write_opens_and_delete : Obligations.Look_write_opens_and_delete := by
  refine ⟨?_, ?_⟩
  · intro s p sq b n1 n0 e1 e0 fp fl1 fl0 fd1 fd0 lc lp ut1 ut0 dt1 dt0 ud1 ud0 dd1 dd0 hn inRange refusal h
    have hrefusal : (s.editRefusal inRange b.toNat).or
        (if s.lookFits b.toNat (word n1 n0) (word e1 e0) = false then some .full else none) = refusal := by
      simp only [State.editRefusal_eq, refusal]
      split_ifs <;> rfl
    obtain ⟨t, hexec, same, last, other, port⟩ := exec_announcing (c := .lookWrite) rfl rfl hn
    refine ⟨t, hexec, same, last, other, port.trans ?_⟩
    simp only [ReqCode.opening, lookWriteOpening_eq (s.taken_same p)]
    rw [hrefusal]
    cases refusal <;> rfl
  · intro s b n1 n0 refusal
    have hrefusal : s.editRefusal (bankOk b.toNat && lookOk (word n1 n0)) b.toNat = refusal := by
      simp only [State.editRefusal_eq, Bool.and_eq_false_iff, refusal]
    rw [← hrefusal]
    cases hedit : s.editRefusal (bankOk b.toNat && lookOk (word n1 n0)) b.toNat with
    | some o => exact lookDelete_refused hedit
    | none =>
      cases hlook : s.look b.toNat (word n1 n0) with
      | none => exact lookDelete_absent hedit hlook
      | some k =>
        intro p sq hn
        obtain ⟨t, hexec, served, after⟩ := lookDelete_held hedit hlook p sq hn
        exact ⟨t, hexec, served, after.setLook⟩

end Sys2Proof.Machine
end

section
/-!
The data frames of a look write (O18): the staging of a frame's entries, the decision at the count, and the fault the statement of
O18 does not shut out. What O18 says holds of every look write whose recorded fault, if any, is a refusal (`exec_write_below`,
`exec_write_full`, `exec_write_decided`); staging records no other.
-/

namespace Sys2Proof.Machine

/-! ### Staging (R53) -/

/-- The entries of a data frame that the announced count leaves room for. -/
def WriteTransfer.entriesOf (t : WriteTransfer) (data : List Byte) : List (Nat × Nat) :=
  ((writeEntries data).getD []).take (t.announced - t.received)

/-- The channel of an entry by its place in a frame. -/
def channelAt (es : List (Nat × Nat)) (i : Nat) : Nat := (es.getD i (0, 0)).1

/-- The channel before an entry of a frame: the entry before it in the frame, or the last one staged; 0 before the first of all. -/
def WriteTransfer.channelBefore (t : WriteTransfer) (es : List (Nat × Nat)) (i : Nat) : Nat :=
  if i = 0 then (t.staged.getLast?.map LookEntry.channel).getD 0 else channelAt es (i - 1)

/-- The fault of an entry by its place in a frame (R53; for both faults at once assumption log 22). -/
def WriteTransfer.faultAt (t : WriteTransfer) (es : List (Nat × Nat)) (i : Nat) : Option ReqOutcome :=
  if channelAt es i = 0 ∨ 1024 < channelAt es i then some .range
  else if channelAt es i ≤ t.channelBefore es i then some .malformed else none

/-- The faults of a frame's entries, each with its position in the write. -/
def WriteTransfer.faultsIn (t : WriteTransfer) (es : List (Nat × Nat)) : List (Nat × ReqOutcome) :=
  (List.range es.length).filterMap fun i => (t.faultAt es i).map fun o => (t.received + i + 1, o)

/-- A look write with these entries staged: levels clamped, all counted, the first fault kept. -/
def WriteTransfer.stage (t : WriteTransfer) (es : List (Nat × Nat)) : WriteTransfer :=
  { t with
    staged := t.staged ++ es.map fun e => ⟨e.1, min e.2 4096⟩
    received := t.received + es.length
    fault := t.fault.or (t.faultsIn es).head? }

section
variable (t : WriteTransfer) (es : List (Nat × Nat)) (e : Nat × Nat)

theorem channelAt_concat_of_lt {i : Nat} (h : i < es.length) : channelAt (es ++ [e]) i = channelAt es i := by
  rw [channelAt, channelAt, List.getD_append _ _ _ _ h]

theorem channelAt_concat_self : channelAt (es ++ [e]) es.length = e.1 := by
  rw [channelAt, List.getD_append_right _ _ _ _ (Nat.le_refl _), Nat.sub_self]
  rfl

/-- An entry is judged by the entries before it alone. -/
theorem WriteTransfer.faultAt_concat_of_lt {i : Nat} (h : i < es.length) : t.faultAt (es ++ [e]) i = t.faultAt es i := by
  have before : t.channelBefore (es ++ [e]) i = t.channelBefore es i := by
    rw [WriteTransfer.channelBefore, WriteTransfer.channelBefore,
      channelAt_concat_of_lt es e (Nat.lt_of_le_of_lt (Nat.sub_le i 1) h)]
  rw [WriteTransfer.faultAt, WriteTransfer.faultAt, channelAt_concat_of_lt es e h, before]

/-- The channel before the entry that follows some is that of the last one staged with them. -/
theorem WriteTransfer.channelBefore_concat : t.channelBefore (es ++ [e]) es.length =
    ((t.stage es).staged.getLast?.map LookEntry.channel).getD 0 := by
  rcases es.eq_nil_or_concat with rfl | ⟨front, last, rfl⟩
  · simp [WriteTransfer.channelBefore, WriteTransfer.stage]
  · have hlast : (front ++ [last]).length - 1 = front.length := by simp
    rw [List.concat_eq_append, WriteTransfer.channelBefore, if_neg (by simp), channelAt_concat_of_lt _ _ (by simp), hlast,
      channelAt_concat_self]
    simp [WriteTransfer.stage]

theorem entryFault_eq (before : Option LookEntry) (channel : Nat) : entryFault before channel =
    if channel = 0 ∨ 1024 < channel then some .range
    else if channel ≤ (before.map LookEntry.channel).getD 0 then some .malformed else none := by
  have outside : (!channelOk channel) = true ↔ channel = 0 ∨ 1024 < channel := by
    simp only [channelOk, Bool.not_eq_true', Bool.and_eq_false_iff, decide_eq_false_iff_not]
    omega
  simp only [entryFault, outside]
  cases before with
  | some b => simp
  | none => by_cases h : channel = 0 <;> simp [h]

theorem WriteTransfer.faultsIn_concat : t.faultsIn (es ++ [e]) = t.faultsIn es ++
    ((entryFault (t.stage es).staged.getLast? e.1).map fun o => (t.received + es.length + 1, o)).toList := by
  have earlier : (List.range es.length).filterMap (fun i => (t.faultAt (es ++ [e]) i).map fun o => (t.received + i + 1, o)) =
      t.faultsIn es := List.filterMap_congr fun i hi => by rw [t.faultAt_concat_of_lt es e (List.mem_range.mp hi)]
  have new : t.faultAt (es ++ [e]) es.length = entryFault (t.stage es).staged.getLast? e.1 := by
    rw [WriteTransfer.faultAt, channelAt_concat_self, t.channelBefore_concat, entryFault_eq]
  rw [WriteTransfer.faultsIn, List.length_append, List.length_singleton, List.range_succ, List.filterMap_append, earlier, ← new,
    List.filterMap_cons, List.filterMap_nil]
  cases t.faultAt (es ++ [e]) es.length <;> rfl

theorem WriteTransfer.stage_concat : t.stage (es ++ [e]) = stageEntry (t.stage es) e := by
  have hfault : t.fault.or (t.faultsIn (es ++ [e])).head? = (t.stage es).fault.or
      ((entryFault (t.stage es).staged.getLast? e.1).map fun o => ((t.stage es).received + 1, o)) := by
    rw [t.faultsIn_concat, List.head?_append, ← Option.or_assoc, Option.head?_toList]
    rfl
  rw [WriteTransfer.stage, hfault]
  simp [WriteTransfer.stage, stageEntry, clampLevel, Nat.add_assoc]

theorem foldl_stageEntry : es.foldl stageEntry t = t.stage es := by
  induction es using List.reverseRecOn with
  | nil => simp [WriteTransfer.stage, WriteTransfer.faultsIn]
  | append_singleton es e ih => rw [List.foldl_concat, ih, t.stage_concat]

theorem stageFrame_eq (data : List Byte) : stageFrame t data = t.stage (t.entriesOf data) := by
  rw [← foldl_stageEntry, WriteTransfer.entriesOf, stageFrame]
  cases writeEntries data with
  | none => simp
  | some es => rfl

/-- The fault a look write has recorded, if any, is a refusal. -/
def WriteTransfer.FaultRefuses : Prop := ∀ pos, t.fault ≠ some (pos, .done)

variable {t} in
theorem WriteTransfer.FaultRefuses.stage (h : t.FaultRefuses) : (t.stage es).FaultRefuses := by
  intro pos hdone
  rcases Option.or_eq_some_iff.mp hdone with hrecorded | ⟨-, hnew⟩
  · exact h pos hrecorded
  · obtain ⟨i, -, hi⟩ := List.mem_filterMap.mp (List.mem_of_mem_head? hnew)
    obtain ⟨o, ho, hpos⟩ := Option.map_eq_some_iff.mp hi
    cases hpos
    unfold WriteTransfer.faultAt at ho
    split_ifs at ho <;> cases ho

end

/-! ### The decision at the count (R54, R55) -/

section
variable (t : WriteTransfer) (s : State)

theorem decideWrite_withPorts (q : Ports) (l : Option Port) :
    decideWrite t (s.withPorts q l) = ((decideWrite t s).1.withPorts q l, (decideWrite t s).2) := by
  have refusal : (s.withPorts q l).bankRefusal t.bank = s.bankRefusal t.bank := rfl
  have fits : (s.withPorts q l).lookFits t.bank t.number t.announced = s.lookFits t.bank t.number t.announced := rfl
  simp only [decideWrite, refusal, fits]
  cases t.fault with
  | some f => rfl
  | none =>
    cases s.bankRefusal t.bank with
    | some o => rfl
    | none => cases s.lookFits t.bank t.number t.announced <;> rfl

/-- The reply to a look write whose count is reached: the recorded fault, and then the checks of R54 in their order. -/
theorem decideWrite_reply : (decideWrite t s).2 =
    match t.fault with
    | some (pos, o) => ⟨o, 0, enc2 pos⟩
    | none =>
      if s.changeover.phase = .darkening ∧ s.changeover.target = some t.bank then .refuse .changing
      else if (s.bank t.bank).locked = true then .refuse .locked
      else if s.lookFits t.bank t.number t.announced = false then
        ⟨.full, 0, enc2 (t.announced - ((s.look t.bank t.number).map fun l => l.entries.length).getD 0) ++
          enc2 (32768 - s.lookEntriesUsed)⟩
      else .done t.announced (encOpt2 ((s.look t.bank t.number).map fun l => l.entries.length)) := by
  have size : lookSize (s.look t.bank t.number) = ((s.look t.bank t.number).map fun l => l.entries.length).getD 0 := by
    cases s.look t.bank t.number <;> rfl
  have refusal : s.bankRefusal t.bank =
      if s.changeover.phase = .darkening ∧ s.changeover.target = some t.bank then some .changing
      else if (s.bank t.bank).locked = true then some .locked else none := s.editRefusal_eq true t.bank
  unfold decideWrite
  cases t.fault with
  | some f => rfl
  | none =>
    rw [refusal, ← size]
    by_cases changing : s.changeover.phase = .darkening ∧ s.changeover.target = some t.bank
    · simp only [if_pos changing]
    by_cases locked : (s.bank t.bank).locked = true
    · simp only [if_neg changing, if_pos locked]
    simp only [if_neg changing, if_neg locked]
    cases s.lookFits t.bank t.number t.announced <;> rfl

/-- A look write stores its look where it has no fault and is answered DONE, and else changes nothing. -/
theorem decideWrite_state : (decideWrite t s).1 = if t.fault = none ∧ (decideWrite t s).2.outcome = .done then
    s.setLook t.bank t.number (some ⟨t.header, t.staged⟩) else s := by
  have refused (o : ReqOutcome) (h : s.bankRefusal t.bank = some o) : o ≠ .done := by
    rintro rfl
    unfold State.bankRefusal at h
    split_ifs at h <;> cases h
  unfold decideWrite
  cases t.fault with
  | some f => exact (if_neg nofun).symm
  | none =>
    cases hrefusal : s.bankRefusal t.bank with
    | some o => exact (if_neg fun h => refused o hrefusal h.2).symm
    | none => cases s.lookFits t.bank t.number t.announced <;> rfl

end

/-! ### A data frame delivered -/

section
variable {s : State} {c : Instr} {p : Port} {t : WriteTransfer} {d : DataFrame} {rest : List DataFrame}

/-- Below the count the frame's entries are staged, nothing is answered and the timer runs afresh. -/
theorem exec_write_below (htr : (s.port p).transfer = some (.write t)) (hbrings : s.Brings c p d rest)
    (hcount : t.received + (t.entriesOf d.data).length < t.announced) :
    ∃ u, exec c s = .next u ∧ s.SameButPort u p ∧ u.port p = { s.port p with
      dataHold := rest
      transfer := some (.write (t.stage (t.entriesOf d.data)))
      inactivityTimer := .running } := by
  have below : ¬ (t.stage (t.entriesOf d.data)).announced ≤ (t.stage (t.entriesOf d.data)).received := Nat.not_le.mpr hcount
  refine ⟨_, exec_brings htr hbrings, ?_⟩
  simp only [State.deliver, stageFrame_eq, if_neg below, State.keepTransfer]
  cases p <;> exact ⟨⟨rfl, rfl⟩, rfl⟩

/-- At the count the write is decided as the state stands, and its port closes with the answer and then one for each frame still
held. -/
theorem exec_write_full (htr : (s.port p).transfer = some (.write t)) (hbrings : s.Brings c p d rest)
    (hcount : t.received + (t.entriesOf d.data).length = t.announced) :
    ∃ u, exec c s = .next u ∧ (decideWrite (t.stage (t.entriesOf d.data)) s).1.SameButPorts u ∧ u.servedLast = s.servedLast ∧
      u.port (otherPort p) = s.port (otherPort p) ∧
      let y := (decideWrite (t.stage (t.entriesOf d.data)) s).2
      u.port p = { s.port p with
        transfer := none, inactivityTimer := .stopped, dataHold := []
        outgoing := (s.port p).outgoing ++ ⟨t.sequence, 30, y.outcome, y.count, y.data⟩ ::
          rest.map fun x => ⟨x.sequence, dataCode, .malformed, 0, []⟩ } := by
  have full : (t.stage (t.entriesOf d.data)).announced ≤ (t.stage (t.entriesOf d.data)).received := Nat.le_of_eq hcount.symm
  have hv := (s.setPort_same p { s.port p with dataHold := rest }).eq
  have hport : (s.setPort p { s.port p with dataHold := rest }).port p = { s.port p with dataHold := rest } := by simp
  have hother := s.setPort_other p { s.port p with dataHold := rest }
  have hlast : (s.setPort p { s.port p with dataHold := rest }).servedLast = s.servedLast := by cases p <;> rfl
  refine ⟨_, exec_brings htr hbrings, ?_⟩
  generalize s.setPort p { s.port p with dataHold := rest } = v at hv hport hother hlast
  simp only [State.deliver, stageFrame_eq, if_pos full, State.closeFull_eq]
  rw [hv, decideWrite_withPorts]
  generalize decideWrite (t.stage (t.entriesOf d.data)) s = x
  have hports (q : Port) : (x.1.withPorts v.ports v.servedLast).port q = v.port q := by cases q <;> rfl
  refine ⟨(x.1.withPorts_same ..).trans (State.setPort_same ..), ?_, ?_, ?_⟩
  · rw [← hlast]; cases p <;> rfl
  · rw [State.setPort_other, hports, hother]
  · simp only [State.port_setPort, if_true, hports, hport, List.append_assoc]
    rfl

/-- Where a fault is recorded before a frame, the store stays as it is, whatever the fault's outcome. -/
theorem exec_write_of_fault {f : Nat × ReqOutcome} (hf : t.fault = some f) (htr : (s.port p).transfer = some (.write t))
    (hbrings : s.Brings c p d rest) (hcount : t.received + (t.entriesOf d.data).length = t.announced) {u : State}
    (hexec : exec c s = .next u) : u.banks = s.banks := by
  obtain ⟨u', hexec', same, -⟩ := exec_write_full htr hbrings hcount
  obtain rfl := Host.Outcome.next.inj (hexec'.symm.trans hexec)
  have hfault : (t.stage (t.entriesOf d.data)).fault = some f := by rw [WriteTransfer.stage, hf]; rfl
  rw [decideWrite_state, hfault, if_neg nofun] at same
  rw [same.eq]
  rfl

/-- At the count a write whose recorded fault, if any, is a refusal stores its look exactly where it is answered DONE. -/
theorem exec_write_decided (hf : t.FaultRefuses) (htr : (s.port p).transfer = some (.write t)) (hbrings : s.Brings c p d rest)
    (hcount : t.received + (t.entriesOf d.data).length = t.announced) {u : State} (hexec : exec c s = .next u) :
    let t' := t.stage (t.entriesOf d.data)
    u = { s with banks := u.banks, ports := u.ports } ∧
      ((decideWrite t' s).2.outcome ≠ .done → u.banks = s.banks) ∧
      ((decideWrite t' s).2.outcome = .done →
        (∀ b n, u.look b n = if b = t.bank ∧ n = t.number then some ⟨t.header, t'.staged⟩ else s.look b n) ∧
        ∀ b, u.records b = s.records b ∧ (u.bank b).locked = (s.bank b).locked) := by
  intro t'
  obtain ⟨u', hexec', same, last, -⟩ := exec_write_full htr hbrings hcount
  obtain rfl := Host.Outcome.next.inj (hexec'.symm.trans hexec)
  have faultless (hdone : (decideWrite t' s).2.outcome = .done) : t'.fault = none := by
    cases hfault : t'.fault with
    | none => rfl
    | some f =>
      rw [decideWrite_reply, hfault] at hdone
      exact absurd (hfault.trans (congrArg (fun o => some (f.1, o)) hdone)) (hf.stage _ f.1)
  change (decideWrite t' s).1.SameButPorts u' at same
  rw [decideWrite_state] at same
  by_cases hdone : (decideWrite t' s).2.outcome = .done
  · rw [if_pos ⟨faultless hdone, hdone⟩] at same
    exact ⟨by rw [same.eq, last]; rfl, fun h => absurd hdone h, fun _ => same.setLook.2⟩
  · rw [if_neg fun h => hdone h.2] at same
    exact ⟨by rw [same.eq, last]; rfl, fun _ => by rw [same.eq]; rfl, fun h => absurd h hdone⟩

end

/-! ### A recorded fault of outcome DONE -/

/-- A look write of one entry that has recorded DONE as its fault. No staging records it, and nothing in O18 shuts it out. -/
def doneFaultWrite : WriteTransfer := ⟨9, 1, 20, 1, ⟨0, 0, 0, 0, none, .absent⟩, [], 0, some (1, .done)⟩

/-- The new part with that look write open on port 1, and its one entry held. -/
def doneFaultState : State := State.reset.setPort .p1 { PortState.initial with
  transfer := some (.write doneFaultWrite), inactivityTimer := .running, dataHold := [⟨3, [0, 5, 0, 9]⟩] }

/-- Refutes O18: a fault recorded as DONE is answered DONE at the count, and the look is not stored. -/
theorem not_look_write_frames : ¬ Obligations.Look_write_frames := by
  intro h
  have htr : (doneFaultState.port .p1).transfer = some (.write doneFaultWrite) := rfl
  have hbrings : doneFaultState.Brings (.dataHoldDelivery .p1) .p1 ⟨3, [0, 5, 0, 9]⟩ [] := .inr ⟨rfl, rfl⟩
  obtain ⟨u, hexec, -, -, -, -, stored⟩ := (h _ _ _ _ _ _ htr hbrings (by decide)).2 (by decide)
  have unstored : u.look 1 20 = none := by
    rw [State.look, State.bank, exec_write_of_fault rfl htr hbrings (by decide) hexec]
    rfl
  have held := (stored rfl).1 1 20
  rw [unstored] at held
  cases held

end Sys2Proof.Machine
end

section
/-!
The relations between the changeover controller and the live bank, and the running timers (O5): what each request leaves of the
controller, the timers and the fade engine, and every step's keeping of both.
-/

namespace Sys2Proof.Machine

section
variable {s t u : State}

/-! ### Requests that leave the controller, the fade timer or the fade engine -/

/-- Neither the changeover controller, the live bank nor the fade timer differs. -/
structure State.SameClock (s t : State) : Prop where
  changeover : t.changeover = s.changeover
  liveBank : t.liveBank = s.liveBank
  fadeTimer : t.fadeTimer = s.fadeTimer

/-- Neither a fade nor a playback differs. -/
structure State.SameEngine (s t : State) : Prop where
  fades : t.fades = s.fades
  playbacks : t.playbacks = s.playbacks

theorem State.SameClock.refl (s : State) : s.SameClock s := ⟨rfl, rfl, rfl⟩
theorem State.SameEngine.refl (s : State) : s.SameEngine s := ⟨rfl, rfl⟩

theorem State.FadeEngineOnly.sameClock (h : s.FadeEngineOnly t) : s.SameClock t := by rw [h]; exact ⟨rfl, rfl, rfl⟩
theorem State.RigOnly.sameClock (h : s.RigOnly t) : s.SameClock t := by rw [h]; exact ⟨rfl, rfl, rfl⟩
theorem State.RigOnly.sameEngine (h : s.RigOnly t) : s.SameEngine t := by rw [h]; exact ⟨rfl, rfl⟩
theorem State.DeliveryOnly.sameClock {p : Port} (h : s.DeliveryOnly t p) : s.SameClock t := by rw [h.1]; exact ⟨rfl, rfl, rfl⟩
theorem State.DeliveryOnly.sameEngine {p : Port} (h : s.DeliveryOnly t p) : s.SameEngine t := by rw [h.1]; exact ⟨rfl, rfl⟩
theorem State.SameButLines.sameClock (h : s.SameButLines t) : s.SameClock t := by rw [h]; exact ⟨rfl, rfl, rfl⟩
theorem State.SameButLines.sameEngine (h : s.SameButLines t) : s.SameEngine t := by rw [h]; exact ⟨rfl, rfl⟩

/-- A REASSIGN changes circuits and orders alone. -/
theorem reassign_only (ps : List Byte) (s : State) : s.RigOnly (reassign ps s).1 := by
  unfold reassign
  split
  · dsimp only
    repeat' split
    case isFalse.isFalse.isFalse.isTrue => exact (s.setCircuit_only ..).trans (State.pairUp_only ..)
    case isFalse.isFalse.isFalse.isFalse => exact s.pairUp_only ..
    all_goals exact .refl s
  · exact .refl s

/-- A RESTORE changes circuits and orders alone. -/
theorem restore_only (ps : List Byte) (s : State) : s.RigOnly (restore ps s).1 := by
  unfold restore
  split
  · dsimp only
    split
    · exact .refl s
    · split
      · exact .refl s
      · split
        · split
          · exact ((s.setCircuit_only ..).trans (State.setCircuit_only ..)).trans (State.oweUndo_only ..)
          · exact .refl s
        · exact .refl s
  · exact .refl s

/-- A RACK-SET changes its link alone. -/
theorem rackSet_only (ps : List Byte) (s : State) : s.RigOnly (rackSet ps s).1 := by
  unfold rackSet
  split
  · split
    · exact .refl s
    · split
      · exact .refl s
      · split
        · exact .refl s
        · split
          · exact .refl s
          · exact s.setLink_only ..
  · exact .refl s

/-- The requests that may write a fade, a playback or the changeover controller. -/
def ReqCode.writesShow : ReqCode → Bool
  | .go | .release | .hold | .resume | .stopLoop | .master | .deskClear | .changeover | .statusAck => true
  | _ => false

/-- A request of another code leaves the fade engine and the changeover controller. -/
theorem perform_sameShow {code : ReqCode} (h : code.writesShow = false) (ps : List Byte) (s : State) :
    s.SameClock (code.perform ps s).1 ∧ s.SameEngine (code.perform ps s).1 := by
  have same {t : State} (e : t = s) : s.SameClock t ∧ s.SameEngine t := e ▸ ⟨.refl _, .refl _⟩
  have bank {f : List Byte → State → State × Reply} (h : Grants f State.BankEdit) :
      s.SameClock (f ps s).1 ∧ s.SameEngine (f ps s).1 := by
    rcases h ps s with e | ⟨-, e⟩
    · exact same e
    · rw [e.frame]; exact ⟨⟨rfl, rfl, rfl⟩, rfl, rfl⟩
  have rig {t : State} (e : s.RigOnly t) : s.SameClock t ∧ s.SameEngine t := ⟨e.sameClock, e.sameEngine⟩
  cases code with
  | patchSet => exact bank patchSet_grants
  | patchSetIf => exact bank patchSetIf_grants
  | patchClear => exact bank patchClear_grants
  | patchClearIf => exact bank patchClearIf_grants
  | patchClearChannel => exact bank patchClearChannel_grants
  | patchSwap => exact bank patchSwap_grants
  | patchRange => exact bank patchRange_grants
  | bankCopy => exact bank bankCopy_grants
  | bankErase => exact bank bankErase_grants
  | bankLock => exact bank (setBankLock_grants true)
  | bankUnlock => exact bank (setBankLock_grants false)
  | lookDelete => exact bank lookDelete_grants
  | reassign => exact rig (reassign_only ps s)
  | restore => exact rig (restore_only ps s)
  | rackSet => exact rig (rackSet_only ps s)
  | circuitSet | faultClear | rigSet | rigLock | rigUnlock | curveLoad | capture | uncapture | grand | blackout =>
    simp only [ReqCode.perform, Machine.circuitSet, Machine.faultClear, Machine.rigSet, Machine.setRigLock, Machine.curveLoad, Machine.capture, Machine.uncapture,
      Machine.grand, Machine.blackout]
    repeat' split
    all_goals exact ⟨⟨rfl, rfl, rfl⟩, rfl, rfl⟩
  | patchLoad | lookWrite => exact same rfl
  | go | release | hold | resume | stopLoop | master | deskClear | changeover | statusAck => cases h
  | _ => exact same (perform_reads rfl ps s)

/-! ### The frame timers -/

/-- Every link's frame timer is as it was. -/
structure State.KeepsTimers (s t : State) : Prop where
  frameTimer : ∀ l, (t.link l).frameTimer = (s.link l).frameTimer

namespace State.KeepsTimers

theorem refl (s : State) : s.KeepsTimers s := ⟨fun _ => rfl⟩

theorem of_links (h : t.links = s.links) : s.KeepsTimers t := ⟨fun l => by cases l <;> simp only [State.link, h]⟩

theorem setLink (h : s.KeepsTimers t) (l : LinkId) {v : Link} (hv : v.frameTimer = (t.link l).frameTimer) :
    s.KeepsTimers (t.setLink l v) := ⟨fun m => by
  rw [State.link_setLink]
  split
  · rename_i e; exact e ▸ hv.trans (h.frameTimer l)
  · exact h.frameTimer m⟩

theorem setCircuit (h : s.KeepsTimers t) (n : Nat) (v : Circuit) : s.KeepsTimers (t.setCircuit n v) := ⟨h.frameTimer⟩

theorem rewriteRecords (h : s.KeepsTimers t) (f : PatchRec → PatchRec) : s.KeepsTimers (t.rewriteRecords f) := ⟨h.frameTimer⟩

theorem setRow (h : s.KeepsTimers t) (l : LinkId) (r : Nat) (v : RackRow) : s.KeepsTimers (t.setRow l r v) := h.setLink l rfl

theorem placeOrder (h : s.KeepsTimers t) (l : LinkId) (r : Nat) (o : Order) : s.KeepsTimers (t.placeOrder l r o) := by
  rcases t.placeOrder_cases l r o with ⟨-, e⟩ | ⟨-, e⟩ <;> rw [e]
  · exact h.setRow ..
  · exact h

theorem placeNext (h : s.KeepsTimers t) (l : LinkId) (r : Nat) : s.KeepsTimers (t.placeNext l r) := by
  rcases t.placeNext_cases l r with ⟨_, _, -, -, e⟩ | ⟨-, e⟩ <;> rw [e]
  · exact h.setRow ..
  · exact h

theorem placeAll (h : s.KeepsTimers t) (l : LinkId) : s.KeepsTimers (t.placeAll l) := by
  unfold State.placeAll
  generalize List.range' 1 16 = rs
  induction rs generalizing t with
  | nil => exact h
  | cons r rs ih => exact ih (h.placeNext l r)

theorem oweUndo (h : s.KeepsTimers t) (l : LinkId) (r : Nat) (o : Order) : s.KeepsTimers (t.oweUndo l r o) := by
  unfold State.oweUndo
  split
  · split
    · exact h.setRow ..
    · exact h
  · exact h.setRow ..

theorem pairUp (h : s.KeepsTimers t) (failed spare : Nat) : s.KeepsTimers (t.pairUp failed spare) :=
  ((h.setCircuit ..).setCircuit ..).placeOrder ..

theorem confirmFailure (h : s.KeepsTimers t) (n : Nat) : s.KeepsTimers (t.confirmFailure n) := by
  unfold State.confirmFailure State.seekSpare
  dsimp only
  split
  · split
    · split
      · exact (h.setCircuit ..).pairUp ..
      · exact (h.setCircuit ..).setCircuit ..
    · exact (h.setCircuit ..).setCircuit ..
  · exact h.setCircuit ..

theorem acknowledge (h : s.KeepsTimers t) (l : LinkId) (r : Nat) (o : Order) : s.KeepsTimers (t.acknowledge l r o) := by
  unfold State.acknowledge State.ackTransfer State.ackUndo
  dsimp only
  refine placeNext ?_ l r
  have h1 : s.KeepsTimers (t.setPending l r none) := h.setRow ..
  split
  · split
    · exact (h1.setCircuit ..).rewriteRecords _
    · exact ((h1.setCircuit ..).setCircuit ..).rewriteRecords _
  · exact ((h1.rewriteRecords _).setCircuit ..).setCircuit ..

theorem abandon (h : s.KeepsTimers t) (l : LinkId) (r : Nat) (o : Order) : s.KeepsTimers (t.abandon l r o) := by
  unfold State.abandon State.revertPairing
  dsimp only
  refine placeNext ?_ l r
  have h1 := h.setRow l r { t.row l r with pendingOrder := none, abandonedNotice := true }
  split
  · exact h1.setCircuit ..
  · exact (h1.setCircuit ..).setCircuit ..
  · exact (h1.setCircuit ..).setCircuit ..

theorem closeWindow (h : s.KeepsTimers t) (l : LinkId) : s.KeepsTimers (t.closeWindow l) := h.setLink l rfl

theorem windowSilent (h : s.KeepsTimers t) (l : LinkId) : s.KeepsTimers (t.windowSilent l) := by
  unfold State.windowSilent
  split
  · exact h
  · exact (h.closeWindow l).setRow ..

/-- The poll of a rack leaves the timer. -/
theorem link_poll (k : Link) : k.poll.frameTimer = k.frameTimer := by
  unfold Link.poll
  split <;> rfl

theorem framed (h : s.KeepsTimers t) (l : LinkId) : s.KeepsTimers (t.framed l) :=
  (h.windowSilent l).setLink l (link_poll _)

theorem takeAck (h : s.KeepsTimers t) (l : LinkId) (r : Nat) (c a : Option Order) : s.KeepsTimers (t.takeAck l r c a).1 := by
  unfold State.takeAck
  split
  · exact h
  · split
    · split
      · exact h.acknowledge ..
      · split
        · exact h.setRow ..
        · exact h.abandon ..
    · exact h

theorem takeHealth {x : State × Bool} (h : s.KeepsTimers x.1) (l : LinkId) (r : Nat) (ps : List Report) (i : Nat) :
    s.KeepsTimers (takeHealth l r ps x i).1 := by
  unfold Machine.takeHealth
  dsimp only
  split
  · split
    · exact h.setCircuit ..
    · exact h.confirmFailure _
    · exact h.setCircuit ..
    · exact h
  · exact h

/-- A fold whose every step keeps them keeps them. -/
theorem foldlPair {α β : Type} {f : State × β → α → State × β}
    (hf : ∀ (x : State × β) a, s.KeepsTimers x.1 → s.KeepsTimers (f x a).1) (xs : List α) {x : State × β}
    (h : s.KeepsTimers x.1) : s.KeepsTimers (xs.foldl f x).1 := by
  induction xs generalizing x with
  | nil => exact h
  | cons a xs ih => exact ih (hf x a h)

theorem takeReady (h : s.KeepsTimers t) (l : LinkId) (r : Nat) (c : Option Order) (y : ReplyFrame) :
    s.KeepsTimers (t.takeReady l r c y) := by
  unfold State.takeReady
  dsimp only
  have h1 := (h.setRow l r { (t.row l r).readyReply with thermal := y.thermal }).takeAck l r c y.ack
  have h2 := foldlPair (f := takeReport l r) (fun _ _ hx => hx.setCircuit ..) y.reports (x := (_, false)) h1
  exact (foldlPair (fun _ i hx => hx.takeHealth l r y.reports i) (List.range' 1 32) (x := (_, false)) h2).setRow ..

theorem replyArrival {l : LinkId} {bytes : List Byte} (hx : exec (.replyArrival l bytes) s = .next t) : s.KeepsTimers t := by
  rcases exec_replyArrival_cases hx with e | e | ⟨r, -, ⟨y, e⟩ | e⟩ <;> rw [e]
  · exact .refl s
  · exact (refl s).windowSilent l
  · exact ((refl s).closeWindow l).takeReady ..
  · exact ((refl s).closeWindow l).setRow ..

/-- An edit of circuit records reaches no timer. -/
theorem circuitEdit (h : s.CircuitEdit t) : s.KeepsTimers t := by
  cases h with
  | set | clearFaults | clearAll => exact ⟨fun _ => rfl⟩
  | acknowledge => exact ⟨fun l => by rw [State.link_acknowledgeAll]; rfl⟩
  | reassign _ _ _ _ hu =>
    rcases hu with ⟨-, rfl⟩ | ⟨-, -, rfl⟩
    · exact ((refl s).setCircuit ..).pairUp ..
    · exact (refl _).pairUp ..
  | restore _ _ _ hu =>
    subst hu
    exact (((refl s).setCircuit ..).setCircuit ..).oweUndo ..

theorem rackSet (ps : List Byte) (s : State) : s.KeepsTimers (rackSet ps s).1 := by
  unfold Machine.rackSet
  split
  · split
    · exact .refl s
    · split
      · exact .refl s
      · split
        · exact .refl s
        · split
          · exact .refl s
          · refine (refl s).setLink _ ?_
            split
            · rfl
            · split <;> rfl
  · exact .refl s

/-- No request writes a frame timer. -/
theorem perform (code : ReqCode) (ps : List Byte) (s : State) : s.KeepsTimers (code.perform ps s).1 := by
  have circuit {f : List Byte → State → State × Reply} (h : Grants f State.CircuitEdit) : s.KeepsTimers (f ps s).1 := by
    rcases h ps s with e | ⟨-, e⟩
    · rw [e]; exact .refl s
    · exact .circuitEdit e
  cases hw : code.writesRig with
  | false => exact .of_links (perform_sameRig hw ps s).links
  | true =>
    cases code with
    | circuitSet => exact circuit circuitSet_grants
    | faultClear => exact circuit faultClear_grants
    | statusAck => exact circuit statusAck_grants
    | reassign => exact circuit reassign_grants
    | restore => exact circuit restore_grants
    | rackSet => exact .rackSet ps s
    | curveLoad | rigSet | rigLock | rigUnlock =>
      simp only [ReqCode.perform, Machine.curveLoad, Machine.rigSet, Machine.setRigLock]
      repeat' split
      all_goals exact .of_links rfl
    | _ => cases hw

end State.KeepsTimers

/-! ### The controller and the live bank (R122, R126) -/

/-- The relations are of the controller and the live bank alone. -/
theorem State.ChangeoverOk.congr (h : s.ChangeoverOk) (hs : s.SameClock t) : t.ChangeoverOk := by
  obtain ⟨live, idle, dark⟩ := h
  rw [← hs.changeover] at idle dark
  rw [← hs.liveBank] at live dark
  exact ⟨live, idle, dark⟩

/-- At elapsed 0 the scale is full. -/
theorem darkScale_zero {T : Nat} (h : 0 < T) : darkScale T 0 = 4096 := by
  have : T / 2 / T = 0 := Nat.div_eq_of_lt (by omega)
  simp [darkScale, this]

/-- The controller's step at a fade interval keeps the relations: short of switch due the elapsed count is below the dark time. -/
theorem State.ChangeoverOk.tick (h : s.ChangeoverOk) : (s.setChangeover s.changeover.tick).ChangeoverOk := by
  unfold Changeover.tick
  split
  · rename_i hd
    obtain ⟨b, htarget, hb, hne, hT, hle, hdue, -⟩ := h.darkening hd.1
    have hlt : s.changeover.elapsed ≠ s.changeover.darkTime := fun e => by simp [hdue.mpr e] at hd
    refine ⟨h.live, fun hi => ?_, fun _ => ⟨b, htarget, hb, hne, hT, ?_, ?_, rfl⟩⟩
    · simp [hd.1] at hi
    · simp only [State.setChangeover_changeover]; omega
    · simp only [State.setChangeover_changeover, decide_eq_true_eq]; omega
  · exact h

/-- A switch makes a bank live that is one, and leaves the controller in IDLE. -/
theorem State.switchOver_changeoverOk (h : bankOk (s.changeover.target.getD s.liveBank) = true) : s.switchOver.ChangeoverOk :=
  ⟨h, fun _ => rfl, nofun⟩

theorem State.ChangeoverOk.switchOver (h : s.ChangeoverOk) : s.switchOver.ChangeoverOk := by
  refine switchOver_changeoverOk ?_
  cases hp : s.changeover.phase with
  | idle => rw [h.idle hp]; exact h.live
  | darkening =>
    obtain ⟨b, htarget, hb, -⟩ := h.darkening hp
    rw [htarget]
    exact hb

/-- An accepted CHANGEOVER darkens towards a bank that is not live, or with dark time 0 makes it live. -/
theorem State.ChangeoverOk.changeover (h : s.ChangeoverOk) (ps : List Byte) : (Machine.changeover ps s).1.ChangeoverOk := by
  unfold Machine.changeover
  split
  · split
    · exact h
    · rename_i hb
      simp only [Bool.not_eq_true', Bool.not_eq_false] at hb
      split
      · exact h
      · split
        · exact h
        · rename_i hne
          dsimp only
          split
          · exact switchOver_changeoverOk hb
          · refine ⟨h.live, nofun, fun _ => ⟨_, rfl, hb, hne, by simp; omega, Nat.zero_le _, ?_, ?_⟩⟩
            · simp; omega
            · exact (darkScale_zero (by simp; omega)).symm
  · exact h

/-- A DESK-CLEAR, a STATUS-ACK or a request of a playback leaves the controller and the fade timer. -/
theorem perform_sameClock {code : ReqCode} (h : code ≠ .changeover) (ps : List Byte) (s : State) :
    s.SameClock (code.perform ps s).1 := by
  cases hw : code.writesShow with
  | false => exact (perform_sameShow hw ps s).1
  | true =>
    cases code with
    | go => exact (go_only ps s).sameClock
    | release => exact (release_only ps s).sameClock
    | resume => exact (resume_only ps s).sameClock
    | hold | stopLoop | master | deskClear | statusAck =>
      simp only [ReqCode.perform, Machine.hold, Machine.stopLoop, Machine.master, Machine.deskClear, Machine.statusAck]
      repeat' split
      all_goals exact ⟨rfl, rfl, rfl⟩
    | changeover => exact absurd rfl h
    | _ => cases hw

theorem State.ChangeoverOk.perform (h : s.ChangeoverOk) (code : ReqCode) (ps : List Byte) :
    (code.perform ps s).1.ChangeoverOk := by
  by_cases hc : code = .changeover
  · subst hc; exact h.changeover ps
  · exact h.congr (perform_sameClock hc ps s)

theorem State.reply_sameClock {l : LinkId} {bytes : List Byte} (hx : exec (.replyArrival l bytes) s = .next t) :
    s.SameClock t := by
  rcases exec_replyArrival_cases hx with e | e | ⟨r, -, ⟨y, e⟩ | e⟩ <;> rw [e]
  · exact .refl s
  · exact (s.windowSilent_only l).sameClock
  · exact ((s.closeWindow_only l).trans (State.takeReady_only ..)).sameClock
  · exact ((s.closeWindow_only l).trans (State.setRow_only ..)).sameClock

/-- After power-on the controller is in IDLE, and the live bank is the retained one or bank 1. -/
theorem State.ChangeoverOk.powerOn (h : s.ChangeoverOk) {x y : Bool} (hx : exec (.powerOn x y) s = .next t) : t.ChangeoverOk := by
  rcases exec_powerOn_cases hx with ⟨-, e⟩ | ⟨-, e⟩ <;> rw [e]
  · exact ⟨rfl, fun _ => rfl, nofun⟩
  · have kept : s.powerOnRetained.ChangeoverOk := ⟨h.live, fun _ => rfl, nofun⟩
    exact kept.congr ((((State.placeAll_only _ .a).trans (State.placeAll_only _ .b)).trans (State.placeAll_only _ .c)).trans
      (State.placeAll_only _ .d)).sameClock

theorem State.ChangeoverOk.exec (h : s.ChangeoverOk) {c : Instr} (hx : exec c s = .next t) : t.ChangeoverOk := by
  have free : PortFree State.ChangeoverOk := fun _ _ huv hu => hu.congr huv.sameClock
  have ports {u : State} (hu : s.SameButPorts u) : u.ChangeoverOk := free s u hu.lines h
  have deliver (u : State) (p : Port) (tr : Transfer) (data : List Byte) (_ : (u.port p).transfer = some tr) (hu : u.ChangeoverOk) :
      (u.deliver p tr data).ChangeoverOk := hu.congr (u.deliver_delivery p tr data).sameClock
  apply exec_cases hx free h
  case request => exact fun code _ r _ _ _ _ hu => (ports hu).perform code r.params
  case heldClear => exact fun ps _ hu => (ports hu).perform .deskClear ps
  case dataFrame => exact onFrame_takeData free.setPort deliver h
  case heldData => exact deliverHeld_keeps free.setPort deliver h
  case power => rintro x y rfl; exact h.powerOn hx
  case switch => exact fun _ _ => h.switchOver
  case fade => exact (h.congr s.fadeTick_only.sameClock).tick
  case frameDue => exact fun l => h.congr ((s.windowSilent_only l).trans (State.setLink_only ..)).sameClock
  case pollEnd => exact fun l r => h.congr (s.setLink_only l _).sameClock
  case expiry => exact fun l => h.congr (s.windowSilent_only l).sameClock
  case reply => rintro l bytes rfl; exact h.congr (State.reply_sameClock hx)

/-! ### The timers (R76, R137) -/

theorem State.TimersRun.congr (h : s.TimersRun) (hf : t.fadeTimer = s.fadeTimer) (hl : s.KeepsTimers t) : t.TimersRun :=
  ⟨hf.trans h.1, fun l => (hl.frameTimer l).trans (h.2 l)⟩

theorem State.RigOnly.timersRun (h : s.RigOnly t) (hs : s.TimersRun) (hl : s.KeepsTimers t) : t.TimersRun :=
  hs.congr h.sameClock.fadeTimer hl

theorem State.TimersRun.perform (h : s.TimersRun) (code : ReqCode) (ps : List Byte) : (code.perform ps s).1.TimersRun := by
  refine h.congr ?_ (.perform code ps s)
  by_cases hc : code = .changeover
  · subst hc
    simp only [ReqCode.perform, Machine.changeover]
    repeat' split
    all_goals rfl
  · exact (perform_sameClock hc ps s).fadeTimer

/-- Every timer runs from power-on. -/
theorem State.TimersRun.powerOn {x y : Bool} (hx : Machine.exec (.powerOn x y) s = .next t) : t.TimersRun := by
  rcases exec_powerOn_cases hx with ⟨-, e⟩ | ⟨-, e⟩ <;> rw [e]
  · exact ⟨rfl, fun l => by cases l <;> rfl⟩
  · have run : s.powerOnRetained.TimersRun := ⟨rfl, fun l => by cases l <;> rfl⟩
    exact ((((State.placeAll_only _ .a).trans (State.placeAll_only _ .b)).trans (State.placeAll_only _ .c)).trans
      (State.placeAll_only _ .d)).timersRun run
        (((((State.KeepsTimers.refl _).placeAll .a).placeAll .b).placeAll .c).placeAll .d)

theorem State.TimersRun.exec (h : s.TimersRun) {c : Instr} (hx : exec c s = .next t) : t.TimersRun := by
  have free : PortFree State.TimersRun := fun _ _ huv hu => hu.congr huv.sameClock.fadeTimer (.of_links huv.links)
  have ports {u : State} (hu : s.SameButPorts u) : u.TimersRun := free s u hu.lines h
  have deliver (u : State) (p : Port) (tr : Transfer) (data : List Byte) (_ : (u.port p).transfer = some tr) (hu : u.TimersRun) :
      (u.deliver p tr data).TimersRun :=
    hu.congr (u.deliver_delivery p tr data).sameClock.fadeTimer (.of_links (u.deliver_delivery p tr data).sameRig.links)
  apply exec_cases hx free h
  case request => exact fun code _ r _ _ _ _ hu => (ports hu).perform code r.params
  case heldClear => exact fun ps _ hu => (ports hu).perform .deskClear ps
  case dataFrame => exact onFrame_takeData free.setPort deliver h
  case heldData => exact deliverHeld_keeps free.setPort deliver h
  case power => rintro x y rfl; exact .powerOn hx
  case switch => exact fun _ _ => h.congr rfl (.of_links rfl)
  case fade =>
    have run : s.fadeTick.TimersRun := h.congr s.fadeTick_only.sameClock.fadeTimer (.of_links s.fadeTick_only.sameRig.links)
    exact run.congr (State.setChangeover_fadeTimer ..) (.of_links (State.setChangeover_links ..))
  case frameDue =>
    exact fun l => ((s.windowSilent_only l).trans (State.setLink_only ..)).timersRun h ((State.KeepsTimers.refl s).framed l)
  case pollEnd => exact fun l r => (s.setLink_only l _).timersRun h ((State.KeepsTimers.refl s).setLink l rfl)
  case expiry => exact fun l => (s.windowSilent_only l).timersRun h ((State.KeepsTimers.refl s).windowSilent l)
  case reply => rintro l bytes rfl; exact h.congr (State.reply_sameClock hx).fadeTimer (.replyArrival hx)

end

/-- Settles O5: only a CHANGEOVER, the fade interval, a switch and a power-on write the controller, and nothing writes a timer but
power-on, which starts them all. -/
theorem changeover_relations_and_timers_kept : Obligations.Changeover_relations_and_timers_kept := by
  refine ⟨fun s t h hx => ?_, fun s t h hx => ?_⟩
  · rcases step_cases hx with rfl | ⟨c, rest, -, hx⟩
    · exact h
    · exact (h.congr (t := { s with pending := rest }) ⟨rfl, rfl, rfl⟩).exec hx
  · rcases step_cases hx with rfl | ⟨c, rest, -, hx⟩
    · exact h
    · exact (h.congr (t := { s with pending := rest }) rfl (.of_links rfl)).exec hx

end Sys2Proof.Machine
end

section
/-!
The fade engine's requests ignore the console ports; HOLD, RESUME, STOP-LOOP and MASTER (O43), the fast completion (O41), desk clear (O44),
and what a CHANGEOVER and a GO check (O51).
-/

namespace Sys2Proof.Machine

/-! ### No request of the fade engine looks at the ports -/

section
variable (s : State) (q : Ports) (l : Option Port)

@[simp] theorem State.withPorts_fades : (s.withPorts q l).fades = s.fades := rfl
@[simp] theorem State.playback_withPorts (p : Nat) : (s.withPorts q l).playback p = s.playback p := rfl
@[simp] theorem State.entry_withPorts (p ch : Nat) : (s.withPorts q l).entry p ch = s.entry p ch := rfl
@[simp] theorem State.fade_withPorts (n : Nat) : (s.withPorts q l).fade n = s.fade n := rfl
@[simp] theorem State.freeSlot_withPorts : (s.withPorts q l).freeSlot = s.freeSlot := rfl
@[simp] theorem State.qualifying_withPorts (p : Nat) : (s.withPorts q l).qualifying p = s.qualifying p := rfl
@[simp] theorem State.darkening_withPorts : (s.withPorts q l).darkening = s.darkening := rfl
@[simp] theorem State.setFades_withPorts (v : List Fade) : (s.withPorts q l).setFades v = (s.setFades v).withPorts q l := rfl
@[simp] theorem State.setPlayback_withPorts (p : Nat) (v : Playback) :
    (s.withPorts q l).setPlayback p v = (s.setPlayback p v).withPorts q l := rfl
@[simp] theorem State.mapEntries_withPorts (p : Nat) (f : Entry → Entry) :
    (s.withPorts q l).mapEntries p f = (s.mapEntries p f).withPorts q l := rfl
@[simp] theorem State.updateFade_withPorts (f : Fade) : (s.withPorts q l).updateFade f = (s.updateFade f).withPorts q l := rfl
@[simp] theorem State.rederive_withPorts (p : Nat) : (s.withPorts q l).rederive p = (s.rederive p).withPorts q l := rfl
@[simp] theorem State.cancelFollow_withPorts (p : Nat) : (s.withPorts q l).cancelFollow p = (s.cancelFollow p).withPorts q l := rfl
@[simp] theorem State.missFollow_withPorts (p : Nat) : (s.withPorts q l).missFollow p = (s.missFollow p).withPorts q l := rfl

@[simp] theorem State.rederiveForced_withPorts (x : Option (Nat × Nat)) :
    (s.withPorts q l).rederiveForced x = (s.rederiveForced x).withPorts q l := by cases x <;> rfl

@[simp] theorem State.takeEntry_withPorts (n p ch target : Nat) (part : Part) :
    (s.withPorts q l).takeEntry n p ch target part = (s.takeEntry n p ch target part).withPorts q l := by
  unfold State.takeEntry
  dsimp only [State.entry_withPorts]
  split <;> rfl

@[simp] theorem State.takeLook_withPorts (n p : Nat) (es : List LookEntry) :
    (s.withPorts q l).takeLook n p es = (s.takeLook n p es).withPorts q l := by
  unfold State.takeLook
  induction es generalizing s with
  | nil => rfl
  | cons e es ih => simp only [List.foldl_cons, State.entry_withPorts, State.takeEntry_withPorts, ih]

@[simp] theorem State.takeDown_withPorts (n p : Nat) (chs : List Nat) :
    (s.withPorts q l).takeDown n p chs = (s.takeDown n p chs).withPorts q l := by
  unfold State.takeDown
  induction chs generalizing s with
  | nil => rfl
  | cons ch chs ih => simp only [List.foldl_cons, State.takeEntry_withPorts, ih]

@[simp] theorem State.fastComplete_withPorts :
    (s.withPorts q l).fastComplete = (s.fastComplete.1.withPorts q l, s.fastComplete.2) := by
  unfold State.fastComplete
  rw [State.withPorts_fades]
  cases s.fades <;> rfl

@[simp] theorem State.secureSlot_withPorts :
    (s.withPorts q l).secureSlot = (s.secureSlot.1.withPorts q l, s.secureSlot.2) := by
  unfold State.secureSlot
  rw [State.withPorts_fades, State.fastComplete_withPorts]
  by_cases h : Config.fadeSlots ≤ s.fades.length
  · simp only [if_pos h]
  · simp only [if_neg h]

@[simp] theorem State.complete_withPorts (f : Fade) : (s.withPorts q l).complete f = (s.complete f).withPorts q l := by
  unfold State.complete
  dsimp only
  split <;> rfl

/-- A HELD playback is resumed: its fades run and it is RUNNING (R88). -/
theorem State.resumePlayback_held {p : Nat} (h : (s.playback p).state = .held) : s.resumePlayback p =
    (s.setFades (s.fades.map fun f => if f.playback = p then { f with held := false } else f)).setPlayback p
      { s.playback p with state := .running } := if_pos h

theorem State.resumePlayback_other {p : Nat} (h : (s.playback p).state ≠ .held) : s.resumePlayback p = s := if_neg h

@[simp] theorem State.resumePlayback_withPorts (p : Nat) :
    (s.withPorts q l).resumePlayback p = (s.resumePlayback p).withPorts q l := by
  by_cases h : (s.playback p).state = .held
  · rw [s.resumePlayback_held h]; exact (s.withPorts q l).resumePlayback_held h
  · rw [s.resumePlayback_other h]; exact (s.withPorts q l).resumePlayback_other h

@[simp] theorem State.launch_withPorts (p num : Nat) (o : Option Nat) (k : Look) :
    (s.withPorts q l).launch p num o k = ((s.launch p num o k).1.withPorts q l, (s.launch p num o k).2) := by
  unfold State.launch
  simp only [State.secureSlot_withPorts, State.resumePlayback_withPorts, State.cancelFollow_withPorts, State.freeSlot_withPorts,
    State.withPorts_fades, State.setFades_withPorts, State.takeLook_withPorts, State.fade_withPorts, State.playback_withPorts,
    State.updateFade_withPorts, State.setPlayback_withPorts, State.complete_withPorts, State.rederive_withPorts,
    State.rederiveForced_withPorts]
  split <;> rfl

@[simp] theorem State.fireDue_withPorts (p : Nat) : (s.withPorts q l).fireDue p = (s.fireDue p).withPorts q l := by
  unfold State.fireDue State.fireFollow
  simp only [State.playback_withPorts, State.cancelFollow_withPorts, State.darkening_withPorts, State.missFollow_withPorts,
    State.rederive_withPorts, State.look_withPorts, State.withPorts_liveBank, State.launch_withPorts]
  split
  · rfl
  · split
    · split
      · rfl
      · split <;> rfl
    · rfl

end

theorem go_ignores : IgnoresPorts go := by
  intro ps s q l
  unfold go
  split
  · rename_i p n1 n0 present t1 t0
    generalize (if present = 0 then none else some (word t1 t0)) = time
    simp only [State.darkening_withPorts, State.look_withPorts, State.withPorts_liveBank, State.launch_withPorts,
      State.fireDue_withPorts]
    split
    · rfl
    · split
      · rfl
      · split
        · rfl
        · dsimp only
          split <;> rfl
  · rfl

theorem release_ignores : IgnoresPorts release := by
  intro ps s q l
  unfold release
  split
  · rename_i p t1 t0
    simp only [State.playback_withPorts, State.setPlayback_withPorts, State.qualifying_withPorts, State.secureSlot_withPorts,
      State.rederive_withPorts, State.rederiveForced_withPorts, State.freeSlot_withPorts, State.withPorts_fades,
      State.setFades_withPorts, State.takeDown_withPorts, State.complete_withPorts]
    split
    · rfl
    · split
      · rfl
      · split
        · rfl
        · split <;> rfl
  · rfl

theorem hold_ignores : IgnoresPorts hold := by
  intro ps s q l
  unfold hold
  split
  · rename_i p
    split
    · rfl
    · by_cases h : (s.playback p.toNat).state = .idle <;> simp [h]
  · rfl

theorem resume_ignores : IgnoresPorts resume := by
  intro ps s q l
  unfold resume
  split
  · rename_i p
    split
    · rfl
    · by_cases h : (s.playback p.toNat).state = .held <;> simp [h]
  · rfl

theorem stopLoop_ignores : IgnoresPorts stopLoop := by
  intro ps s q l
  unfold stopLoop
  split
  · split <;> rfl
  · rfl

theorem master_ignores : IgnoresPorts master := by
  intro ps s q l
  unfold master
  split
  · split <;> rfl
  · rfl

theorem deskClear_ignores : IgnoresPorts deskClear := by
  intro ps s q l
  unfold deskClear
  split <;> rfl

theorem changeover_ignores : IgnoresPorts changeover := by
  intro ps s q l
  unfold changeover
  split
  · rename_i b t1 t0
    split
    · rfl
    · by_cases hd : s.darkening = true
      · simp [hd]
      · by_cases hb : b.toNat = s.liveBank
        · simp [hd, hb]
        · by_cases ht : word t1 t0 = 0 <;> simp [hd, hb, ht] <;> rfl
  · rfl

/-! ### HOLD, RESUME, STOP-LOOP and MASTER (O43) -/

section
variable {s : State} {pb : Byte}

/-- The fades of a HELD playback are all held, so RESUME counts them all. -/
theorem State.FadesOk.held_count (h : s.FadesOk) {p : Nat} (hp : (s.playback p).state = .held) :
    (s.fades.countP fun f => f.playback == p && f.held) = s.fades.countP fun f => f.playback == p := by
  refine List.countP_congr fun f hf => ?_
  simp only [Bool.and_eq_true, beq_iff_eq, and_iff_left_iff_imp]
  rintro rfl
  exact (h.held f hf).mpr hp

theorem hold_serves (hp : playbackOk pb.toNat = true) :
    ((s.playback pb.toNat).state = .idle → s.Serves .hold .hold [pb] (.done 0 []) s.SameButPorts) ∧
    ((s.playback pb.toNat).state ≠ .idle →
      s.Serves .hold .hold [pb] (.done (s.fades.countP fun f => f.playback == pb.toNat) []) fun t => s.SameButFadeEngine t ∧
        t.fades = s.fades.map (fun f => if f.playback = pb.toNat then { f with held := true } else f) ∧
        ∀ p', t.playback p' = if p' = pb.toNat then { s.playback pb.toNat with state := .held } else s.playback p') := by
  refine ⟨fun hi => State.serves_unchanged rfl hold_ignores (by simp [hold, hp, hi]), fun hi => ?_⟩
  refine State.serves_of_perform rfl hold_ignores (by simp only [hold, hp, hi, Bool.not_true, Bool.false_eq_true, if_false]; rfl)
    (by rfl) fun t ht => ?_
  rw [ht.eq]
  exact ⟨rfl, rfl, fun p' => by simp [eq_comm (a := p')]⟩

theorem resume_serves (h : s.FadesOk) (hp : playbackOk pb.toNat = true) :
    ((s.playback pb.toNat).state ≠ .held → s.Serves .resume .resume [pb] (.done 0 []) s.SameButPorts) ∧
    ((s.playback pb.toNat).state = .held →
      s.Serves .resume .resume [pb] (.done (s.fades.countP fun f => f.playback == pb.toNat) []) fun t => s.SameButFadeEngine t ∧
        t.fades = s.fades.map (fun f => if f.playback = pb.toNat then { f with held := false } else f) ∧
        ∀ p', t.playback p' = if p' = pb.toNat then { s.playback pb.toNat with state := .running } else s.playback p') := by
  refine ⟨fun hh => State.serves_unchanged rfl resume_ignores (by simp [resume, hp, hh]), fun hh => ?_⟩
  refine State.serves_of_perform rfl resume_ignores
    (by simp only [resume, hp, hh, Bool.not_true, Bool.false_eq_true, if_false, if_true, h.held_count hh, s.resumePlayback_held hh]; rfl)
    (by rfl) fun t ht => ?_
  rw [ht.eq]
  exact ⟨rfl, rfl, fun p' => by simp [eq_comm (a := p')]⟩

end

/-- Settles O43: each of the four is its one change of the fade list and of one playback. -/
theorem hold_resume_stop_loop_master : Obligations.Hold_resume_stop_loop_master := by
  refine ⟨fun s pb h hp => ?_, fun s pb l1 l0 hp => ⟨?_, ?_⟩, fun s pb l1 l0 hp => ⟨?_, ?_, ?_, ?_⟩⟩
  · exact ⟨(hold_serves hp).1, (hold_serves hp).2, (resume_serves h hp).1, (resume_serves h hp).2⟩
  · refine State.serves_of_perform rfl stopLoop_ignores (by simp only [stopLoop, hp, Bool.not_true, Bool.false_eq_true, if_false]; rfl)
      (by rfl) fun t ht => ?_
    rw [ht.eq]
    exact ⟨rfl, rfl, rfl⟩
  · refine State.serves_of_perform rfl master_ignores (by simp only [master, hp, Bool.not_true, Bool.false_eq_true, if_false]; rfl)
      (by rfl) fun t ht => ?_
    rw [ht.eq]
    refine ⟨rfl, rfl, fun p => ?_⟩
    rw [State.playback_withPorts, State.playback_setPlayback]
    by_cases e : p = pb.toNat
    · subst e; simp [clampLevel]
    · rw [if_neg (Ne.symm e), if_neg e]
  · exact State.serves_unchanged rfl hold_ignores (by simp [hold, hp])
  · exact State.serves_unchanged rfl resume_ignores (by simp [resume, hp])
  · exact State.serves_unchanged rfl stopLoop_ignores (by simp [stopLoop, hp])
  · exact State.serves_unchanged rfl master_ignores (by simp [master, hp])

/-! ### Fast completion (O41) -/

section
variable {s : State} {f : Fade} {rest : List Fade}

/-- Fast completion of the oldest fade, its record taken apart (R83). -/
theorem State.fastComplete_cons (h : s.fades = f :: rest) : s.fastComplete =
    (((s.setFades rest).mapEntries f.playback (Entry.finish f.number)).setPlayback f.playback
      { ((s.setFades rest).mapEntries f.playback (Entry.finish f.number)).playback f.playback with forced := true },
      some (f.number, f.playback)) := by
  unfold State.fastComplete
  rw [h]

theorem State.playback_fastComplete (h : s.fades = f :: rest) (p : Nat) : s.fastComplete.1.playback p =
    if p = f.playback then
      { s.playback p with
        forced := true, entries := (s.playback p).entries.mapVals Entry.initial fun _ => Entry.finish f.number }
    else s.playback p := by
  rw [State.fastComplete_cons h]
  by_cases e : p = f.playback
  · subst e; simp [State.mapEntries]
  · simp [State.mapEntries, e, Ne.symm e]

theorem State.entry_fastComplete (h : s.fades = f :: rest) (p ch : Nat) : s.fastComplete.1.entry p ch =
    if p = f.playback ∧ (s.entry p ch).owner = some f.number then
      { s.entry p ch with level := (s.entry p ch).target, owner := none } else s.entry p ch := by
  unfold State.entry
  rw [State.playback_fastComplete h]
  by_cases e : p = f.playback
  · simp only [e, if_true, true_and]
    exact Tbl.get_mapVals _ (fun _ => Entry.finish f.number) _ _ (Entry.finish_initial _)
  · simp [e]

theorem State.fastComplete_fades (h : s.fades = f :: rest) : s.fastComplete.1.fades = rest := by
  rw [State.fastComplete_cons h]; rfl

end

/-- Settles O41: the slot is secured by `fastComplete`, whose parts are those of R83. -/
theorem oldest_fade_is_fast_completed : Obligations.Oldest_fade_is_fast_completed := by
  refine ⟨fun s => rfl, fun s f rest h => ⟨?_, ?_, State.entry_fastComplete h, fun p => ?_⟩⟩
  · rw [State.fastComplete_cons h]
  · rw [State.fastComplete_cons h]; rfl
  · rw [State.playback_fastComplete h]
    by_cases e : p = f.playback <;> simp [e]

/-! ### Desk clear (O44) -/

section
variable {s : State}

/-- From `s` to `t` a desk clear was performed (R92). -/
structure State.Cleared (s t : State) : Prop where
  rest : t = { s with playbacks := t.playbacks, fades := [], captures := [], ports := t.ports, servedLast := t.servedLast }
  playbacks : ∀ p, (t.playback p).state = .idle ∧ (t.playback p).pendingFollow = none ∧
    (t.playback p).master = (s.playback p).master ∧ (t.playback p).lastLook = (s.playback p).lastLook ∧
    (t.playback p).followMissed = (s.playback p).followMissed ∧ (t.playback p).forced = (s.playback p).forced
  entries : ∀ p ch, (t.entry p ch).level = (s.entry p ch).level ∧ (t.entry p ch).owner = none

theorem State.playback_mapPlaybacks (s : State) {f : Playback → Playback} (h : f Playback.initial = Playback.initial) (p : Nat) :
    (s.mapPlaybacks f).playback p = f (s.playback p) := Tbl.get_mapVals Playback.initial (fun _ => f) s.playbacks p h

theorem State.playback_deskClear (s : State) (p : Nat) : s.deskClear.playback p = (s.playback p).deskClear :=
  State.playback_mapPlaybacks (s.setFades []) rfl p

theorem State.entry_deskClear (s : State) (p ch : Nat) : s.deskClear.entry p ch = (s.entry p ch).disown := by
  unfold State.entry
  rw [State.playback_deskClear]
  exact Tbl.get_mapVals Entry.initial (fun _ => Entry.disown) _ _ rfl

/-- A desk clear as performed is one, whatever the ports. -/
theorem State.deskClear_cleared {t : State} (h : s.deskClear.SameButPorts t) : s.Cleared t := by
  rw [h.eq]
  refine ⟨rfl, fun p => ?_, fun p ch => ?_⟩
  · rw [State.playback_withPorts, State.playback_deskClear]; exact ⟨rfl, rfl, rfl, rfl, rfl, rfl⟩
  · rw [State.entry_withPorts, State.entry_deskClear]; exact ⟨rfl, rfl⟩

/-- Outside DARKENING the event takes a DESK-CLEAR as any other request. -/
theorem exec_deskClear_of_idle (h : s.darkening = false) : exec .deskClear s = .next (s.serve .deskClear deskClear) := by
  show execDeskClear s = _
  unfold execDeskClear
  cases hn : s.nextRequest with
  | none => simp [State.serve, hn]
  | some pr => simp [h]

/-- The held request of a port is the one performed next, where the other port holds none or was served last (R190). -/
theorem State.heldPort_eq (h : s.darkening = false) {p : Port} (hp : (s.port p).holding = true)
    (ho : (s.port (otherPort p)).holding = false ∨ s.servedLast = some (otherPort p)) : s.heldPort = some p := by
  unfold State.heldPort
  cases p <;> rcases ho with ho | ho <;> simp only [otherPort] at ho <;> simp only [h, hp, ho, Bool.false_eq_true, if_false]
  · cases (s.port .p2).holding <;> simp
  · cases (s.port .p1).holding <;> simp

/-- A held DESK-CLEAR of the port that may be served is performed, answered and leaves its queue (R93, R130, R190). -/
theorem exec_heldDeskClear {p : Port} (hp : s.heldPort = some p) {r : Request} {rest : List Request} (hq : (s.port p).queue = r :: rest)
    (hps : r.params = []) :
    ∃ t, exec .heldDeskClearPerformed s = .next t ∧ s.Cleared t ∧ t.servedLast = s.servedLast ∧
      t.port (otherPort p) = s.port (otherPort p) ∧
      t.port p = { (s.port p).answering (r.answered (.done s.fades.length [])) with queue := rest, headHeld := false } := by
  have hx : exec .heldDeskClearPerformed s =
      .next ((s.popQueue p).deskClear.answer p r (.done (s.popQueue p).fades.length [])) := by
    simp only [exec, execHeldDeskClearPerformed, hp, hq, hps]
    rfl
  refine ⟨_, hx, State.deskClear_cleared (s := s) ?_, ?_, ?_, ?_⟩
  · cases p <;> rfl
  · cases p <;> rfl
  · cases p <;> rfl
  · cases p <;> simp only [State.port] at hq <;>
      simp [State.answer, State.produce, State.deskClear, State.mapPlaybacks, State.popQueue, State.setPort, State.port, State.setFades,
        State.setCaptures, PortState.answering, Request.answered, hq]

end

/-- Settles O44: a performed desk clear is `State.deskClear`; in DARKENING the request is held. -/
theorem desk_clear : Obligations.Desk_clear := by
  refine ⟨fun s idle => ?_, fun s p sq dark => ⟨fun hn => ?_, ?_⟩⟩
  · have hd : s.darkening = false := by simp [State.darkening, idle]
    refine ⟨State.serves_of_perform (exec_deskClear_of_idle hd) deskClear_ignores (u := s.deskClear) rfl rfl fun t ht => ?_, ?_⟩
    · obtain ⟨h1, h2, h3⟩ := State.deskClear_cleared ht
      exact ⟨h1, h2, h3⟩
    · intro p r rest hq hh hps ho
      have holds : (s.port p).holding = true := by simp [PortState.holding, hq, hh]
      have hp : s.heldPort = some p := by
        refine State.heldPort_eq hd holds ?_
        rcases ho with ho | ho | ho
        · exact .inl (by simp [PortState.holding, ho])
        · exact .inl (by simp [PortState.holding, ho])
        · exact .inr ho
      obtain ⟨t, hx, hc, hrest⟩ := exec_heldDeskClear hp hq hps
      exact ⟨t, hx, ⟨hc.rest, hc.playbacks, hc.entries⟩, hrest⟩
  · have hd : s.darkening = true := by simp [State.darkening, dark]
    have hx : exec .deskClear s =
        .next (((s.closeEarly p).setPort p { (s.closeEarly p).port p with headHeld := true }).serving p) := by
      simp [exec, execDeskClear, hn, hd]
    refine ⟨_, hx, ((s.closeEarly_same p).trans (State.setPort_same ..)).trans rfl, rfl, ?_, ?_⟩
    · rw [State.port_serving, State.setPort_other, State.closeEarly_eq, State.setPort_other]
    · simp [State.closeEarly_eq]
  · have hd : s.darkening = true := by simp [State.darkening, dark]
    simp [exec, execHeldDeskClearPerformed, State.heldPort, hd]

/-! ### CHANGEOVER and the checks of GO (O51) -/

/-- The numbers a GO names are in range (R71). -/
theorem go_inRange {b n1 n0 present : Byte} : (playbackOk b.toNat && lookOk (word n1 n0) && (present == 0 || present == 1)) = true ↔
    playbackOk b.toNat = true ∧ lookOk (word n1 n0) = true ∧ (present = 0 ∨ present = 1) := by
  simp only [Bool.and_eq_true, Bool.or_eq_true, beq_iff_eq, and_assoc]

/-- Settles O51: each request's checks in their order, and an acceptance by its dark time. -/
theorem changeover_and_go_checks : Obligations.Changeover_and_go_checks := by
  intro s b t1 t0 n1 n0 present
  have idleDark (h : s.changeover.phase = .idle) : s.darkening = false := by simp [State.darkening, h]
  have dark (h : s.changeover.phase = .darkening) : s.darkening = true := by simp [State.darkening, h]
  refine ⟨fun hb hi hne => ?_, fun hb => ?_, fun hb hd => ?_, fun hb hi he => ?_, fun hr => ?_, fun hr hd => ?_, fun hr hi hl => ?_⟩
  · refine State.serves_of_perform rfl changeover_ignores (u := if word t1 t0 = 0 then
      (s.setChangeover ⟨.darkening, some b.toNat, word t1 t0, 0, 4096, false⟩).switchOver
      else s.setChangeover ⟨.darkening, some b.toNat, word t1 t0, 0, 4096, false⟩)
      (by simp [changeover, hb, idleDark hi, hne, enc1, b.isLt]) (by split <;> rfl) fun t ht => ⟨fun ht0 => ?_, fun ht0 => ?_⟩
    · rw [if_neg ht0.ne'] at ht
      rw [ht.eq]
      rfl
    · rw [if_pos ht0] at ht
      rw [ht.eq]
      obtain ⟨hrest, hp, he⟩ := State.switchOver_switchedTo
        (s := s.setChangeover ⟨.darkening, some b.toNat, word t1 t0, 0, 4096, false⟩) (b := b.toNat) rfl
      exact ⟨rfl, hp, he⟩
  · exact State.serves_unchanged rfl changeover_ignores (by simp [changeover, hb])
  · exact State.serves_unchanged rfl changeover_ignores (by simp [changeover, hb, dark hd])
  · exact State.serves_unchanged rfl changeover_ignores (by simp [changeover, ← he, hb, idleDark hi])
  · rw [← go_inRange, Bool.not_eq_true] at hr
    exact State.serves_unchanged rfl go_ignores (by simp only [go, hr, Bool.not_false, if_true])
  · rw [← go_inRange] at hr
    exact State.serves_unchanged rfl go_ignores (by simp only [go, hr, dark hd, Bool.not_true, Bool.false_eq_true, if_false, if_true])
  · rw [← go_inRange] at hr
    exact State.serves_unchanged rfl go_ignores (by simp only [go, hr, idleDark hi, hl, Bool.not_true, Bool.false_eq_true, if_false])

end Sys2Proof.Machine
end

section
/-!
SUPPORT. The fade engine's operations, each once more: what it leaves of each playback, of each entry and of the fade list.
-/

namespace Sys2Proof

variable {α : Type}

/-- The listed values counted are a sum over the table. -/
theorem Tbl.countP_eq_sum (t : Tbl α) (p : α → Bool) : (t.countP fun e => p e.2) = t.sum fun v => if p v then 1 else 0 := by
  induction t with
  | nil => rfl
  | cons e t ih => rw [List.countP_cons, Tbl.sum_cons, ih, Nat.add_comm]

end Sys2Proof

namespace Sys2Proof.Machine

/-! ### Playbacks -/

/-- A playback whose state is derived at the end of an event, with a fade or without (R64). -/
def Playback.derived (b : Playback) (fade : Bool) : Playback :=
  { b with state := if !fade && b.pendingFollow.isNone then .idle else if b.state = .held then .held else .running }

theorem Playback.derived_derived (b : Playback) (fade : Bool) : (b.derived fade).derived fade = b.derived fade := by
  unfold Playback.derived
  cases fade <;> cases b.pendingFollow <;> cases b.state <;> rfl

/-- A playback derived is HELD only if it was, and not without a fade and a pending follow. -/
theorem Playback.derived_held {b : Playback} {fade : Bool} :
    (b.derived fade).state = .held ↔ b.state = .held ∧ (fade = true ∨ b.pendingFollow ≠ none) := by
  unfold Playback.derived
  cases fade <;> cases b.pendingFollow <;> cases b.state <;> simp

theorem Playback.derived_idle {b : Playback} {fade : Bool} :
    (b.derived fade).state = .idle ↔ fade = false ∧ b.pendingFollow = none := by
  unfold Playback.derived
  cases fade <;> cases b.pendingFollow <;> cases b.state <;> simp

/-- Where IDLE goes with having nothing to run, as R64 has it, deriving the state changes nothing that settling does not. -/
theorem Playback.derived_eq_settled {b : Playback} {fade : Bool} (h : b.state ≠ .idle) : b.derived fade = b.settled fade := by
  unfold Playback.derived Playback.settled
  cases hs : b.state with
  | idle => exact absurd hs h
  | running => simp
  | held => simp

section
variable (s : State)

theorem State.playback_mapEntries (p q : Nat) (f : Entry → Entry) : (s.mapEntries p f).playback q =
    if p = q then { s.playback q with entries := (s.playback q).entries.mapVals Entry.initial fun _ => f } else s.playback q := by
  unfold State.mapEntries
  rw [State.playback_setPlayback]
  split
  · rename_i e; rw [e]
  · rfl

theorem State.playback_setEntry (p q ch : Nat) (v : Entry) : (s.setEntry p ch v).playback q =
    if p = q then { s.playback q with entries := (s.playback q).entries.set Entry.initial ch v } else s.playback q := by
  unfold State.setEntry
  rw [State.playback_setPlayback]
  split
  · rename_i e; rw [e]
  · rfl

theorem State.playback_rederive (p q : Nat) : (s.rederive p).playback q =
    if p = q then (s.playback q).derived (s.hasFade q) else s.playback q := by
  unfold State.rederive
  rw [State.playback_setPlayback]
  split
  · rename_i e; subst e; rfl
  · rfl

@[simp] theorem State.rederive_fades (p : Nat) : (s.rederive p).fades = s.fades := rfl
@[simp] theorem State.entry_rederive (p q ch : Nat) : (s.rederive p).entry q ch = s.entry q ch := by
  unfold State.entry
  rw [State.playback_rederive]
  split <;> rfl

@[simp] theorem State.rederiveForced_fades (x : Option (Nat × Nat)) : (s.rederiveForced x).fades = s.fades := by cases x <;> rfl

theorem State.playback_rederiveForced (x : Option (Nat × Nat)) (q : Nat) : (s.rederiveForced x).playback q =
    if x.map Prod.snd = some q then (s.playback q).derived (s.hasFade q) else s.playback q := by
  cases x with
  | none => rfl
  | some x =>
    simp only [State.rederiveForced, State.playback_rederive, Option.map_some, Option.some.injEq]

@[simp] theorem State.entry_rederiveForced (x : Option (Nat × Nat)) (q ch : Nat) : (s.rederiveForced x).entry q ch = s.entry q ch := by
  cases x with
  | none => rfl
  | some x => exact s.entry_rederive ..

theorem State.playback_cancelFollow (p q : Nat) : (s.cancelFollow p).playback q =
    if p = q then { s.playback q with pendingFollow := none } else s.playback q := by
  unfold State.cancelFollow
  rw [State.playback_setPlayback]
  split
  · rename_i e; subst e; rfl
  · rfl

@[simp] theorem State.cancelFollow_fades (p : Nat) : (s.cancelFollow p).fades = s.fades := rfl

/-- Lifting a hold leaves a playback that is not HELD as it is (R72, R88). -/
theorem State.playback_resumePlayback (p q : Nat) : (s.resumePlayback p).playback q =
    if p = q ∧ (s.playback q).state = .held then { s.playback q with state := .running } else s.playback q := by
  by_cases h : (s.playback p).state = .held
  · rw [s.resumePlayback_held h, State.playback_setPlayback]
    by_cases e : p = q
    · subst e; simp [h]
    · simp [e]
  · rw [s.resumePlayback_other h, if_neg]
    rintro ⟨rfl, h'⟩
    exact h h'

theorem State.playback_secureSlot (q : Nat) : ∃ es, s.secureSlot.1.playback q =
    { s.playback q with forced := (s.playback q).forced || s.secureSlot.2.map Prod.snd == some q, entries := es } := by
  unfold State.secureSlot
  split
  · cases h : s.fades with
    | nil => simp only [State.fastComplete, h]; exact ⟨_, by simp; rfl⟩
    | cons f rest =>
      rw [State.playback_fastComplete h, State.fastComplete_cons h]
      by_cases e : q = f.playback
      · subst e; exact ⟨_, by simp; rfl⟩
      · have hne : (f.playback == q) = false := by simp [Ne.symm e]
        exact ⟨(s.playback q).entries, by simp [e, hne]⟩
  · exact ⟨_, by simp; rfl⟩

/-! ### Completion -/

theorem State.complete_fades (f : Fade) : (s.complete f).fades = s.fades.filter fun g => g.number ≠ f.number := by
  unfold State.complete
  cases f.follow <;> rfl

/-- A completed fade's playback: its entries are finished, and the fade's follow, if it has one, waits (R79). -/
theorem State.playback_complete (f : Fade) (q : Nat) : (s.complete f).playback q =
    if f.playback = q then { s.playback q with
      pendingFollow := (f.follow.map fun w => ⟨w.look, w.delay⟩).or (s.playback q).pendingFollow
      entries := (s.playback q).entries.mapVals Entry.initial fun _ => Entry.finish f.number }
    else s.playback q := by
  have done : (((s.mapEntries f.playback (Entry.finish f.number)).removeFade f.number).playback q) =
      (s.mapEntries f.playback (Entry.finish f.number)).playback q := rfl
  unfold State.complete
  cases f.follow with
  | none =>
    dsimp only
    rw [done, State.playback_mapEntries]
    rfl
  | some w =>
    dsimp only
    rw [State.playback_setPlayback]
    split
    · rename_i e
      subst e
      rw [done, State.playback_mapEntries, if_pos rfl]
      rfl
    · rename_i e
      rw [done, State.playback_mapEntries, if_neg e]

theorem State.entry_complete (f : Fade) (q ch : Nat) : (s.complete f).entry q ch =
    if f.playback = q then Entry.finish f.number (s.entry q ch) else s.entry q ch := by
  unfold State.entry
  rw [State.playback_complete]
  split
  · exact Tbl.get_mapVals Entry.initial (fun _ => Entry.finish f.number) _ _ rfl
  · rfl

/-! ### Takeover -/

/-- An entry taken over by a fade, from the level at which it stands (R73). -/
def Entry.taken (n target : Nat) (part : Part) (e : Entry) : Entry := ⟨e.level, some n, e.level, target, part⟩

/-- A takeover writes one entry of its playback. -/
theorem State.playback_takeEntry (n p ch target : Nat) (part : Part) (q : Nat) : (s.takeEntry n p ch target part).playback q =
    if p = q then
      { s.playback q with entries := (s.playback q).entries.set Entry.initial ch ((s.entry q ch).taken n target part) }
    else s.playback q := by
  have set (u : State) (hu : ∀ q, u.playback q = s.playback q) :
      (u.setEntry p ch ((s.entry p ch).taken n target part)).playback q = if p = q then
        { s.playback q with entries := (s.playback q).entries.set Entry.initial ch ((s.entry q ch).taken n target part) }
      else s.playback q := by
    rw [State.playback_setEntry, hu]
    split
    · rename_i e; rw [e]
    · rfl
  unfold State.takeEntry
  dsimp only
  split
  · exact set s fun _ => rfl
  · exact set (s.dropClaim _) fun _ => rfl

theorem State.playback_takeEntry_other {n p q ch target : Nat} {part : Part} (h : p ≠ q) :
    (s.takeEntry n p ch target part).playback q = s.playback q := by rw [State.playback_takeEntry, if_neg h]

/-- One claim of a takeover: a channel with the target and the part it takes (R73, R85). -/
structure Claim where
  channel : Nat
  target : Nat
  part : Part

/-- The takeover of claims one after the other. -/
def State.takeAll (s : State) (n p : Nat) (xs : List Claim) : State :=
  xs.foldl (fun s x => s.takeEntry n p x.channel x.target x.part) s

@[simp] theorem State.takeAll_nil (n p : Nat) : s.takeAll n p [] = s := rfl
@[simp] theorem State.takeAll_cons (n p : Nat) (x : Claim) (xs : List Claim) :
    s.takeAll n p (x :: xs) = (s.takeEntry n p x.channel x.target x.part).takeAll n p xs := rfl

theorem State.takeDown_eq (n p : Nat) (chs : List Nat) : s.takeDown n p chs = s.takeAll n p (chs.map fun ch => ⟨ch, 0, .down⟩) := by
  unfold State.takeDown State.takeAll
  rw [List.foldl_map]

/-- No takeover moves a level. -/
theorem State.level_takeEntry (n p ch target : Nat) (part : Part) (q ch' : Nat) :
    ((s.takeEntry n p ch target part).entry q ch').level = (s.entry q ch').level := by
  rw [State.entry_takeEntry]
  split
  · rename_i e; obtain ⟨rfl, rfl⟩ := e; rfl
  · rfl

/-- The claims a look makes on a playback as it stands: each part by the level its entry stands at (R73). -/
def State.claims (s : State) (p : Nat) (es : List LookEntry) : List Claim :=
  es.map fun e => ⟨e.channel, e.level, partOf (s.entry p e.channel).level e.level⟩

theorem State.takeLook_eq (n p : Nat) (es : List LookEntry) : s.takeLook n p es = s.takeAll n p (s.claims p es) := by
  have h (t : State) (ht : ∀ ch, (t.entry p ch).level = (s.entry p ch).level) :
      t.takeLook n p es = t.takeAll n p (s.claims p es) := by
    unfold State.takeLook State.claims
    induction es generalizing t with
    | nil => rfl
    | cons e es ih =>
      rw [List.foldl_cons, List.map_cons, State.takeAll_cons, ht]
      exact ih _ fun ch => (t.level_takeEntry ..).trans (ht ch)
  exact h s fun _ => rfl

theorem State.playback_takeAll_other {n p q : Nat} (xs : List Claim) (h : p ≠ q) : (s.takeAll n p xs).playback q = s.playback q := by
  induction xs generalizing s with
  | nil => rfl
  | cons x xs ih => rw [State.takeAll_cons, ih, State.playback_takeEntry_other s h]

/-- Of its own playback a takeover writes the entries alone. -/
theorem State.playback_takeAll (n p : Nat) (xs : List Claim) :
    ∃ es, (s.takeAll n p xs).playback p = { s.playback p with entries := es } := by
  induction xs generalizing s with
  | nil => exact ⟨_, rfl⟩
  | cons x xs ih =>
    obtain ⟨es, h⟩ := ih (s.takeEntry n p x.channel x.target x.part)
    exact ⟨es, by rw [State.takeAll_cons, h, State.playback_takeEntry, if_pos rfl]⟩

theorem State.entry_takeAll_other {n p : Nat} {xs : List Claim} {q ch : Nat} (h : p = q → ∀ x ∈ xs, x.channel ≠ ch) :
    (s.takeAll n p xs).entry q ch = s.entry q ch := by
  induction xs generalizing s with
  | nil => rfl
  | cons x xs ih =>
    rw [State.takeAll_cons, ih _ fun e y hy => h e y (List.mem_cons_of_mem _ hy), State.entry_takeEntry, if_neg]
    rintro ⟨rfl, rfl⟩
    exact h rfl x List.mem_cons_self rfl

/-- An entry claimed: owned by the fade, from the level at which it stands, with the claim's target and part (R73). -/
theorem State.entry_takeAll {n p : Nat} {xs : List Claim} (hn : (xs.map Claim.channel).Nodup) {x : Claim} (hx : x ∈ xs) :
    (s.takeAll n p xs).entry p x.channel =
      ⟨(s.entry p x.channel).level, some n, (s.entry p x.channel).level, x.target, x.part⟩ := by
  induction xs generalizing s with
  | nil => cases hx
  | cons y xs ih =>
    obtain ⟨hy, hn⟩ := List.nodup_cons.mp hn
    rw [State.takeAll_cons]
    rcases List.mem_cons.mp hx with rfl | hmem
    · rw [State.entry_takeAll_other _ fun _ z hz e => hy (List.mem_map.mpr ⟨z, hz, e⟩), State.entry_takeEntry, if_pos ⟨rfl, rfl⟩]
    · rw [ih _ hn hmem, State.level_takeEntry]

end

end Sys2Proof.Machine
end

section
/-!
SUPPORT. A GO's launch: its stages, and the fields it leaves its playback with.
-/

namespace Sys2Proof.Machine

/-! ### The stages of a launch -/

section
variable (s : State) (p num : Nat) (o : Option Nat) (l : Look)

/-- A playback made ready for a new fade: a slot secured, a hold lifted, the pending follow cancelled (R72). -/
def State.readied : State := (s.secureSlot.1.resumePlayback p).cancelFollow p

/-- The new fade in its slot, with the look's channels taken over by it (R73). -/
def State.taking : State :=
  ((s.readied p).setFades ((s.readied p).fades ++ [newFade (s.readied p).freeSlot p num o l])).takeLook (s.readied p).freeSlot p
    l.entries

/-- The new fade's completion count over the entries it took (R70). -/
def State.launchCount : Nat :=
  (newFade (s.readied p).freeSlot p num o l).countOver ((s.taking p num o l).playback p).entries

/-- The new fade with that count. -/
def State.launchFade : Fade :=
  { ((s.taking p num o l).fade (s.readied p).freeSlot).getD (newFade (s.readied p).freeSlot p num o l) with
    completion := s.launchCount p num o l }

/-- The fade counted, and the look the playback's last (R72, R74). -/
def State.counted : State :=
  ((s.taking p num o l).updateFade (s.launchFade p num o l)).setPlayback p
    { (s.taking p num o l).playback p with lastLook := some num }

/-- A launch completes at once where the new fade has no time to run, and else the fade runs (R74). -/
theorem State.launch_eq : s.launch p num o l =
    if s.launchCount p num o l = 0 then
      ((((s.counted p num o l).complete (s.launchFade p num o l)).rederive p).rederiveForced s.secureSlot.2,
        ⟨none, 0, s.secureSlot.2⟩)
    else
      (((s.counted p num o l).rederive p).rederiveForced s.secureSlot.2,
        ⟨some (s.readied p).freeSlot, s.launchCount p num o l, s.secureSlot.2⟩) := by
  rfl

end

section
variable {s : State} {p num : Nat} {o : Option Nat} {l : Look}

theorem State.secureSlot_length (h : s.fades.length ≤ Config.fadeSlots) : s.secureSlot.1.fades.length < Config.fadeSlots := by
  unfold State.secureSlot
  split
  · rename_i hfull
    cases hf : s.fades with
    | nil => simp [hf] at hfull
    | cons f rest =>
      rw [State.fastComplete_fades hf]
      rw [hf] at h
      exact Nat.lt_of_succ_le h
  · exact Nat.lt_of_not_le ‹_›

theorem State.readied_numbers (s : State) (p : Nat) :
    (s.readied p).fades.map Fade.number = s.secureSlot.1.fades.map Fade.number := by
  unfold State.readied
  rw [State.cancelFollow_fades]
  by_cases h : (s.secureSlot.1.playback p).state = .held
  · rw [State.resumePlayback_held _ h, State.setPlayback_fades, State.setFades_fades, List.map_map]
    refine List.map_congr_left fun f _ => ?_
    simp only [Function.comp_apply]
    split <;> rfl
  · rw [State.resumePlayback_other _ h]

/-- The slot found is free: of at most 48 fades one is fast-completed (R72). -/
theorem State.readied_free (h : s.fades.length ≤ Config.fadeSlots) (p : Nat) : (s.readied p).fade (s.readied p).freeSlot = none := by
  refine State.freeSlot_free _ ?_
  rw [← List.length_map (f := Fade.number), State.readied_numbers, List.length_map]
  exact State.secureSlot_length h

/-- A takeover changes no more of a fade than its owned count. -/
theorem State.mem_takeEntry_fades {n q ch target : Nat} {part : Part} {g : Fade} (h : g ∈ (s.takeEntry n q ch target part).fades) :
    ∃ f ∈ s.fades, ∃ k, g = { f with owned := k } := by
  have add {u : State} (h : g ∈ (u.addClaim n).fades) : ∃ f ∈ u.fades, ∃ k, g = { f with owned := k } := by
    obtain ⟨f, hf, rfl⟩ := List.mem_map.mp h
    refine ⟨f, hf, ?_⟩
    split
    · exact ⟨_, rfl⟩
    · exact ⟨f.owned, rfl⟩
  unfold State.takeEntry at h
  dsimp only at h
  split at h
  · exact add h
  · obtain ⟨f, hf, k, rfl⟩ := add h
    obtain ⟨f', hf', e⟩ := List.mem_filterMap.mp hf
    refine ⟨f', hf', k, ?_⟩
    split at e
    · split at e <;> cases e
      rfl
    · cases e; rfl

theorem State.mem_takeAll_fades {n q : Nat} {xs : List Claim} {g : Fade} (h : g ∈ (s.takeAll n q xs).fades) :
    ∃ f ∈ s.fades, ∃ k, g = { f with owned := k } := by
  induction xs generalizing s with
  | nil => exact ⟨g, h, g.owned, rfl⟩
  | cons x xs ih =>
    obtain ⟨f, hf, k, rfl⟩ := ih h
    obtain ⟨f', hf', k', rfl⟩ := State.mem_takeEntry_fades hf
    exact ⟨f', hf', k, rfl⟩

/-- The fade counted is the new one. -/
theorem State.launchFade_eq (h : s.fades.length ≤ Config.fadeSlots) : ∃ k, s.launchFade p num o l =
    { newFade (s.readied p).freeSlot p num o l with owned := k, completion := s.launchCount p num o l } := by
  unfold State.launchFade
  cases hf : (s.taking p num o l).fade (s.readied p).freeSlot with
  | none => exact ⟨_, rfl⟩
  | some g =>
    obtain ⟨hmem, hnum⟩ := State.fade_some _ hf
    unfold State.taking at hmem
    rw [State.takeLook_eq] at hmem
    obtain ⟨f, hold, k, rfl⟩ := State.mem_takeAll_fades hmem
    rcases List.mem_append.mp hold with hold | hold
    · exact absurd hnum ((State.fade_none _).mp (State.readied_free h p) f hold)
    · exact ⟨k, by rw [List.mem_singleton.mp hold]; rfl⟩

/-! ### What a launch leaves of the playbacks -/

theorem State.hasFade_congr {s t : State} (h : t.fades = s.fades) (q : Nat) : t.hasFade q = s.hasFade q := by
  unfold State.hasFade; rw [h]

theorem State.playback_readied_other {q : Nat} (h : p ≠ q) : (s.readied p).playback q = s.secureSlot.1.playback q := by
  rw [State.readied, State.playback_cancelFollow, if_neg h, State.playback_resumePlayback, if_neg fun e => h e.1]

theorem State.playback_readied (s : State) (p : Nat) : (s.readied p).playback p = { s.secureSlot.1.playback p with
    pendingFollow := none
    state := if (s.secureSlot.1.playback p).state = .held then .running else (s.secureSlot.1.playback p).state } := by
  rw [State.readied, State.playback_cancelFollow, if_pos rfl, State.playback_resumePlayback]
  by_cases h : (s.secureSlot.1.playback p).state = .held
  · simp [h]
  · simp [h]

theorem State.playback_counted_other {q : Nat} (h : p ≠ q) : (s.counted p num o l).playback q = s.secureSlot.1.playback q := by
  rw [State.counted, State.playback_setPlayback, if_neg h]
  refine Eq.trans ?_ (State.playback_readied_other h)
  show (s.taking p num o l).playback q = _
  rw [State.taking, State.takeLook_eq, State.playback_takeAll_other _ _ h]
  rfl

theorem State.playback_counted (s : State) (p num : Nat) (o : Option Nat) (l : Look) : ∃ es, (s.counted p num o l).playback p =
    { s.secureSlot.1.playback p with
      pendingFollow := none, lastLook := some num, entries := es
      state := if (s.secureSlot.1.playback p).state = .held then .running else (s.secureSlot.1.playback p).state } := by
  obtain ⟨es, h⟩ := State.playback_takeAll ((s.readied p).setFades ((s.readied p).fades ++ [newFade (s.readied p).freeSlot p num o l]))
    (s.readied p).freeSlot p (State.claims _ p l.entries)
  refine ⟨es, ?_⟩
  rw [State.counted, State.playback_setPlayback, if_pos rfl, State.taking, State.takeLook_eq, h, State.playback_setFades,
    State.playback_readied]

/-- The playback itself: its hold lifted, the look its last, and the look's follow pending where nothing was left to run (R72, R74). -/
theorem State.playback_launch (h : s.fades.length ≤ Config.fadeSlots) : ∃ es, (s.launch p num o l).1.playback p =
    ({ s.secureSlot.1.playback p with
      pendingFollow := if s.launchCount p num o l = 0 then l.header.follow.map fun w => ⟨w.look, w.delay⟩ else none
      lastLook := some num
      entries := es
      state := if (s.secureSlot.1.playback p).state = .held then .running else (s.secureSlot.1.playback p).state
        } : Playback).derived ((s.launch p num o l).1.hasFade p) := by
  obtain ⟨k, hf⟩ := State.launchFade_eq (p := p) (num := num) (o := o) (l := l) h
  have hplay : (s.launchFade p num o l).playback = p := by rw [hf]; rfl
  have hfollow : (s.launchFade p num o l).follow = l.header.follow := by rw [hf]; rfl
  obtain ⟨es, hc⟩ := s.playback_counted p num o l
  have done (u : State) : ((u.rederive p).rederiveForced s.secureSlot.2).playback p =
      (u.playback p).derived (((u.rederive p).rederiveForced s.secureSlot.2).hasFade p) := by
    rw [State.playback_rederiveForced, State.playback_rederive, if_pos rfl,
      State.hasFade_congr (State.rederiveForced_fades (u.rederive p) s.secureSlot.2)]
    split
    · exact Playback.derived_derived ..
    · rfl
  rw [State.launch_eq]
  split
  · refine ⟨es.mapVals Entry.initial fun _ => Entry.finish (s.launchFade p num o l).number, ?_⟩
    rw [done, State.playback_complete, if_pos hplay, hc, hfollow, Option.or_none]
  · refine ⟨es, ?_⟩
    rw [done, hc]

end

end Sys2Proof.Machine
end

section
/-!
SUPPORT. States alike in their fades and entries: securing a slot makes the same of both.
-/

namespace Sys2Proof.Machine

/-- The fades are the same, and every playback lists the same entries. -/
structure State.Alike (s t : State) : Prop where
  fades : t.fades = s.fades
  entries : ∀ q, (t.playback q).entries = (s.playback q).entries

namespace State.Alike

variable {s t : State}

theorem entry (h : s.Alike t) (q ch : Nat) : t.entry q ch = s.entry q ch := by
  unfold State.entry; rw [h.entries]

theorem freeSlot (h : s.Alike t) : t.freeSlot = s.freeSlot := by
  unfold State.freeSlot State.fade
  rw [h.fades]

/-- Fast completion looks at the fades and changes entries one by one (R83). -/
theorem secureSlot (h : s.Alike t) : s.secureSlot.1.Alike t.secureSlot.1 ∧ t.secureSlot.2 = s.secureSlot.2 := by
  unfold State.secureSlot
  rw [h.fades]
  split
  · cases hs : s.fades with
    | nil =>
      have ht : t.fades = [] := h.fades.trans hs
      simp only [State.fastComplete, hs, ht]
      exact ⟨h, trivial⟩
    | cons f rest =>
      have ht : t.fades = f :: rest := h.fades.trans hs
      refine ⟨⟨by rw [State.fastComplete_fades hs, State.fastComplete_fades ht], fun q => ?_⟩, ?_⟩
      · rw [State.playback_fastComplete hs, State.playback_fastComplete ht]
        split
        · exact congrArg (Tbl.mapVals Entry.initial fun _ => Entry.finish f.number) (h.entries q)
        · exact h.entries q
      · rw [State.fastComplete_cons hs, State.fastComplete_cons ht]
  · exact ⟨h, rfl⟩

end State.Alike

end Sys2Proof.Machine
end

section
/-!
SUPPORT. The fade engine's relations without what the end of an event derives (R64, R66 to R70), with leave for one fade that is in the
making or on its way out: each operation of the fade engine once, as what it makes of them.
-/

namespace Sys2Proof.Machine

section
variable {s t : State} {n m p q ch : Nat}

/-! ### Owned counts -/

theorem State.ownedBy_eq_sum (s : State) (p n : Nat) :
    s.ownedBy p n = (s.playback p).entries.sum fun e => if e.owner == some n then 1 else 0 :=
  Tbl.countP_eq_sum _ fun e : Entry => e.owner == some n

theorem State.ownedBy_congr (h : (t.playback p).entries = (s.playback p).entries) (n : Nat) : t.ownedBy p n = s.ownedBy p n := by
  unfold State.ownedBy; rw [h]

/-- A fade that is counted nowhere owns nothing. -/
theorem State.one_le_ownedBy (h : (s.entry p ch).owner = some n) : 1 ≤ s.ownedBy p n := by
  rw [State.ownedBy_eq_sum]
  refine Nat.le_trans ?_ (Tbl.get_le_sum (fun e : Entry => if e.owner == some n then 1 else 0) (d := Entry.initial) rfl
    (s.playback p).entries ch)
  rw [show ((s.playback p).entries.get Entry.initial ch).owner = some n from h]
  simp

theorem State.tables_mapEntries (h : (s.playback q).entries.Canonical Entry.initial) (p : Nat) (f : Entry → Entry) :
    ((s.mapEntries p f).playback q).entries.Canonical Entry.initial := by
  rw [State.playback_mapEntries]
  split
  · exact Tbl.canonical_mapVals Entry.initial (fun _ => f) _
  · exact h

/-- A change of a playback's entries that keeps which of them a fade owns keeps their number. -/
theorem State.ownedBy_mapEntries (hc : (s.playback p).entries.Canonical Entry.initial) {f : Entry → Entry}
    (hf : ∀ e, (f e).owner = some n ↔ e.owner = some n) : (s.mapEntries q f).ownedBy p n = s.ownedBy p n := by
  rw [State.ownedBy_eq_sum, State.ownedBy_eq_sum, State.playback_mapEntries]
  split
  · exact Tbl.sum_mapVals (fun e : Entry => if e.owner == some n then 1 else 0) rfl hc (f := fun _ => f) fun _ e => by simp [hf]
  · rfl

/-- A takeover takes one entry from its old owner's count and puts it to the new one's (R73). -/
theorem State.ownedBy_takeEntry (hc : (s.playback p).entries.Canonical Entry.initial) (target : Nat) (part : Part) :
    (s.takeEntry n p ch target part).ownedBy p m + (if (s.entry p ch).owner = some m then 1 else 0) =
      s.ownedBy p m + if n = m then 1 else 0 := by
  have h := Tbl.sum_set (fun e : Entry => if e.owner == some m then 1 else 0) (d := Entry.initial) rfl hc ch
    ((s.entry p ch).taken n target part)
  rw [State.ownedBy_eq_sum, State.ownedBy_eq_sum, State.playback_takeEntry, if_pos rfl]
  simp only [beq_iff_eq, Entry.taken, Option.some.injEq] at h ⊢
  exact h

/-! ### The relations -/

/-- An owned entry stands between its start and its target (R67). -/
def Entry.Between (e : Entry) : Prop := e.owner ≠ none → min e.start e.target ≤ e.level ∧ e.level ≤ max e.start e.target

/-- A fade runs short of its completion count (R70): it owns an entry, has not reached the count, and no entry it owns needs longer. -/
structure State.Paced (s : State) (f : Fade) : Prop where
  owned : 1 ≤ f.owned
  running : f.elapsed < f.completion
  within : ∀ ch, (s.entry f.playback ch).owner = some f.number →
    (f.timesOf (s.entry f.playback ch).part).1 + (f.timesOf (s.entry f.playback ch).part).2 ≤ f.completion

/-- The relations of the fade engine that hold between any two of its operations, over canonical entries: those of every fade, but that
a fade numbered `n` need not run short of its completion count. No fade has number 0. -/
structure State.FitsBut (s : State) (n : Nat) : Prop where
  tables : ∀ p, (s.playback p).entries.Canonical Entry.initial
  slots : s.fades.length ≤ Config.fadeSlots
  distinct : (s.fades.map Fade.number).Nodup
  ranges : ∀ f ∈ s.fades, 1 ≤ f.number ∧ f.number ≤ Config.fadeSlots ∧ playbackOk f.playback = true
  owners : ∀ p ch n, (s.entry p ch).owner = some n → ∃ f ∈ s.fades, f.number = n ∧ f.playback = p
  owned : ∀ f ∈ s.fades, f.owned = s.ownedBy f.playback f.number
  between : ∀ p ch, (s.entry p ch).Between
  paced : ∀ f ∈ s.fades, f.number ≠ n → s.Paced f

/-- A fade is held exactly while its playback is HELD (R64). -/
def State.HeldOk (s : State) : Prop := ∀ f ∈ s.fades, f.held = true ↔ (s.playback f.playback).state = .held

/-- A playback is IDLE exactly while it has no fade and no pending follow (R64). -/
def State.StateOk (s : State) (p : Nat) : Prop :=
  (s.playback p).state = .idle ↔ s.hasFade p = false ∧ (s.playback p).pendingFollow = none

theorem State.FadesOk.fits (h : s.FadesOk) (hc : s.Canonical) : s.FitsBut 0 where
  tables := hc.playback_entries
  slots := h.slots
  distinct := h.distinct
  ranges := h.ranges
  owners := h.owners
  owned f hf := (h.owned f hf).1
  between := h.between
  paced f hf _ := ⟨(h.owned f hf).2, h.running f hf, h.within f hf⟩

theorem State.FitsBut.fadesOk (h : s.FitsBut 0) (hheld : s.HeldOk) (hstates : ∀ p, s.StateOk p) : s.FadesOk := by
  have paced (f : Fade) (hf : f ∈ s.fades) : s.Paced f := h.paced f hf (Nat.ne_of_gt (h.ranges f hf).1)
  exact
    { slots := h.slots, distinct := h.distinct, ranges := h.ranges, owners := h.owners, between := h.between, held := hheld
      states := hstates
      owned := fun f hf => ⟨h.owned f hf, (paced f hf).owned⟩
      running := fun f hf => (paced f hf).running
      within := fun f hf => (paced f hf).within }

theorem State.Paced.congr {f : Fade} (h : s.Paced f) (he : ∀ ch, t.entry f.playback ch = s.entry f.playback ch) : t.Paced f :=
  ⟨h.owned, h.running, fun ch => by rw [he]; exact h.within ch⟩

namespace State.FitsBut

theorem but (h : s.FitsBut 0) (n : Nat) : s.FitsBut n :=
  { h with paced := fun f hf _ => h.paced f hf (Nat.ne_of_gt (h.ranges f hf).1) }

/-- Two fades of one number are one fade. -/
theorem unique (h : s.FitsBut n) {f g : Fade} (hf : f ∈ s.fades) (hg : g ∈ s.fades) (e : f.number = g.number) : f = g :=
  List.inj_on_of_nodup_map h.distinct hf hg e

/-- What a fade owns stands on its playback (R66). -/
theorem owner_playback (h : s.FitsBut n) {f : Fade} (hf : f ∈ s.fades) (ho : (s.entry p ch).owner = some f.number) : f.playback = p := by
  obtain ⟨g, hg, hnum, hplay⟩ := h.owners p ch _ ho
  rw [h.unique hf hg hnum.symm, hplay]

theorem congr (h : s.FitsBut n) (hf : t.fades = s.fades) (he : ∀ p, (t.playback p).entries = (s.playback p).entries) : t.FitsBut n := by
  have entry (p ch : Nat) : t.entry p ch = s.entry p ch := by unfold State.entry; rw [he]
  exact
    { tables := fun p => he p ▸ h.tables p
      slots := hf ▸ h.slots
      distinct := hf ▸ h.distinct
      ranges := hf ▸ h.ranges
      owners := fun p ch n ho => hf ▸ h.owners p ch n (entry p ch ▸ ho)
      owned := fun f hmem => (h.owned f (hf ▸ hmem)).trans (State.ownedBy_congr (he _) _).symm
      between := fun p ch => entry p ch ▸ h.between p ch
      paced := fun f hmem hn => (h.paced f (hf ▸ hmem) hn).congr fun _ => entry _ _ }

/-- A write of a playback's own fields. -/
theorem setPlayback (h : s.FitsBut n) (p : Nat) {v : Playback} (hv : v.entries = (s.playback p).entries) : (s.setPlayback p v).FitsBut n := by
  refine h.congr rfl fun q => ?_
  rw [State.playback_setPlayback]
  split
  · rename_i e; rw [hv, e]
  · rfl

theorem rederive (h : s.FitsBut n) (p : Nat) : (s.rederive p).FitsBut n := h.setPlayback p rfl

theorem rederiveForced (h : s.FitsBut n) (x : Option (Nat × Nat)) : (s.rederiveForced x).FitsBut n := by
  cases x with
  | none => exact h
  | some x => exact h.rederive x.2

theorem cancelFollow (h : s.FitsBut n) (p : Nat) : (s.cancelFollow p).FitsBut n := h.setPlayback p rfl

/-- Fades changed one by one, the pace of none but the one with leave. -/
theorem mapFades (h : s.FitsBut n) {φ : Fade → Fade}
    (hφ : ∀ f, (φ f).number = f.number ∧ (φ f).playback = f.playback ∧ (φ f).owned = f.owned)
    (hp : ∀ f ∈ s.fades, f.number ≠ n → (φ f).elapsed = f.elapsed ∧ (φ f).completion = f.completion ∧ (φ f).timesOf = f.timesOf) :
    (s.setFades (s.fades.map φ)).FitsBut n where
  tables := h.tables
  slots := by simpa using h.slots
  distinct := by
    rw [State.setFades_fades, List.map_map]
    exact (List.map_congr_left fun f _ => (hφ f).1) ▸ h.distinct
  ranges := List.forall_mem_map.mpr fun f hf => by
    obtain ⟨hnum, hplay, -⟩ := hφ f
    rw [hnum, hplay]
    exact h.ranges f hf
  owners p ch m ho := by
    obtain ⟨f, hf, hnum, hplay⟩ := h.owners p ch m ho
    exact ⟨φ f, List.mem_map_of_mem hf, (hφ f).1.trans hnum, (hφ f).2.1.trans hplay⟩
  owned := List.forall_mem_map.mpr fun f hf => by
    obtain ⟨hnum, hplay, howned⟩ := hφ f
    rw [hnum, hplay, howned]
    exact h.owned f hf
  between := h.between
  paced := List.forall_mem_map.mpr fun f hf hn => by
    obtain ⟨hnum, hplay, howned⟩ := hφ f
    rw [hnum] at hn
    obtain ⟨helapsed, hcount, htimes⟩ := hp f hf hn
    obtain ⟨h1, h2, h3⟩ := h.paced f hf hn
    exact ⟨by rwa [howned], by rwa [helapsed, hcount], by rw [hnum, hplay, htimes, hcount]; exact h3⟩

/-- The fade with leave written anew. -/
theorem updateFade (h : s.FitsBut n) {f g : Fade} (hf : f ∈ s.fades) (hn : f.number = n) (hnum : g.number = f.number)
    (hplay : g.playback = f.playback) (howned : g.owned = f.owned) : (s.updateFade g).FitsBut n := by
  have same (k : Fade) (hk : k ∈ s.fades) (e : k.number = g.number) : k = f := h.unique hk hf (e.trans hnum)
  have h' : s.updateFade g = s.setFades (s.fades.map fun k => if k = f then g else k) := by
    refine congrArg s.setFades (List.map_congr_left fun k hk => ?_)
    by_cases e : k.number = g.number
    · rw [if_pos e, if_pos (same k hk e)]
    · rw [if_neg e, if_neg fun e' : k = f => e (e' ▸ hnum.symm)]
  rw [h']
  refine h.mapFades (fun k => ?_) fun k _ hk => ?_
  · by_cases e : k = f
    · rw [if_pos e, e]; exact ⟨hnum, hplay, howned⟩
    · rw [if_neg e]; exact ⟨rfl, rfl, rfl⟩
  · rw [if_neg fun e : k = f => hk (e ▸ hn)]; exact ⟨rfl, rfl, rfl⟩

/-- A playback's entries changed one by one: no owner, and the part of none but those of the fade with leave. -/
theorem mapEntries (h : s.FitsBut n) {f : Entry → Entry} (hf : f Entry.initial = Entry.initial) (ho : ∀ e, (f e).owner = e.owner)
    (hb : ∀ e, e.Between → (f e).Between) (hp : ∀ e, e.owner ≠ some n → (f e).part = e.part) (p : Nat) : (s.mapEntries p f).FitsBut n := by
  have owner (q ch : Nat) : ((s.mapEntries p f).entry q ch).owner = (s.entry q ch).owner := by
    rw [State.entry_mapEntries s _ _ _ _ hf]
    split
    · exact ho _
    · rfl
  exact
    { slots := h.slots, distinct := h.distinct, ranges := h.ranges
      tables := fun q => by
        exact State.tables_mapEntries (h.tables q) ..
      owners := fun q ch m hm => h.owners q ch m (owner q ch ▸ hm)
      owned := fun g hg => (h.owned g hg).trans (State.ownedBy_mapEntries (h.tables _) fun e => by rw [ho]).symm
      between := fun q ch => by
        rw [State.entry_mapEntries s _ _ _ _ hf]
        split
        · exact hb _ (h.between q ch)
        · exact h.between q ch
      paced := fun g hg hn => by
        obtain ⟨h1, h2, h3⟩ := h.paced g hg hn
        refine ⟨h1, h2, fun ch hm => ?_⟩
        rw [owner] at hm
        have part : ((s.mapEntries p f).entry g.playback ch).part = (s.entry g.playback ch).part := by
          rw [State.entry_mapEntries s _ _ _ _ hf]
          split
          · exact hp _ fun e => hn (by rw [hm] at e; exact Option.some.inj e)
          · rfl
        rw [part]
        exact h3 ch hm }

/-- The fade with leave retires, its entries finished: nothing needs leave. -/
theorem retire (h : s.FitsBut n) {f : Fade} (hf : f ∈ s.fades) (hn : f.number = n) :
    ((s.mapEntries f.playback (Entry.finish n)).removeFade n).FitsBut 0 := by
  subst hn
  have gone {q ch m : Nat} (ho : ((s.mapEntries f.playback (Entry.finish f.number)).entry q ch).owner = some m) :
      m ≠ f.number ∧ (s.mapEntries f.playback (Entry.finish f.number)).entry q ch = s.entry q ch := by
    rw [State.entry_mapEntries s _ _ _ _ (Entry.finish_initial _)] at ho ⊢
    split at ho
    · rename_i e
      rw [if_pos e]
      rcases Entry.finish_cases f.number (s.entry q ch) with ⟨-, hfin⟩ | ⟨hne, hfin⟩
      · rw [hfin] at ho; cases ho
      · rw [hfin] at ho ⊢
        exact ⟨fun e => hne (e ▸ ho), rfl⟩
    · rename_i e
      rw [if_neg e]
      exact ⟨fun e' => e (h.owner_playback hf (e' ▸ ho)), rfl⟩
  have stays {g : Fade} : g ∈ ((s.mapEntries f.playback (Entry.finish f.number)).removeFade f.number).fades ↔
      g ∈ s.fades ∧ g.number ≠ f.number := by
    rw [State.removeFade, State.setFades_fades, List.mem_filter, decide_eq_true_eq]
    rfl
  exact
    { slots := Nat.le_trans (List.length_filter_le ..) h.slots
      distinct := (List.filter_sublist.map _).nodup h.distinct
      ranges := fun g hg => h.ranges g (stays.mp hg).1
      tables := fun q => by
        show ((s.mapEntries f.playback (Entry.finish f.number)).playback q).entries.Canonical _
        exact State.tables_mapEntries (h.tables q) ..
      owners := fun q ch m ho => by
        obtain ⟨hm, he⟩ := gone ho
        obtain ⟨g, hg, hnum, hplay⟩ := h.owners q ch m (he ▸ ho)
        exact ⟨g, stays.mpr ⟨hg, hnum ▸ hm⟩, hnum, hplay⟩
      owned := fun g hg => by
        obtain ⟨hmem, hne⟩ := stays.mp hg
        refine (h.owned g hmem).trans (State.ownedBy_mapEntries (h.tables _) fun e => ?_).symm
        rcases Entry.finish_cases f.number e with ⟨ho, hfin⟩ | ⟨-, hfin⟩
        · rw [hfin, ho, Option.some.injEq]
          exact ⟨nofun, fun e => absurd e.symm hne⟩
        · rw [hfin]
      between := fun q ch ho => by
        obtain ⟨m, hm⟩ := Option.ne_none_iff_exists'.mp ho
        have he := (gone hm).2
        exact he ▸ h.between q ch (he ▸ ho)
      paced := fun g hg _ => by
        obtain ⟨hmem, hne⟩ := stays.mp hg
        obtain ⟨h1, h2, h3⟩ := h.paced g hmem hne
        refine ⟨h1, h2, fun ch ho => ?_⟩
        have he := (gone ho).2
        exact he ▸ h3 ch (he ▸ ho) }

/-- The fade with leave runs short of its completion count: nothing needs leave. -/
theorem settle (h : s.FitsBut n) (hn : ∀ f ∈ s.fades, f.number = n → s.Paced f) : s.FitsBut 0 :=
  { h with paced := fun f hf _ => if e : f.number = n then hn f hf e else h.paced f hf e }

/-- A fade that owns nothing yet takes a free slot (R69). -/
theorem start (h : s.FitsBut 0) {f : Fade} (hfree : s.fade f.number = none) (hlen : s.fades.length < Config.fadeSlots)
    (hrange : 1 ≤ f.number ∧ f.number ≤ Config.fadeSlots ∧ playbackOk f.playback = true) (howned : f.owned = 0) :
    (s.setFades (s.fades ++ [f])).FitsBut f.number := by
  have free := s.fade_none.mp hfree
  have nothing : s.ownedBy f.playback f.number = 0 := by
    unfold State.ownedBy
    rw [List.countP_eq_zero]
    rintro ⟨ch, e⟩ hmem ho
    rw [beq_iff_eq] at ho
    have hread : s.entry f.playback ch = e := Tbl.get_of_mem Entry.initial (h.tables _).1 hmem
    obtain ⟨g, hg, hnum, -⟩ := h.owners f.playback ch f.number (hread ▸ ho)
    exact free g hg hnum
  exact
    { tables := h.tables, between := h.between
      slots := by rw [State.setFades_fades, List.length_append]; exact hlen
      distinct := by
        rw [State.setFades_fades, List.map_append, List.map_singleton, ← List.concat_eq_append]
        exact List.Nodup.concat (by simpa using free) h.distinct
      ranges := fun g hg => by
        rcases List.mem_append.mp hg with hg | hg
        · exact h.ranges g hg
        · rw [List.mem_singleton.mp hg]; exact hrange
      owners := fun q ch m ho => by
        obtain ⟨g, hg, e⟩ := h.owners q ch m ho
        exact ⟨g, List.mem_append_left _ hg, e⟩
      owned := fun g hg => by
        rcases List.mem_append.mp hg with hg | hg
        · exact h.owned g hg
        · rw [List.mem_singleton.mp hg, howned]; exact nothing.symm
      paced := fun g hg hn => by
        rcases List.mem_append.mp hg with hg | hg
        · exact ((h.but f.number).paced g hg hn).congr fun _ => rfl
        · exact absurd (congrArg Fade.number (List.mem_singleton.mp hg)) hn }

/-- Fast completion of the oldest retires it (R83). -/
theorem secureSlot (h : s.FitsBut 0) : s.secureSlot.1.FitsBut 0 := by
  unfold State.secureSlot
  split
  · cases hs : s.fades with
    | nil => simp only [State.fastComplete, hs]; exact h
    | cons f rest =>
      rw [State.fastComplete_cons hs]
      have hd := h.distinct
      rw [hs, List.map_cons, List.nodup_cons] at hd
      have rest_eq : (s.fades.filter fun g => g.number ≠ f.number) = rest := by
        rw [hs, List.filter_cons_of_neg (by simp), List.filter_eq_self]
        exact fun g hg => decide_eq_true fun e => hd.1 (e ▸ List.mem_map_of_mem hg)
      refine FitsBut.setPlayback ?_ _ rfl
      have ht := (h.but f.number).retire (hs ▸ List.mem_cons_self) rfl
      refine ht.congr rest_eq.symm fun q => ?_
      show _ = ((s.mapEntries f.playback (Entry.finish f.number)).playback q).entries
      rw [State.playback_mapEntries, State.playback_mapEntries]
      rfl
  · exact h

theorem resumePlayback (h : s.FitsBut n) (p : Nat) : (s.resumePlayback p).FitsBut n := by
  by_cases hs : (s.playback p).state = .held
  · rw [s.resumePlayback_held hs]
    refine (h.mapFades (fun f => ?_) fun f _ _ => ?_).setPlayback p rfl
    · split <;> exact ⟨rfl, rfl, rfl⟩
    · split <;> exact ⟨rfl, rfl, rfl⟩
  · rw [s.resumePlayback_other hs]
    exact h

end State.FitsBut

/-! ### Takeover -/

/-- A fade after a takeover by fade `n` of `taken` entries, `lost` of them its own: `n` gains them all, another loses its own and retires
as superseded with the last (R73). -/
def Fade.claimed (n taken : Nat) (lost : Nat → Nat) (f : Fade) : Option Fade :=
  if f.number = n then some { f with owned := f.owned + taken }
  else if lost f.number = 0 then some f
  else if f.owned ≤ lost f.number then none
  else some { f with owned := f.owned - lost f.number }

/-- How many claims of a takeover a fade loses an entry to. -/
def State.lostTo (s : State) (p : Nat) (xs : List Claim) (m : Nat) : Nat := xs.countP fun x => (s.entry p x.channel).owner == some m

theorem Fade.claimed_claimed (n a b : Nat) (l l' : Nat → Nat) (f : Fade) :
    (f.claimed n a l).bind (Fade.claimed n b l') = f.claimed n (a + b) fun m => l m + l' m := by
  unfold Fade.claimed
  by_cases hn : f.number = n
  · simp [hn, Nat.add_assoc]
  · by_cases h0 : l f.number = 0
    · simp [hn, h0]
    · by_cases ho : f.owned ≤ l f.number
      · simp [hn, h0, ho, Nat.le_trans ho (Nat.le_add_right _ (l' f.number))]
      · by_cases h0' : l' f.number = 0
        · simp [hn, h0, ho, h0']
        · by_cases ho' : f.owned - l f.number ≤ l' f.number
          · have : f.owned ≤ l f.number + l' f.number := by omega
            simp [hn, h0, ho, h0', ho', this]
          · have : ¬ f.owned ≤ l f.number + l' f.number := by omega
            simp [hn, h0, ho, h0', ho', this, Nat.sub_sub]

/-- What a takeover makes of a fade, by cases. -/
theorem Fade.claimed_some {k : Nat} {lost : Nat → Nat} {f g : Fade} (h : f.claimed n k lost = some g) :
    g = { f with owned := g.owned } ∧ (f.number = n ∧ g.owned = f.owned + k ∨
      f.number ≠ n ∧ g.owned = f.owned - lost f.number ∧ (lost f.number = 0 ∨ lost f.number < f.owned)) := by
  unfold Fade.claimed at h
  split at h
  · cases h; exact ⟨rfl, .inl ⟨‹_›, rfl⟩⟩
  · split at h
    · rename_i h0
      cases h; exact ⟨rfl, .inr ⟨‹_›, by rw [h0, Nat.sub_zero], .inl h0⟩⟩
    · split at h
      · cases h
      · cases h; exact ⟨rfl, .inr ⟨‹_›, rfl, .inr (Nat.lt_of_not_le ‹_›)⟩⟩

theorem State.lostTo_cons {x : Claim} {xs : List Claim} (hx : x.channel ∉ xs.map Claim.channel) (n m : Nat) : s.lostTo p (x :: xs) m =
    (if (s.entry p x.channel).owner = some m then 1 else 0) + (s.takeEntry n p x.channel x.target x.part).lostTo p xs m := by
  unfold State.lostTo
  rw [List.countP_cons, Nat.add_comm]
  refine congrArg₂ _ (by simp only [beq_iff_eq]) (List.countP_congr fun y hy => ?_)
  rw [State.entry_takeEntry, if_neg]
  rintro ⟨-, e⟩
  exact hx (e ▸ List.mem_map_of_mem hy)

theorem State.takeEntry_fades (h : (s.entry p ch).owner ≠ some n) (target : Nat) (part : Part) :
    (s.takeEntry n p ch target part).fades =
      s.fades.filterMap (Fade.claimed n 1 fun m => if (s.entry p ch).owner = some m then 1 else 0) := by
  unfold State.takeEntry
  dsimp only
  cases ho : (s.entry p ch).owner with
  | none =>
    show (s.fades.map _) = _
    rw [← List.filterMap_eq_map]
    refine List.filterMap_congr fun f _ => ?_
    by_cases hn : f.number = n <;> simp [hn, Fade.claimed]
  | some old =>
    rw [ho] at h
    show (s.fades.filterMap _).map _ = _
    rw [List.map_filterMap]
    refine List.filterMap_congr fun f _ => ?_
    have hold : old ≠ n := fun e => h (e ▸ rfl)
    unfold Fade.claimed
    by_cases hn : f.number = n
    · simp [hn, hold.symm]
    · by_cases hf : f.number = old
      · by_cases h1 : f.owned ≤ 1 <;> simp [hf, hold, h1]
      · simp [hn, hf, Ne.symm hf]

/-- The fades after a takeover of entries of which the new owner has none yet. -/
theorem State.takeAll_fades {xs : List Claim} (hn : (xs.map Claim.channel).Nodup)
    (h : ∀ x ∈ xs, (s.entry p x.channel).owner ≠ some n) :
    (s.takeAll n p xs).fades = s.fades.filterMap (Fade.claimed n xs.length (s.lostTo p xs)) := by
  induction xs generalizing s with
  | nil =>
    have same : Fade.claimed n 0 (s.lostTo p []) = some := funext fun f => by simp [Fade.claimed, State.lostTo]
    rw [State.takeAll_nil, List.length_nil, same, List.filterMap_some]
  | cons x xs ih =>
    obtain ⟨hx, hn⟩ := List.nodup_cons.mp hn
    have entry (y : Claim) (hy : y ∈ xs) : (s.takeEntry n p x.channel x.target x.part).entry p y.channel = s.entry p y.channel := by
      rw [State.entry_takeEntry, if_neg]
      rintro ⟨-, e⟩
      exact hx (e ▸ List.mem_map_of_mem hy)
    rw [State.takeAll_cons, ih hn fun y hy => (entry y hy) ▸ h y (List.mem_cons_of_mem _ hy),
      State.takeEntry_fades (h x List.mem_cons_self), List.filterMap_filterMap]
    refine List.filterMap_congr fun f _ => ?_
    rw [Fade.claimed_claimed, List.length_cons, Nat.add_comm]
    exact congrArg (fun l => Fade.claimed n (xs.length + 1) l f) (funext fun m => (State.lostTo_cons hx n m).symm)

theorem State.tables_takeAll (h : ∀ q, (s.playback q).entries.Canonical Entry.initial) (n p : Nat) (xs : List Claim) (q : Nat) :
    ((s.takeAll n p xs).playback q).entries.Canonical Entry.initial := by
  induction xs generalizing s with
  | nil => exact h q
  | cons x xs ih =>
    refine ih fun r => ?_
    rw [State.playback_takeEntry]
    split
    · exact (h r).set ..
    · exact h r

/-- The owned counts after a takeover (R66, R73). -/
theorem State.ownedBy_takeAll (h : ∀ q, (s.playback q).entries.Canonical Entry.initial) {xs : List Claim}
    (hn : (xs.map Claim.channel).Nodup) :
    (s.takeAll n p xs).ownedBy p m + s.lostTo p xs m = s.ownedBy p m + if n = m then xs.length else 0 := by
  induction xs generalizing s with
  | nil => simp [State.lostTo]
  | cons x xs ih =>
    obtain ⟨hx, hn⟩ := List.nodup_cons.mp hn
    have step := State.ownedBy_takeEntry (m := m) (n := n) (ch := x.channel) (h p) x.target x.part
    have rest := ih (s := s.takeEntry n p x.channel x.target x.part) (State.tables_takeAll h n p [x]) hn
    rw [State.takeAll_cons, State.lostTo_cons hx n, List.length_cons]
    by_cases e : n = m
    · simp only [e, if_true] at step rest ⊢; omega
    · simp only [e, if_false] at step rest ⊢; omega

end

end Sys2Proof.Machine
end

section
/-!
SUPPORT. A takeover and a launch, as what they make of the fades, of the entries and of the fade engine's relations (R64, R66 to R74).
-/

namespace Sys2Proof.Machine

section
variable {s t : State} {n m p q ch : Nat}

/-! ### Takeover -/

theorem State.entry_takeAll_claimed {xs : List Claim} (hd : (xs.map Claim.channel).Nodup) (q ch : Nat) :
    (∃ x ∈ xs, q = p ∧ x.channel = ch ∧ (s.takeAll n p xs).entry q ch = (s.entry p ch).taken n x.target x.part) ∨
    (p = q → ∀ x ∈ xs, x.channel ≠ ch) ∧ (s.takeAll n p xs).entry q ch = s.entry q ch := by
  by_cases h : p = q ∧ ∃ x ∈ xs, x.channel = ch
  · obtain ⟨rfl, x, hx, rfl⟩ := h
    exact .inl ⟨x, hx, rfl, rfl, s.entry_takeAll hd hx⟩
  · have h' : p = q → ∀ x ∈ xs, x.channel ≠ ch := fun e x hx e' => h ⟨e, x, hx, e'⟩
    exact .inr ⟨h', s.entry_takeAll_other h'⟩

/-- Only fades of the playback lose entries to a takeover on it (R73). -/
theorem State.FitsBut.lostTo_other (h : s.FitsBut n) {f : Fade} (hf : f ∈ s.fades) (hp : f.playback ≠ p) (xs : List Claim) :
    s.lostTo p xs f.number = 0 :=
  List.countP_eq_zero.mpr fun _ _ ho => hp (h.owner_playback hf (by simpa using ho))

/-- A takeover by the fade with leave, which has none of the entries yet (R73). -/
theorem State.FitsBut.takeAll (h : s.FitsBut n) {f : Fade} (hf : f ∈ s.fades) (hnum : f.number = n) (hplay : f.playback = p)
    {xs : List Claim} (hd : (xs.map Claim.channel).Nodup) (hown : ∀ x ∈ xs, (s.entry p x.channel).owner ≠ some n) :
    (s.takeAll n p xs).FitsBut n := by
  have fades := State.takeAll_fades hd hown
  have mem {g : Fade} (hg : g ∈ (s.takeAll n p xs).fades) : ∃ k ∈ s.fades, k.claimed n xs.length (s.lostTo p xs) = some g := by
    rw [fades] at hg
    exact List.mem_filterMap.mp hg
  have counts (k : Fade) (hk : k ∈ s.fades) : (s.takeAll n p xs).ownedBy k.playback k.number + s.lostTo p xs k.number =
      k.owned + if n = k.number then xs.length else 0 := by
    rw [h.owned k hk]
    by_cases e : k.playback = p
    · rw [e]; exact State.ownedBy_takeAll h.tables hd
    · have other : n ≠ k.number := fun en => e (h.unique hf hk (hnum.trans en) ▸ hplay)
      rw [State.ownedBy_congr (s := s) (congrArg Playback.entries (State.playback_takeAll_other s xs (Ne.symm e))),
        h.lostTo_other hk e, if_neg other]
  exact
    { tables := State.tables_takeAll h.tables n p xs
      slots := by rw [fades]; exact Nat.le_trans (List.length_filterMap_le ..) h.slots
      distinct := by
        rw [fades]
        refine List.pairwise_map.mpr ((List.pairwise_map.mp h.distinct).filterMap _ fun a a' hne b hb b' hb' => ?_)
        obtain ⟨eb, -⟩ := Fade.claimed_some hb
        obtain ⟨eb', -⟩ := Fade.claimed_some hb'
        rwa [eb, eb']
      ranges := fun g hg => by
        obtain ⟨k, hk, e⟩ := mem hg
        rw [(Fade.claimed_some e).1]
        exact h.ranges k hk
      owners := fun q ch m ho => by
        rcases State.entry_takeAll_claimed (s := s) (n := n) (p := p) hd q ch with ⟨x, -, rfl, -, he⟩ | ⟨-, he⟩
        · rw [he] at ho
          cases Option.some.inj ho
          exact ⟨{ f with owned := f.owned + xs.length }, by
            rw [fades]; exact List.mem_filterMap.mpr ⟨f, hf, if_pos hnum⟩, hnum, hplay⟩
        · rw [he] at ho
          obtain ⟨k, hk, hkn, hkp⟩ := h.owners q ch m ho
          have hc := counts k hk
          have owns : 1 ≤ (s.takeAll n p xs).ownedBy k.playback k.number :=
            State.one_le_ownedBy (ch := ch) (by rw [hkp, hkn, he, ho])
          obtain ⟨g, hg⟩ : ∃ g, k.claimed n xs.length (s.lostTo p xs) = some g := by
            unfold Fade.claimed
            by_cases e : k.number = n
            · exact ⟨_, if_pos e⟩
            · rw [if_neg (Ne.symm e)] at hc
              by_cases e0 : s.lostTo p xs k.number = 0
              · exact ⟨k, by rw [if_neg e, if_pos e0]⟩
              · exact ⟨_, by rw [if_neg e, if_neg e0, if_neg (by omega)]⟩
          refine ⟨g, by rw [fades]; exact List.mem_filterMap.mpr ⟨k, hk, hg⟩, ?_⟩
          rw [(Fade.claimed_some hg).1]
          exact ⟨hkn, hkp⟩
      owned := fun g hg => by
        obtain ⟨k, hk, e⟩ := mem hg
        obtain ⟨eg, ⟨hkn, ho⟩ | ⟨hkn, ho, -⟩⟩ := Fade.claimed_some e
        · have hc := counts k hk
          have none : s.lostTo p xs k.number = 0 :=
            List.countP_eq_zero.mpr fun x hx hox => hown x hx (by rw [hkn] at hox; simpa using hox)
          rw [none, if_pos hkn.symm] at hc
          rw [show g.playback = k.playback by rw [eg], show g.number = k.number by rw [eg]]
          omega
        · have hc := counts k hk
          rw [if_neg (Ne.symm hkn)] at hc
          rw [show g.playback = k.playback by rw [eg], show g.number = k.number by rw [eg]]
          omega
      between := fun q ch => by
        rcases State.entry_takeAll_claimed (s := s) (n := n) (p := p) hd q ch with ⟨x, -, -, -, he⟩ | ⟨-, he⟩
        · rw [he]; exact fun _ => ⟨Nat.min_le_left .., Nat.le_max_left ..⟩
        · rw [he]; exact h.between q ch
      paced := fun g hg hn => by
        obtain ⟨k, hk, e⟩ := mem hg
        obtain ⟨eg, ⟨hkn, -⟩ | ⟨hkn, ho, hlost⟩⟩ := Fade.claimed_some e
        · exact absurd (by rw [eg]; exact hkn) hn
        · obtain ⟨h1, h2, h3⟩ := h.paced k hk hkn
          refine ⟨by omega, by rw [eg]; exact h2, fun ch hgo => ?_⟩
          rw [eg] at hgo ⊢
          rcases State.entry_takeAll_claimed (s := s) (n := n) (p := p) hd k.playback ch with ⟨x, -, -, -, he⟩ | ⟨-, he⟩
          · have hgo : ((s.takeAll n p xs).entry k.playback ch).owner = some k.number := hgo
            rw [he] at hgo
            exact absurd (Option.some.inj hgo).symm hkn
          · show _ + _ ≤ _
            have hgo : ((s.takeAll n p xs).entry k.playback ch).owner = some k.number := hgo
            rw [he] at hgo ⊢
            exact h3 ch hgo }

/-! ### Held fades -/

/-- Fades dropped, or changed in what a hold does not touch, on playbacks of the same state. -/
theorem State.HeldOk.of_fades (h : s.HeldOk) (hf : ∀ g ∈ t.fades, ∃ f ∈ s.fades, g.held = f.held ∧ g.playback = f.playback)
    (hp : ∀ p, (t.playback p).state = (s.playback p).state) : t.HeldOk := fun g hg => by
  obtain ⟨f, hmem, hheld, hplay⟩ := hf g hg
  rw [hheld, hplay, hp]
  exact h f hmem

theorem State.hasFade_of_mem {f : Fade} (h : f ∈ s.fades) : s.hasFade f.playback = true :=
  List.any_eq_true.mpr ⟨f, h, beq_self_eq_true _⟩

/-- Deriving a playback's state at the end of an event leaves it HELD where a fade of it is. -/
theorem State.HeldOk.rederive (h : s.HeldOk) (p : Nat) : (s.rederive p).HeldOk := fun f hf => by
  rw [h f hf, State.playback_rederive]
  split
  · rw [Playback.derived_held, s.hasFade_of_mem hf]
    simp
  · rfl

theorem State.HeldOk.rederiveForced (h : s.HeldOk) (x : Option (Nat × Nat)) : (s.rederiveForced x).HeldOk := by
  cases x with
  | none => exact h
  | some x => exact h.rederive x.2

theorem State.HeldOk.resumePlayback (h : s.HeldOk) (p : Nat) : (s.resumePlayback p).HeldOk := by
  by_cases hp : (s.playback p).state = .held
  · rw [s.resumePlayback_held hp]
    intro g hg
    obtain ⟨f, hf, rfl⟩ := List.mem_map.mp hg
    rw [State.playback_setPlayback]
    by_cases e : f.playback = p
    · simp [e]
    · rw [if_neg e, if_neg (Ne.symm e)]
      exact h f hf
  · rw [s.resumePlayback_other hp]
    exact h

theorem State.HeldOk.secureSlot (h : s.HeldOk) : s.secureSlot.1.HeldOk := by
  refine h.of_fades (fun g hg => ?_) fun p => ?_
  · refine ⟨g, ?_, rfl, rfl⟩
    unfold State.secureSlot at hg
    split at hg
    · cases hs : s.fades with
      | nil => simpa only [State.fastComplete, hs] using hg
      | cons f rest => rw [State.fastComplete_fades hs] at hg; exact List.mem_cons_of_mem _ hg
    · exact hg
  · obtain ⟨es, he⟩ := s.playback_secureSlot p
    rw [he]

/-! ### States derived -/

/-- A playback's state derived at the end of an event is the one it must have (R64). -/
theorem State.stateOk_of_derived {b : Playback} (h : t.playback p = b.derived (t.hasFade p)) : t.StateOk p := by
  unfold State.StateOk
  rw [h]
  exact Playback.derived_idle

theorem State.stateOk_rederive (s : State) (p : Nat) : (s.rederive p).StateOk p :=
  State.stateOk_of_derived (b := s.playback p) (by rw [State.playback_rederive, if_pos rfl]; rfl)

theorem State.StateOk.congr (h : s.StateOk p) (hs : (t.playback p).state = (s.playback p).state)
    (hw : (t.playback p).pendingFollow = (s.playback p).pendingFollow) (hf : t.hasFade p = s.hasFade p) : t.StateOk p := by
  unfold State.StateOk
  rw [hs, hw, hf]
  exact h

/-! ### The launch -/

theorem EntriesOk.channels_nodup {es : List LookEntry} (h : EntriesOk es) : (es.map LookEntry.channel).Nodup :=
  List.pairwise_map.mpr (h.2.2.1.imp Nat.ne_of_lt)

theorem State.claims_channels (s : State) (p : Nat) (es : List LookEntry) :
    (s.claims p es).map Claim.channel = es.map LookEntry.channel := List.map_map

theorem State.claims_congr (h : ∀ ch, (t.entry p ch).level = (s.entry p ch).level) (es : List LookEntry) : t.claims p es = s.claims p es :=
  List.map_congr_left fun e _ => by rw [h]

theorem State.lostTo_congr (h : ∀ ch, (t.entry p ch).owner = (s.entry p ch).owner) (xs : List Claim) (m : Nat) :
    t.lostTo p xs m = s.lostTo p xs m :=
  List.countP_congr fun x _ => by rw [h]

theorem State.entry_readied (s : State) (p q ch : Nat) : (s.readied p).entry q ch = s.secureSlot.1.entry q ch := by
  unfold State.entry
  by_cases h : p = q
  · subst h; rw [State.playback_readied]
  · rw [State.playback_readied_other h]

/-- The entries a look's GO takes over, as the secured slot leaves them (R73, R83). -/
def State.lookClaims (s : State) (p : Nat) (l : Look) : List Claim := s.secureSlot.1.claims p l.entries

variable {num : Nat} {o : Option Nat} {l : Look}

theorem State.taking_eq (s : State) (p num : Nat) (o : Option Nat) (l : Look) : s.taking p num o l =
    ((s.readied p).setFades ((s.readied p).fades ++ [newFade (s.readied p).freeSlot p num o l])).takeAll (s.readied p).freeSlot p
      (s.lookClaims p l) := by
  rw [State.taking, State.takeLook_eq]
  exact congrArg _ (State.claims_congr (fun ch => congrArg Entry.level (s.entry_readied p p ch)) _)

/-- The fades that outlast a launch's takeover, each without the entries it loses (R73). -/
def State.outlasting (s : State) (p : Nat) (l : Look) : List Fade :=
  (s.readied p).fades.filterMap
    (Fade.claimed (s.readied p).freeSlot (s.lookClaims p l).length (s.secureSlot.1.lostTo p (s.lookClaims p l)))

/-- The fade a launch makes, with its entries and its completion count (R70, R73). -/
def State.launched (s : State) (p num : Nat) (o : Option Nat) (l : Look) : Fade :=
  { newFade (s.readied p).freeSlot p num o l with owned := l.entries.length, completion := s.launchCount p num o l }

theorem State.lookClaims_length (s : State) (p : Nat) (l : Look) : (s.lookClaims p l).length = l.entries.length := List.length_map ..

theorem State.lookClaims_nodup (he : EntriesOk l.entries) (s : State) (p : Nat) : ((s.lookClaims p l).map Claim.channel).Nodup := by
  rw [State.lookClaims, State.claims_channels]
  exact he.channels_nodup

namespace State.FitsBut

theorem readied (h : s.FitsBut 0) (p : Nat) : (s.readied p).FitsBut 0 := (h.secureSlot.resumePlayback p).cancelFollow p

/-- A number no fade has owns nothing. -/
theorem owner_of_free (h : s.FitsBut m) (hfree : s.fade n = none) (p ch : Nat) : (s.entry p ch).owner ≠ some n := fun ho => by
  obtain ⟨f, hf, e, -⟩ := h.owners p ch n ho
  exact s.fade_none.mp hfree f hf e

theorem slot_free (h : s.FitsBut 0) (p q ch : Nat) : ((s.readied p).entry q ch).owner ≠ some (s.readied p).freeSlot :=
  (h.readied p).owner_of_free (State.readied_free h.slots p) q ch

theorem taking_fades (h : s.FitsBut 0) (he : EntriesOk l.entries) : (s.taking p num o l).fades =
    s.outlasting p l ++ [{ newFade (s.readied p).freeSlot p num o l with owned := l.entries.length }] := by
  have lost : ((s.readied p).setFades ((s.readied p).fades ++ [newFade (s.readied p).freeSlot p num o l])).lostTo p (s.lookClaims p l) =
      s.secureSlot.1.lostTo p (s.lookClaims p l) :=
    funext fun m => State.lostTo_congr (fun ch => congrArg Entry.owner (s.entry_readied p p ch)) _ m
  have unowned (x : Claim) (_ : x ∈ s.lookClaims p l) : (((s.readied p).setFades ((s.readied p).fades ++
      [newFade (s.readied p).freeSlot p num o l])).entry p x.channel).owner ≠ some (s.readied p).freeSlot := h.slot_free p p x.channel
  rw [State.taking_eq, State.takeAll_fades (State.lookClaims_nodup he s p) unowned, lost,
    State.setFades_fades, List.filterMap_append, State.lookClaims_length, State.outlasting, State.lookClaims_length]
  simp [newFade, Fade.claimed]

theorem taking (h : s.FitsBut 0) (he : EntriesOk l.entries) (hp : playbackOk p = true) :
    (s.taking p num o l).FitsBut (s.readied p).freeSlot := by
  have hfree := State.readied_free h.slots p
  have hlen : (s.readied p).fades.length < Config.fadeSlots := by
    rw [← List.length_map (f := Fade.number), State.readied_numbers, List.length_map]
    exact State.secureSlot_length h.slots
  have hrange := (s.readied p).freeSlot_range
  rw [State.taking_eq]
  refine ((h.readied p).start (f := newFade (s.readied p).freeSlot p num o l) hfree hlen ⟨hrange.1, hrange.2, hp⟩ rfl).takeAll
    (List.mem_append_right _ (List.mem_singleton_self _)) rfl rfl (State.lookClaims_nodup he s p) fun x _ => h.slot_free p p x.channel

theorem launchFade (h : s.FitsBut 0) (he : EntriesOk l.entries) (hp : playbackOk p = true) :
    s.launchFade p num o l = s.launched p num o l := by
  have last : { newFade (s.readied p).freeSlot p num o l with owned := l.entries.length } ∈ (s.taking p num o l).fades := by
    rw [h.taking_fades he]
    exact List.mem_append_right _ (List.mem_singleton_self _)
  unfold State.launchFade State.launched
  cases hf : (s.taking p num o l).fade (s.readied p).freeSlot with
  | none => exact absurd rfl (State.fade_none _ |>.mp hf _ last)
  | some g =>
    obtain ⟨hg, hnum⟩ := State.fade_some _ hf
    rw [(h.taking he hp).unique hg last hnum]
    rfl

theorem counted_fades (h : s.FitsBut 0) (he : EntriesOk l.entries) (hp : playbackOk p = true) :
    (s.counted p num o l).fades = s.outlasting p l ++ [s.launched p num o l] := by
  show ((s.taking p num o l).updateFade (s.launchFade p num o l)).fades = _
  rw [h.launchFade he hp, State.updateFade, State.setFades_fades, h.taking_fades he, List.map_append, List.map_singleton]
  refine congrArg₂ _ ((List.map_congr_left fun f hf => if_neg fun e => ?_).trans (List.map_id _)) (congrArg (fun f => [f]) (if_pos rfl))
  have hd := (h.taking (num := num) (o := o) he hp).distinct
  rw [h.taking_fades he, List.map_append, List.nodup_append] at hd
  exact hd.2.2 _ (List.mem_map_of_mem hf) _ (List.mem_singleton_self _) e

end State.FitsBut

/-- The completion count covers what each owned entry needs (R70). -/
theorem Fade.times_le_countOver (f : Fade) {tab : Tbl Entry} {ch : Nat} (h : (tab.get Entry.initial ch).owner = some f.number) :
    (f.timesOf (tab.get Entry.initial ch).part).1 + (f.timesOf (tab.get Entry.initial ch).part).2 ≤ f.countOver tab := by
  have listed : (ch, tab.get Entry.initial ch) ∈ tab := by
    rcases tab.get_cases Entry.initial ch with e | e
    · rw [e] at h; cases h
    · exact e
  have owns : ownsPart tab f.number (tab.get Entry.initial ch).part = true :=
    List.any_eq_true.mpr ⟨_, listed, by simp [h]⟩
  unfold Fade.countOver
  cases hpart : (tab.get Entry.initial ch).part with
  | up => rw [hpart] at owns; simp only [owns, if_true, Fade.timesOf]; exact Nat.le_max_left ..
  | down => rw [hpart] at owns; simp only [owns, if_true, Fade.timesOf]; exact Nat.le_max_right ..

theorem State.FitsBut.counted (h : s.FitsBut 0) (he : EntriesOk l.entries) (hp : playbackOk p = true) :
    (s.counted p num o l).FitsBut (s.readied p).freeSlot := by
  have last : { newFade (s.readied p).freeSlot p num o l with owned := l.entries.length } ∈ (s.taking p num o l).fades := by
    rw [h.taking_fades he]
    exact List.mem_append_right _ (List.mem_singleton_self _)
  refine ((h.taking he hp).updateFade last rfl ?_ ?_ ?_).setPlayback p rfl <;> rw [h.launchFade he hp] <;> rfl

theorem State.mem_launched_counted (h : s.FitsBut 0) (he : EntriesOk l.entries) (hp : playbackOk p = true) :
    s.launched p num o l ∈ (s.counted p num o l).fades := by
  rw [h.counted_fades he hp]
  exact List.mem_append_right _ (List.mem_singleton_self _)

/-- Completion, as retirement with the fade's follow scheduled (R79). -/
theorem State.FitsBut.complete (h : s.FitsBut n) {f g : Fade} (hf : f ∈ s.fades) (hn : f.number = n) (hnum : g.number = f.number)
    (hplay : g.playback = f.playback) : (s.complete g).FitsBut 0 := by
  refine (h.retire hf hn).congr ?_ fun q => ?_
  · rw [State.complete_fades, hnum, hn]; rfl
  · show _ = ((s.mapEntries f.playback (Entry.finish n)).playback q).entries
    rw [State.playback_complete, State.playback_mapEntries, hplay, hnum, hn]
    split <;> rfl

theorem State.FitsBut.launch (h : s.FitsBut 0) (he : EntriesOk l.entries) (hp : playbackOk p = true) : (s.launch p num o l).1.FitsBut 0 := by
  have hc := h.counted (num := num) (o := o) he hp
  have hmem := State.mem_launched_counted (num := num) (o := o) h he hp
  rw [State.launch_eq, h.launchFade he hp]
  split
  · exact ((hc.complete hmem rfl rfl rfl).rederive p).rederiveForced _
  · rename_i hcount
    refine ((hc.settle fun f hf hnum => ?_).rederive p).rederiveForced _
    rw [hc.unique hf hmem hnum]
    refine ⟨he.1, Nat.pos_of_ne_zero hcount, fun ch ho => ?_⟩
    have entries : ((s.counted p num o l).playback p).entries = ((s.taking p num o l).playback p).entries := by
      rw [State.counted, State.playback_setPlayback, if_pos rfl]
    have same : (s.counted p num o l).entry p ch = (s.taking p num o l).entry p ch := by
      unfold State.entry; rw [entries]
    show _ ≤ s.launchCount p num o l
    have ho : ((s.counted p num o l).entry p ch).owner = some (s.readied p).freeSlot := ho
    show (Fade.timesOf _ ((s.counted p num o l).entry p ch).part).1 + (Fade.timesOf _ ((s.counted p num o l).entry p ch).part).2 ≤ _
    rw [same] at ho ⊢
    exact Fade.times_le_countOver (newFade (s.readied p).freeSlot p num o l) ho

/-- The fades a launch leaves: those that outlast it and, where it has time to run, its own at the end of the creation list (R69, R74). -/
theorem State.FitsBut.launch_fades (h : s.FitsBut 0) (he : EntriesOk l.entries) (hp : playbackOk p = true) :
    (s.launch p num o l).1.fades =
      s.outlasting p l ++ if s.launchCount p num o l = 0 then [] else [s.launched p num o l] := by
  have hd := (h.counted (num := num) (o := o) he hp).distinct
  have hc := h.counted_fades (num := num) (o := o) he hp
  rw [State.launch_eq, h.launchFade he hp]
  split
  · show ((((s.counted p num o l).complete (s.launched p num o l)).rederive p).rederiveForced _).fades = _
    rw [hc, List.map_append, List.nodup_append] at hd
    rw [State.rederiveForced_fades, State.rederive_fades, State.complete_fades, hc, List.filter_append,
      List.filter_cons_of_neg (by simp), List.filter_nil, List.filter_eq_self.mpr]
    exact fun f hf => decide_eq_true fun e => hd.2.2 _ (List.mem_map_of_mem hf) _ (List.mem_singleton_self _) e
  · show (((s.counted p num o l).rederive p).rederiveForced _).fades = _
    rw [State.rederiveForced_fades, State.rederive_fades, hc]

/-! ### What a launch makes of held flags and of states -/

/-- A fade whose playback's hold is lifted (R72, R88). -/
def Fade.resumed (p : Nat) (f : Fade) : Fade := if f.playback = p then { f with held := false } else f

theorem State.HeldOk.readied_fades (h : s.HeldOk) (p : Nat) : (s.readied p).fades = s.secureSlot.1.fades.map (Fade.resumed p) := by
  rw [State.readied, State.cancelFollow_fades]
  by_cases hp : (s.secureSlot.1.playback p).state = .held
  · rw [State.resumePlayback_held _ hp]
    rfl
  · rw [State.resumePlayback_other _ hp]
    refine (List.map_id _).symm.trans (List.map_congr_left fun f hf => ?_)
    unfold Fade.resumed
    split
    · rename_i e
      have hheld : f.held = false := Bool.eq_false_iff.mpr fun ht => hp (e ▸ (h.secureSlot f hf).mp ht)
      exact congrArg (fun b => { f with held := b }) hheld
    · rfl

/-- What outlasts a launch on a playback: the fades of others, and its own resumed, without the entries they lose (R72, R73). -/
theorem State.FitsBut.outlasting_eq (h : s.FitsBut 0) (hheld : s.HeldOk) (p : Nat) (l : Look) : s.outlasting p l =
    s.secureSlot.1.fades.filterMap fun f =>
      if f.playback ≠ p then some f
      else if f.owned ≤ s.secureSlot.1.lostTo p (s.lookClaims p l) f.number then none
      else some { f with held := false, owned := f.owned - s.secureSlot.1.lostTo p (s.lookClaims p l) f.number } := by
  rw [State.outlasting, hheld.readied_fades, List.filterMap_map]
  refine List.filterMap_congr fun f hf => ?_
  have hu := h.secureSlot
  have hslot : f.number ≠ (s.readied p).freeSlot := fun e =>
    (State.fade_none _).mp (State.readied_free h.slots p) (f.resumed p)
      (by rw [hheld.readied_fades]; exact List.mem_map_of_mem hf) (by unfold Fade.resumed; split <;> exact e)
  have howned := (hu.paced f hf (Nat.ne_of_gt (hu.ranges f hf).1)).owned
  by_cases e : f.playback = p
  · by_cases h0 : s.secureSlot.1.lostTo p (s.lookClaims p l) f.number = 0
    · have : ¬ f.owned ≤ 0 := by omega
      simp [Fade.resumed, Fade.claimed, e, hslot, h0, this]
    · simp [Fade.resumed, Fade.claimed, e, hslot, h0]
  · simp [Fade.resumed, Fade.claimed, e, hslot, hu.lostTo_other hf e]

theorem State.HeldOk.readied (h : s.HeldOk) (p : Nat) : (s.readied p).HeldOk := by
  refine (h.secureSlot.resumePlayback p).of_fades (fun g hg => ⟨g, hg, rfl, rfl⟩) fun q => ?_
  rw [State.readied, State.playback_cancelFollow]
  split <;> rfl

theorem State.HeldOk.counted (h : s.HeldOk) (hfits : s.FitsBut 0) (he : EntriesOk l.entries) (hp : playbackOk p = true) :
    (s.counted p num o l).HeldOk := by
  have state (q : Nat) : ((s.counted p num o l).playback q).state = ((s.readied p).playback q).state := by
    by_cases e : p = q
    · subst e
      obtain ⟨es, hes⟩ := s.playback_counted p num o l
      rw [hes, State.playback_readied]
    · rw [State.playback_counted_other e, State.playback_readied_other e]
  intro g hg
  rw [hfits.counted_fades he hp] at hg
  rcases List.mem_append.mp hg with hg | hg
  · obtain ⟨f, hf, e⟩ := List.mem_filterMap.mp hg
    rw [(Fade.claimed_some e).1, state]
    exact h.readied p f hf
  · rw [List.mem_singleton.mp hg, state]
    refine ⟨nofun, fun e => ?_⟩
    have e : ((s.readied p).playback p).state = .held := e
    rw [State.playback_readied] at e
    dsimp only at e
    split at e
    · cases e
    · exact absurd e ‹_›

theorem State.HeldOk.complete (h : s.HeldOk) (f : Fade) : (s.complete f).HeldOk := by
  refine h.of_fades (fun g hg => ?_) fun q => ?_
  · rw [State.complete_fades] at hg
    exact ⟨g, List.mem_of_mem_filter hg, rfl, rfl⟩
  · rw [State.playback_complete]
    split <;> rfl

theorem State.HeldOk.launch (h : s.HeldOk) (hfits : s.FitsBut 0) (he : EntriesOk l.entries) (hp : playbackOk p = true) :
    (s.launch p num o l).1.HeldOk := by
  have hc := h.counted (num := num) (o := o) hfits he hp
  rw [State.launch_eq]
  split
  · exact ((hc.complete _).rederive p).rederiveForced _
  · exact (hc.rederive p).rederiveForced _

/-- A playback has the fades it had, but that of the fade fast-completed (R83). -/
theorem State.hasFade_secureSlot (hq : s.secureSlot.2.map Prod.snd ≠ some q) : s.secureSlot.1.hasFade q = s.hasFade q := by
  unfold State.secureSlot at hq ⊢
  split
  · rename_i hfull
    rw [if_pos hfull] at hq
    cases hs : s.fades with
    | nil => simp only [State.fastComplete, hs]
    | cons f rest =>
      have hne : ¬ f.playback = q := fun e => hq (by simp [State.fastComplete, hs, e])
      unfold State.hasFade
      rw [State.fastComplete_fades hs, hs, List.any_cons, beq_eq_false_iff_ne.mpr hne, Bool.false_or]
  · rfl

/-- The playback of the fade fast-completed had that fade. -/
theorem State.hasFade_forced (hq : s.secureSlot.2.map Prod.snd = some q) : s.hasFade q = true := by
  unfold State.secureSlot at hq
  split at hq
  · cases hs : s.fades with
    | nil => simp [State.fastComplete, hs] at hq
    | cons f rest =>
      simp only [State.fastComplete, hs, Option.map_some, Option.some.injEq] at hq
      exact hq ▸ State.hasFade_of_mem (hs ▸ List.mem_cons_self)
  · cases hq

theorem State.hasFade_iff : s.hasFade q = true ↔ ∃ f ∈ s.fades, f.playback = q := by
  simp [State.hasFade]

theorem State.FitsBut.hasFade_launch_other (h : s.FitsBut 0) (hheld : s.HeldOk) (he : EntriesOk l.entries) (hp : playbackOk p = true)
    (hq : p ≠ q) : (s.launch p num o l).1.hasFade q = s.secureSlot.1.hasFade q := by
  rw [Bool.eq_iff_iff, State.hasFade_iff, State.hasFade_iff, h.launch_fades he hp, h.outlasting_eq hheld]
  constructor
  · rintro ⟨g, hg, hgq⟩
    rcases List.mem_append.mp hg with hg | hg
    · obtain ⟨f, hf, e⟩ := List.mem_filterMap.mp hg
      split at e
      · cases e; exact ⟨g, hf, hgq⟩
      · split at e
        · cases e
        · cases e; exact ⟨f, hf, hgq⟩
    · split at hg
      · cases hg
      · rw [List.mem_singleton.mp hg] at hgq
        exact absurd hgq hq
  · rintro ⟨f, hf, hfq⟩
    exact ⟨f, List.mem_append_left _ (List.mem_filterMap.mpr ⟨f, hf, if_pos (hfq ▸ hq.symm)⟩), hfq⟩

/-- A playback that fits its fades is settled. -/
theorem State.StateOk.settled (h : s.StateOk q) : (s.playback q).settled (s.hasFade q) = s.playback q := by
  unfold Playback.settled
  split
  · rename_i hnone
    rw [Bool.and_eq_true, Bool.not_eq_true', Option.isNone_iff_eq_none] at hnone
    exact congrArg (fun x => { s.playback q with state := x }) (h.mpr hnone).symm
  · rfl

theorem State.hasFade_rederives (s : State) (p : Nat) (x : Option (Nat × Nat)) (q : Nat) :
    ((s.rederive p).rederiveForced x).hasFade q = s.hasFade q := State.hasFade_congr (State.rederiveForced_fades (s.rederive p) x) q

/-- Any other playback at the end of an event that secured a slot: as that left it, its state derived again (R64, R83). -/
theorem State.StateOk.rederives_other {w : State} (h : s.StateOk q) (hq : p ≠ q) (hw : w.playback q = s.secureSlot.1.playback q)
    (hf : w.hasFade q = s.secureSlot.1.hasFade q) :
    ((w.rederive p).rederiveForced s.secureSlot.2).playback q = (s.secureSlot.1.playback q).settled
        (((w.rederive p).rederiveForced s.secureSlot.2).hasFade q) ∧
      ((w.rederive p).rederiveForced s.secureSlot.2).StateOk q := by
  rw [w.hasFade_rederives]
  have hfade := w.hasFade_rederives p s.secureSlot.2 q
  have hplay := State.playback_rederiveForced (w.rederive p) s.secureSlot.2 q
  rw [State.playback_rederive, if_neg hq, hw] at hplay
  obtain ⟨es, hes⟩ := s.playback_secureSlot q
  by_cases hforced : s.secureSlot.2.map Prod.snd = some q
  · rw [if_pos hforced] at hplay
    refine ⟨hplay.trans (Playback.derived_eq_settled fun e => ?_), State.stateOk_of_derived (hplay.trans (by rw [hfade]; rfl))⟩
    rw [hes] at e
    exact absurd (State.hasFade_forced hforced) (by rw [(h.mp e).1]; exact Bool.false_ne_true)
  · rw [if_neg hforced] at hplay
    have same : w.hasFade q = s.hasFade q := hf.trans (State.hasFade_secureSlot hforced)
    refine ⟨?_, h.congr (by rw [hplay, hes]) (by rw [hplay, hes]) (hfade.trans same)⟩
    have hu : s.secureSlot.1.StateOk q := h.congr (by rw [hes]) (by rw [hes]) (State.hasFade_secureSlot hforced)
    rw [hplay, hf, hu.settled]

/-- Any other playback at the end of a launch. -/
theorem State.FitsBut.launch_other (h : s.FitsBut 0) (hheld : s.HeldOk) (hq' : s.StateOk q) (he : EntriesOk l.entries)
    (hp : playbackOk p = true) (hq : p ≠ q) :
    (s.launch p num o l).1.playback q = (s.secureSlot.1.playback q).settled ((s.launch p num o l).1.hasFade q) ∧
      (s.launch p num o l).1.StateOk q := by
  have hfade := h.hasFade_launch_other (num := num) (o := o) hheld he hp hq
  have hplay : (s.launchFade p num o l).playback = p := by rw [h.launchFade he hp]; rfl
  rw [State.launch_eq] at hfade ⊢
  split at hfade
  · rename_i hcount
    rw [if_pos hcount]
    refine hq'.rederives_other (w := (s.counted p num o l).complete (s.launchFade p num o l)) hq ?_ ((State.hasFade_rederives ..).symm.trans hfade)
    rw [State.playback_complete, hplay, if_neg hq, State.playback_counted_other hq]
  · rename_i hcount
    rw [if_neg hcount]
    exact hq'.rederives_other (w := s.counted p num o l) hq (State.playback_counted_other hq)
      ((State.hasFade_rederives ..).symm.trans hfade)

theorem State.launch_stateOk (h : s.fades.length ≤ Config.fadeSlots) : (s.launch p num o l).1.StateOk p := by
  obtain ⟨es, hes⟩ := State.playback_launch (p := p) (num := num) (o := o) (l := l) h
  exact State.stateOk_of_derived hes

end

end Sys2Proof.Machine
end

section
/-!
SUPPORT. The fade engine's relations through its requests and its follows (R64 to R92).
-/

namespace Sys2Proof.Machine

section
variable {s t : State} {n p q num : Nat}

/-! ### The relations at the end of an event -/

/-- The fade engine's relations over canonical entries. -/
structure State.FadesFit (s : State) : Prop where
  fits : s.FitsBut 0
  held : s.HeldOk
  states : ∀ p, s.StateOk p

theorem State.FadesOk.fadesFit (h : s.FadesOk) (hc : s.Canonical) : s.FadesFit := ⟨h.fits hc, h.held, h.states⟩
theorem State.FadesFit.fadesOk (h : s.FadesFit) : s.FadesOk := h.fits.fadesOk h.held h.states

/-- Every stored look has an entry list a look may have. -/
def State.StoredOk (s : State) : Prop := ∀ b n l, s.look b n = some l → EntriesOk l.entries

theorem State.StoredOk.of_only (h : s.StoredOk) (hs : s.FadeEngineOnly t) : t.StoredOk := by
  rw [hs]
  exact h

/-- A state derived on a playback without its fades or entries touched. -/
theorem State.StateOk.rederive_other (h : s.StateOk q) (hpq : p ≠ q) : (s.rederive p).StateOk q := by
  have same : (s.rederive p).playback q = s.playback q := by rw [State.playback_rederive, if_neg hpq]
  exact h.congr (by rw [same]) (by rw [same]) rfl

/-- A change of fades that keeps each on its playback. -/
theorem State.hasFade_mapFades {φ : Fade → Fade} (h : ∀ f, (φ f).playback = f.playback) (q : Nat) :
    (s.setFades (s.fades.map φ)).hasFade q = s.hasFade q := by
  simp [State.hasFade, Function.comp_def, h]

namespace State.FadesFit

/-- The relations read fades and playbacks alone. -/
theorem congr (h : s.FadesFit) (hf : t.fades = s.fades) (hp : ∀ p, (t.playback p).entries = (s.playback p).entries ∧
    (t.playback p).state = (s.playback p).state ∧ (t.playback p).pendingFollow = (s.playback p).pendingFollow) : t.FadesFit :=
  ⟨h.fits.congr hf fun p => (hp p).1, h.held.of_fades (fun g hg => ⟨g, hf ▸ hg, rfl, rfl⟩) fun p => (hp p).2.1,
    fun p => (h.states p).congr (hp p).2.1 (hp p).2.2 (State.hasFade_congr hf p)⟩

theorem sameEngine (h : s.FadesFit) (hs : s.SameEngine t) : t.FadesFit := by
  have same (p : Nat) : t.playback p = s.playback p := by simp only [State.playback, hs.playbacks]
  exact h.congr hs.fades fun p => by rw [same]; exact ⟨rfl, rfl, rfl⟩

/-- The end of an event that touched one playback: its state is derived. -/
theorem of_rederive (hf : s.FitsBut 0) (hh : s.HeldOk) (ho : ∀ q, p ≠ q → s.StateOk q) : (s.rederive p).FadesFit := by
  refine ⟨hf.rederive p, hh.rederive p, fun q => ?_⟩
  by_cases e : p = q
  · exact e ▸ s.stateOk_rederive p
  · exact (ho q e).rederive_other e

/-- The end of an event that secured a slot and touched one playback since. -/
theorem of_secured {w : State} (hf : w.FitsBut 0) (hh : w.HeldOk) (ho : ∀ q, p ≠ q → s.StateOk q)
    (hw : ∀ q, p ≠ q → w.playback q = s.secureSlot.1.playback q ∧ w.hasFade q = s.secureSlot.1.hasFade q) :
    ((w.rederive p).rederiveForced s.secureSlot.2).FadesFit := by
  refine ⟨(hf.rederive p).rederiveForced _, (hh.rederive p).rederiveForced _, fun q => ?_⟩
  by_cases e : p = q
  · subst e
    refine State.stateOk_of_derived (b := w.playback p) ?_
    rw [w.hasFade_rederives, State.playback_rederiveForced, State.playback_rederive, if_pos rfl,
      State.hasFade_congr (State.rederive_fades w p)]
    split
    · exact Playback.derived_derived ..
    · rfl
  · exact ((ho q e).rederives_other e (hw q e).1 (hw q e).2).2

/-- A launch, whatever is pending on its playback. -/
theorem launch {o : Option Nat} {l : Look} (hf : s.FitsBut 0) (hh : s.HeldOk) (ho : ∀ q, p ≠ q → s.StateOk q) (he : EntriesOk l.entries)
    (hp : playbackOk p = true) : (s.launch p num o l).1.FadesFit := by
  refine ⟨hf.launch he hp, hh.launch hf he hp, fun q => ?_⟩
  by_cases e : p = q
  · exact e ▸ State.launch_stateOk hf.slots
  · exact (hf.launch_other hh (ho q e) he hp e).2

/-- A pending follow that fires leaves the relations: it launches, or is missed (R81). -/
theorem fireFollow (h : s.FadesFit) (hl : s.StoredOk) (hp : playbackOk p = true) : (s.fireFollow p num).FadesFit := by
  have hh : (s.cancelFollow p).HeldOk := h.held.of_fades (fun g hg => ⟨g, hg, rfl, rfl⟩) fun q => by
    rw [State.playback_cancelFollow]; split <;> rfl
  have ho (q : Nat) (e : p ≠ q) : (s.cancelFollow p).StateOk q := by
    have same : (s.cancelFollow p).playback q = s.playback q := by rw [State.playback_cancelFollow, if_neg e]
    exact (h.states q).congr (by rw [same]) (by rw [same]) rfl
  have missed : (((s.cancelFollow p).missFollow p).rederive p).FadesFit := by
    refine of_rederive ((h.fits.cancelFollow p).setPlayback p rfl) (hh.of_fades (fun g hg => ⟨g, hg, rfl, rfl⟩) fun q => ?_)
      fun q e => (ho q e).congr ?_ ?_ rfl
    · rw [State.missFollow, State.playback_setPlayback]
      split
      · rename_i e; rw [e]
      · rfl
    · rw [State.missFollow, State.playback_setPlayback, if_neg e]
    · rw [State.missFollow, State.playback_setPlayback, if_neg e]
  unfold State.fireFollow
  dsimp only
  split
  · exact missed
  · split
    · exact missed
    · rename_i l hlook
      exact launch (h.fits.cancelFollow p) hh ho (hl _ _ l hlook) hp

theorem fireDue (h : s.FadesFit) (hl : s.StoredOk) (hp : playbackOk p = true) : (s.fireDue p).FadesFit := by
  unfold State.fireDue
  split
  · exact h
  · split
    · exact h.fireFollow hl hp
    · exact h

/-- GO (R71 to R74, R80). -/
theorem go (h : s.FadesFit) (hl : s.StoredOk) (ps : List Byte) : (go ps s).1.FadesFit := by
  unfold Machine.go
  split
  · rename_i b n1 n0 present t1 t0
    split
    · exact h
    · rename_i hr
      simp only [Bool.not_eq_true', Bool.not_eq_false] at hr
      obtain ⟨hp, -, -⟩ := go_inRange.mp hr
      split
      · exact h
      · split
        · exact h
        · rename_i l hlook
          generalize (if present = 0 then none else some (word t1 t0)) = o
          have launched : (s.launch b.toNat (word n1 n0) o l).1.FadesFit :=
            launch h.fits h.held (fun q _ => h.states q) (hl _ _ l hlook) hp
          dsimp only
          split
          · exact launched.fireDue (hl.of_only (s.launch_only ..)) hp
          · exact launched
  · exact h

/-- HOLD (R87). -/
theorem hold (h : s.FadesFit) (ps : List Byte) : (hold ps s).1.FadesFit := by
  unfold Machine.hold
  split
  · rename_i b
    split
    · exact h
    · split
      · exact h
      · rename_i hi
        refine ⟨(h.fits.mapFades (fun f => ?_) fun f _ _ => ?_).setPlayback _ rfl, fun g hg => ?_, fun q => ?_⟩
        · split <;> exact ⟨rfl, rfl, rfl⟩
        · split <;> exact ⟨rfl, rfl, rfl⟩
        · obtain ⟨f, hf, rfl⟩ := List.mem_map.mp hg
          rw [State.playback_setPlayback]
          by_cases e : f.playback = b.toNat
          · simp [e]
          · rw [if_neg e, if_neg (Ne.symm e)]
            exact h.held f hf
        · have hasFade : (s.setFades (s.fades.map fun f => if f.playback = b.toNat then { f with held := true } else f)).hasFade q =
              s.hasFade q := State.hasFade_mapFades (fun f => by split <;> rfl) q
          by_cases e : b.toNat = q
          · subst e
            have hno := mt (h.states b.toNat).mpr hi
            unfold State.StateOk
            rw [State.playback_setPlayback, if_pos rfl]
            exact ⟨nofun, fun hx => absurd ⟨hasFade.symm.trans hx.1, hx.2⟩ hno⟩
          · refine (h.states q).congr ?_ ?_ hasFade <;> rw [State.playback_setPlayback, if_neg e] <;> rfl
  · exact h

theorem resumePlayback (h : s.FadesFit) (p : Nat) : (s.resumePlayback p).FadesFit := by
  refine ⟨h.fits.resumePlayback p, h.held.resumePlayback p, fun q => ?_⟩
  have hasFade : (s.resumePlayback p).hasFade q = s.hasFade q := by
    by_cases hp : (s.playback p).state = .held
    · rw [s.resumePlayback_held hp]
      exact State.hasFade_mapFades (fun f => by split <;> rfl) q
    · rw [s.resumePlayback_other hp]
  unfold State.StateOk
  rw [hasFade, State.playback_resumePlayback]
  split
  · rename_i e
    have hno := mt (h.states q).mpr (by rw [e.2]; nofun)
    exact ⟨nofun, fun hx => absurd hx hno⟩
  · exact h.states q

theorem resume (h : s.FadesFit) (ps : List Byte) : (resume ps s).1.FadesFit := by
  unfold Machine.resume
  split
  · split
    · exact h
    · split
      · exact h.resumePlayback _
      · exact h
  · exact h

/-- STOP-LOOP changes what no relation reads (R89). -/
theorem stopLoop (h : s.FadesFit) (ps : List Byte) : (stopLoop ps s).1.FadesFit := by
  unfold Machine.stopLoop
  split
  · rename_i b
    split
    · exact h
    · refine ⟨h.fits.mapFades (fun f => ?_) fun f _ _ => ?_, h.held.of_fades (fun g hg => ?_) fun _ => rfl, fun q => (h.states q).congr rfl rfl ?_⟩
      · split <;> exact ⟨rfl, rfl, rfl⟩
      · split <;> exact ⟨rfl, rfl, rfl⟩
      · obtain ⟨f, hf, rfl⟩ := List.mem_map.mp hg
        refine ⟨f, hf, ?_⟩
        split <;> exact ⟨rfl, rfl⟩
      · exact State.hasFade_mapFades (fun f => by split <;> rfl) q
  · exact h

theorem setMaster (h : s.FadesFit) (p : Nat) {v : Playback}
    (hv : v.entries = (s.playback p).entries ∧ v.state = (s.playback p).state ∧ v.pendingFollow = (s.playback p).pendingFollow) :
    (s.setPlayback p v).FadesFit := h.congr rfl fun q => by
  rw [State.playback_setPlayback]
  split
  · rename_i e; exact e ▸ hv
  · exact ⟨rfl, rfl, rfl⟩

theorem master (h : s.FadesFit) (ps : List Byte) : (master ps s).1.FadesFit := by
  unfold Machine.master
  split
  · split
    · exact h
    · exact h.setMaster _ ⟨rfl, rfl, rfl⟩
  · exact h

/-- No fade, no owner, and every playback IDLE with no pending follow. -/
theorem of_still (hf : s.fades = []) (ht : ∀ p, (s.playback p).entries.Canonical Entry.initial) (ho : ∀ p ch, (s.entry p ch).owner = none)
    (hp : ∀ p, (s.playback p).state = .idle ∧ (s.playback p).pendingFollow = none) : s.FadesFit := by
  refine ⟨⟨ht, ?_, ?_, ?_, fun p ch n e => ?_, ?_, fun p ch e => absurd (ho p ch) e, ?_⟩, ?_, fun p => ?_⟩
  · rw [hf]; exact Nat.zero_le _
  · rw [hf]; exact .nil
  · rw [hf]; nofun
  · rw [ho] at e; cases e
  · rw [hf]; nofun
  · rw [hf]; nofun
  · unfold State.HeldOk; rw [hf]; nofun
  · unfold State.StateOk State.hasFade
    rw [hf]
    exact ⟨fun _ => ⟨rfl, (hp p).2⟩, fun _ => (hp p).1⟩

theorem deskCleared (s : State) : s.deskClear.FadesFit := by
  refine of_still rfl (fun p => ?_) (fun p ch => ?_) fun p => ?_
  · rw [State.playback_deskClear]; exact Tbl.canonical_mapVals Entry.initial (fun _ => Entry.disown) _
  · rw [State.entry_deskClear]; rfl
  · rw [State.playback_deskClear]; exact ⟨rfl, rfl⟩

theorem deskClear (h : s.FadesFit) (ps : List Byte) : (Machine.deskClear ps s).1.FadesFit := by
  unfold Machine.deskClear
  split
  · exact deskCleared s
  · exact h

/-- After a switch (R97). -/
theorem switched (s : State) : s.switchOver.FadesFit := by
  refine of_still rfl (fun p => ?_) (fun p ch => ?_) fun p => ?_
  · rw [State.playback_switchOver]; exact Tbl.canonical_mapVals Entry.initial (fun _ (e : Entry) => { e with level := 0, owner := none }) _
  · rw [State.entry_switchOver]
  · rw [State.playback_switchOver]; exact ⟨rfl, rfl⟩

theorem changeover (h : s.FadesFit) (ps : List Byte) : (Machine.changeover ps s).1.FadesFit := by
  unfold Machine.changeover
  split
  · split
    · exact h
    · split
      · exact h
      · split
        · exact h
        · dsimp only
          split
          · exact switched _
          · exact h.sameEngine ⟨rfl, rfl⟩
  · exact h

/-- STATUS-ACK clears flags alone (R193). -/
theorem statusAck (h : s.FadesFit) (ps : List Byte) : (statusAck ps s).1.FadesFit := by
  unfold Machine.statusAck
  split
  · exact h.congr rfl fun p => by rw [State.playback_acknowledgeAll]; exact ⟨rfl, rfl, rfl⟩
  · exact h

end State.FadesFit

end

end Sys2Proof.Machine
end

section
/-!
SUPPORT. RELEASE, by its stages, and what it leaves (R83, R85, R86). SETTLES the obligation on it.
-/

namespace Sys2Proof.Machine

section
variable {s t : State} {n m p q ch time : Nat} {held : Bool}

/-! ### Qualifying entries (R85) -/

theorem State.mem_qualifying (h : (s.playback p).entries.Canonical Entry.initial) :
    ch ∈ s.qualifying p ↔ 0 < (s.entry p ch).level ∨ (s.entry p ch).owner ≠ none := by
  have reads (e : Entry) : (decide (0 < e.level) || e.owner.isSome) = true ↔ 0 < e.level ∨ e.owner ≠ none := by
    rw [Bool.or_eq_true, decide_eq_true_eq, Option.isSome_iff_ne_none]
  unfold State.qualifying
  rw [List.mem_map]
  constructor
  · rintro ⟨⟨k, e⟩, hmem, rfl⟩
    obtain ⟨hmem, hq⟩ := List.mem_filter.mp hmem
    rw [State.entry, Tbl.get_of_mem _ h.1 hmem]
    exact (reads e).mp hq
  · intro hq
    rcases (s.playback p).entries.get_cases Entry.initial ch with e | e
    · rw [State.entry, e] at hq
      exact absurd hq (by simp [Entry.initial])
    · exact ⟨_, List.mem_filter.mpr ⟨e, (reads _).mpr hq⟩, rfl⟩

theorem State.qualifying_nodup (h : (s.playback p).entries.Canonical Entry.initial) : (s.qualifying p).Nodup :=
  List.pairwise_map.mpr ((h.1.filter _).imp Nat.ne_of_lt)

theorem State.qualifying_congr (h : (t.playback p).entries = (s.playback p).entries) : t.qualifying p = s.qualifying p := by
  unfold State.qualifying
  rw [h]

/-! ### Taking a playback down -/

/-- The claims of a RELEASE: every qualifying entry down to 0 (R85). -/
def State.downClaims (s : State) (p : Nat) : List Claim := (s.qualifying p).map fun ch => ⟨ch, 0, .down⟩

/-- The release fade in its slot, with the qualifying entries taken over by it (R85). -/
def State.releasing (s : State) (p time : Nat) (held : Bool) : State :=
  (s.setFades (s.fades ++ [releaseFade s.freeSlot p time held])).takeAll s.freeSlot p (s.downClaims p)

/-- The release fade with its entries. -/
def State.releaser (s : State) (p time : Nat) (held : Bool) : Fade :=
  { releaseFade s.freeSlot p time held with owned := (s.qualifying p).length }

theorem State.downClaims_channels (s : State) (p : Nat) : (s.downClaims p).map Claim.channel = s.qualifying p := by
  rw [State.downClaims, List.map_map]
  exact List.map_id _

/-- Every entry a fade owns qualifies, so a release takes them all. -/
theorem State.lostTo_downClaims (h : (s.playback p).entries.Canonical Entry.initial) (m : Nat) :
    s.lostTo p (s.downClaims p) m = s.ownedBy p m := by
  unfold State.lostTo State.downClaims State.qualifying State.ownedBy
  rw [List.countP_map, List.countP_map, List.countP_filter]
  refine List.countP_congr fun e hmem => ?_
  simp only [Function.comp_apply]
  rw [State.entry, Tbl.get_of_mem _ h.1 hmem]
  cases e.2.owner <;> simp

namespace State.FitsBut

/-- A fade owns an entry (R66). -/
theorem exists_owned (h : s.FitsBut 0) {f : Fade} (hf : f ∈ s.fades) : ∃ ch, (s.entry f.playback ch).owner = some f.number := by
  have howned := (h.paced f hf (Nat.ne_of_gt (h.ranges f hf).1)).owned
  rw [h.owned f hf, State.ownedBy] at howned
  obtain ⟨⟨ch, e⟩, hmem, ho⟩ := List.countP_pos_iff.mp howned
  exact ⟨ch, by rw [State.entry, Tbl.get_of_mem _ (h.tables _).1 hmem]; simpa using ho⟩

theorem unowned (h : s.FitsBut 0) (hlen : s.fades.length < Config.fadeSlots) (x : Claim) :
    ((s.setFades (s.fades ++ [releaseFade s.freeSlot p time held])).entry p x.channel).owner ≠ some s.freeSlot :=
  h.owner_of_free (s.freeSlot_free hlen) p x.channel

/-- Of the fades those of other playbacks outlast a release; its own stands at the end of the creation list (R85, R86). -/
theorem releasing_fades (h : s.FitsBut 0) (hlen : s.fades.length < Config.fadeSlots) : (s.releasing p time held).fades =
    (s.fades.filter fun f => f.playback ≠ p) ++ [s.releaser p time held] := by
  have free := s.fade_none.mp (s.freeSlot_free hlen)
  rw [State.releasing, State.takeAll_fades (by rw [State.downClaims_channels]; exact State.qualifying_nodup (h.tables p))
    fun x _ => h.unowned hlen x, State.setFades_fades, List.filterMap_append]
  refine congrArg₂ _ ?_ ?_
  · rw [← List.filterMap_eq_filter]
    refine List.filterMap_congr fun f hf => ?_
    have lost : (s.setFades (s.fades ++ [releaseFade s.freeSlot p time held])).lostTo p (s.downClaims p) f.number = s.ownedBy p f.number :=
      State.lostTo_downClaims (h.tables p) _
    unfold Fade.claimed
    rw [if_neg (free f hf), lost]
    by_cases e : f.playback = p
    · have howned := h.owned f hf
      have hone := (h.paced f hf (Nat.ne_of_gt (h.ranges f hf).1)).owned
      rw [e] at howned
      rw [if_neg (by omega), if_pos (by omega)]
      simp [Option.guard, e]
    · rw [← State.lostTo_downClaims (h.tables p), h.lostTo_other hf e]
      simp [Option.guard, e]
  · simp [Fade.claimed, releaseFade, State.releaser, State.downClaims]

theorem releasing (h : s.FitsBut 0) (hlen : s.fades.length < Config.fadeSlots) (hp : playbackOk p = true) :
    (s.releasing p time held).FitsBut s.freeSlot :=
  (h.start (f := releaseFade s.freeSlot p time held) (s.freeSlot_free hlen) hlen ⟨s.freeSlot_range.1, s.freeSlot_range.2, hp⟩ rfl).takeAll
    (List.mem_append_right _ (List.mem_singleton_self _)) rfl rfl
    (by rw [State.downClaims_channels]; exact State.qualifying_nodup (h.tables p)) fun x _ => h.unowned hlen x

theorem mem_releaser (h : s.FitsBut 0) (hlen : s.fades.length < Config.fadeSlots) :
    s.releaser p time held ∈ (s.releasing p time held).fades := by
  rw [h.releasing_fades hlen]
  exact List.mem_append_right _ (List.mem_singleton_self _)

/-- The qualifying entries are taken down from where they stand, and no other entry changes (R85). -/
theorem entry_releasing (h : s.FitsBut 0) (q ch : Nat) : (s.releasing p time held).entry q ch =
    if p = q ∧ (0 < (s.entry q ch).level ∨ (s.entry q ch).owner ≠ none) then
      ⟨(s.entry q ch).level, some s.freeSlot, (s.entry q ch).level, 0, .down⟩ else s.entry q ch := by
  have hd : ((s.downClaims p).map Claim.channel).Nodup := by
    rw [State.downClaims_channels]; exact State.qualifying_nodup (h.tables p)
  by_cases hq : p = q ∧ (0 < (s.entry q ch).level ∨ (s.entry q ch).owner ≠ none)
  · rw [if_pos hq]
    obtain ⟨rfl, hq⟩ := hq
    exact State.entry_takeAll _ hd (List.mem_map.mpr ⟨ch, (State.mem_qualifying (h.tables p)).mpr hq, rfl⟩)
  · rw [if_neg hq]
    refine State.entry_takeAll_other _ fun e x hx hch => hq ⟨e, ?_⟩
    obtain ⟨k, hk, rfl⟩ := List.mem_map.mp hx
    rw [← e, ← hch]
    exact (State.mem_qualifying (h.tables p)).mp hk

/-- With time to run the release fade runs short of its completion count (R85). -/
theorem releasing_settled (h : s.FitsBut 0) (hlen : s.fades.length < Config.fadeSlots) (hp : playbackOk p = true) (ht : 0 < time)
    (hq : s.qualifying p ≠ []) : (s.releasing p time held).FitsBut 0 := by
  refine (h.releasing hlen hp).settle fun f hf hnum => ?_
  rw [(h.releasing hlen hp).unique hf (h.mem_releaser hlen) hnum]
  refine ⟨List.length_pos_iff.mpr hq, ht, fun ch ho => ?_⟩
  have times (part : Part) : ((s.releaser p time held).timesOf part).1 + ((s.releaser p time held).timesOf part).2 = time := by
    cases part <;> exact Nat.zero_add time
  exact Nat.le_of_eq (times _)

end State.FitsBut

theorem State.playback_releasing_other (s : State) (time : Nat) (held : Bool) (hq : p ≠ q) :
    (s.releasing p time held).playback q = s.playback q := State.playback_takeAll_other _ _ hq

theorem State.playback_releasing (s : State) (p time : Nat) (held : Bool) :
    ∃ es, (s.releasing p time held).playback p = { s.playback p with entries := es } := State.playback_takeAll ..

/-- The release fade is held as its playback is (R86). -/
theorem State.HeldOk.releasing (h : s.HeldOk) (hf : s.FitsBut 0) (hlen : s.fades.length < Config.fadeSlots)
    (hheld : held = true ↔ (s.playback p).state = .held) : (s.releasing p time held).HeldOk := by
  have state (q : Nat) : ((s.releasing p time held).playback q).state = (s.playback q).state := by
    by_cases e : p = q
    · subst e
      obtain ⟨es, hes⟩ := s.playback_releasing p time held
      rw [hes]
    · rw [State.playback_releasing_other s time held e]
  intro g hg
  rw [hf.releasing_fades hlen] at hg
  rw [state]
  rcases List.mem_append.mp hg with hg | hg
  · exact h g (List.mem_of_mem_filter hg)
  · rw [List.mem_singleton.mp hg]; exact hheld

/-! ### RELEASE -/

/-- A playback whose pending follow is cancelled and whose last look is absent (R85). -/
def State.unlooked (s : State) (p : Nat) : State := s.setPlayback p { s.playback p with pendingFollow := none, lastLook := none }

/-- RELEASE by its stages. -/
theorem release_eq {pb t1 t0 : Byte} (hp : playbackOk pb.toNat = true) (s : State) : release [pb, t1, t0] s =
    if (s.unlooked pb.toNat).qualifying pb.toNat = [] then ((s.unlooked pb.toNat).rederive pb.toNat, .done 0 [0, 0, 0, 0, 0])
    else if (s.unlooked pb.toNat).secureSlot.1.qualifying pb.toNat = [] then
      (((s.unlooked pb.toNat).secureSlot.1.rederive pb.toNat).rederiveForced (s.unlooked pb.toNat).secureSlot.2,
        .done 0 ([0, 0] ++ forcedData (s.unlooked pb.toNat).secureSlot.2))
    else if word t1 t0 = 0 then
      (((((s.unlooked pb.toNat).secureSlot.1.releasing pb.toNat (word t1 t0) (decide ((s.playback pb.toNat).state = .held))).complete
          (releaseFade (s.unlooked pb.toNat).secureSlot.1.freeSlot pb.toNat (word t1 t0)
            (decide ((s.playback pb.toNat).state = .held)))).rederive pb.toNat).rederiveForced (s.unlooked pb.toNat).secureSlot.2,
        .done ((s.unlooked pb.toNat).secureSlot.1.qualifying pb.toNat).length ([0, 0] ++ forcedData (s.unlooked pb.toNat).secureSlot.2))
    else
      ((((s.unlooked pb.toNat).secureSlot.1.releasing pb.toNat (word t1 t0) (decide ((s.playback pb.toNat).state = .held))).rederive
          pb.toNat).rederiveForced (s.unlooked pb.toNat).secureSlot.2,
        .done ((s.unlooked pb.toNat).secureSlot.1.qualifying pb.toNat).length
          (encOpt1 (some (s.unlooked pb.toNat).secureSlot.1.freeSlot) ++ forcedData (s.unlooked pb.toNat).secureSlot.2)) := by
  simp only [release, hp, Bool.not_true, Bool.false_eq_true, if_false, State.takeDown_eq]
  rfl

theorem State.playback_unlooked (s : State) (p q : Nat) : (s.unlooked p).playback q =
    if p = q then { s.playback q with pendingFollow := none, lastLook := none } else s.playback q := by
  rw [State.unlooked, State.playback_setPlayback]
  split
  · rename_i e; rw [e]
  · rfl

/-- No entry changes in it. -/
theorem State.entries_unlooked (s : State) (p q : Nat) : ((s.unlooked p).playback q).entries = (s.playback q).entries := by
  rw [State.playback_unlooked]
  split <;> rfl

theorem State.unlooked_alike (s : State) (p : Nat) : s.Alike (s.unlooked p) := ⟨rfl, s.entries_unlooked p⟩

/-- A slot secured after it is as one secured before. -/
theorem State.playback_unlooked_secureSlot (s : State) (p q : Nat) : (s.unlooked p).secureSlot.1.playback q =
    if p = q then { s.secureSlot.1.playback q with pendingFollow := none, lastLook := none } else s.secureSlot.1.playback q := by
  obtain ⟨halike, hforced⟩ := (s.unlooked_alike p).secureSlot
  have hentries := halike.entries q
  obtain ⟨es, hes⟩ := s.playback_secureSlot q
  obtain ⟨es', hes'⟩ := (s.unlooked p).playback_secureSlot q
  rw [hes, hes'] at hentries
  change es' = es at hentries
  rw [hes, hes', hforced, hentries, State.playback_unlooked]
  split <;> rfl

theorem State.FadesFit.unlooked (h : s.FadesFit) (p : Nat) :
    (s.unlooked p).FitsBut 0 ∧ (s.unlooked p).HeldOk ∧ ∀ q, p ≠ q → (s.unlooked p).StateOk q := by
  refine ⟨h.fits.setPlayback p rfl, h.held.of_fades (fun g hg => ⟨g, hg, rfl, rfl⟩) fun q => ?_, fun q hq => ?_⟩
  · rw [State.playback_unlooked]; split <;> rfl
  · have same : (s.unlooked p).playback q = s.playback q := by rw [State.playback_unlooked, if_neg hq]
    exact (h.states q).congr (by rw [same]) (by rw [same]) rfl

theorem State.FitsBut.hasFade_releasing (h : s.FitsBut 0) (hlen : s.fades.length < Config.fadeSlots) (hq : p ≠ q) :
    (s.releasing p time held).hasFade q = s.hasFade q := by
  rw [Bool.eq_iff_iff, State.hasFade_iff, State.hasFade_iff, h.releasing_fades hlen]
  constructor
  · rintro ⟨g, hg, hgq⟩
    rcases List.mem_append.mp hg with hg | hg
    · exact ⟨g, List.mem_of_mem_filter hg, hgq⟩
    · rw [List.mem_singleton.mp hg] at hgq
      exact absurd hgq hq
  · rintro ⟨f, hf, hfq⟩
    exact ⟨f, List.mem_append_left _ (List.mem_filter.mpr ⟨hf, decide_eq_true fun e => hq (e.symm.trans hfq)⟩), hfq⟩

theorem releaseFade_playback (slot p time : Nat) (held : Bool) : (releaseFade slot p time held).playback = p := rfl

/-- A release that has no time to run: its fade made and completed at once (R85). -/
def State.released (s : State) (p : Nat) (held : Bool) : State :=
  (s.releasing p 0 held).complete (releaseFade s.freeSlot p 0 held)

theorem State.FitsBut.released_fades (h : s.FitsBut 0) (hlen : s.fades.length < Config.fadeSlots) :
    (s.released p held).fades = s.fades.filter fun f => f.playback ≠ p := by
  rw [State.released, State.complete_fades, h.releasing_fades hlen, List.filter_append, List.filter_cons_of_neg (by simp [State.releaser, releaseFade]),
    List.filter_nil, List.append_nil, List.filter_eq_self]
  exact fun f hf => decide_eq_true (s.fade_none.mp (s.freeSlot_free hlen) f (List.mem_of_mem_filter hf))

theorem State.playback_released_other (s : State) (held : Bool) (hq : p ≠ q) : (s.released p held).playback q = s.playback q := by
  rw [State.released, State.playback_complete, releaseFade_playback, if_neg hq, State.playback_releasing_other s 0 held hq]

theorem State.playback_released (s : State) (p : Nat) (held : Bool) :
    ∃ es, (s.released p held).playback p = { s.playback p with entries := es } := by
  obtain ⟨es, hes⟩ := s.playback_releasing p 0 held
  exact ⟨es.mapVals Entry.initial fun _ => Entry.finish s.freeSlot, by
    rw [State.released, State.playback_complete, releaseFade_playback, if_pos rfl, hes]; rfl⟩

theorem State.FitsBut.hasFade_released (h : s.FitsBut 0) (hlen : s.fades.length < Config.fadeSlots) (hq : p ≠ q) :
    (s.released p held).hasFade q = s.hasFade q := by
  rw [Bool.eq_iff_iff, State.hasFade_iff, State.hasFade_iff, h.released_fades hlen]
  refine exists_congr fun f => and_congr_left fun hfq => ?_
  rw [List.mem_filter, decide_eq_true_eq]
  exact and_iff_left fun e => hq (e.symm.trans hfq)

theorem State.FitsBut.released (h : s.FitsBut 0) (hlen : s.fades.length < Config.fadeSlots) (hp : playbackOk p = true) :
    (s.released p held).FitsBut 0 := (h.releasing hlen hp).complete (h.mem_releaser hlen) rfl rfl rfl

/-- No entry of the playback stands above 0 or is owned once it is released at once (R85). -/
theorem State.FitsBut.entry_released (h : s.FitsBut 0) (ch : Nat) :
    ((s.released p held).entry p ch).level = 0 ∧ ((s.released p held).entry p ch).owner = none := by
  rw [State.released, State.entry_complete, releaseFade_playback, if_pos rfl, h.entry_releasing]
  by_cases hq : 0 < (s.entry p ch).level ∨ (s.entry p ch).owner ≠ none
  · rw [if_pos ⟨rfl, hq⟩]
    simp [Entry.finish, releaseFade]
  · rw [if_neg fun e => hq e.2]
    rw [not_or, not_not, Nat.pos_iff_ne_zero, not_not] at hq
    simp [Entry.finish, hq]

/-- RELEASE keeps the relations of the fade engine. -/
theorem State.FadesFit.release (h : s.FadesFit) (ps : List Byte) : (release ps s).1.FadesFit := by
  by_cases hps : ∃ pb t1 t0, ps = [pb, t1, t0]
  · obtain ⟨pb, t1, t0, rfl⟩ := hps
    cases hp : playbackOk pb.toNat with
    | false => simpa [Machine.release, hp] using h
    | true =>
      obtain ⟨hf, hh, ho⟩ := h.unlooked pb.toNat
      have hu := hf.secureSlot
      have hlen := State.secureSlot_length hf.slots
      have held : decide ((s.playback pb.toNat).state = .held) = true ↔
          ((s.unlooked pb.toNat).secureSlot.1.playback pb.toNat).state = .held := by
        obtain ⟨es, hes⟩ := (s.unlooked pb.toNat).playback_secureSlot pb.toNat
        rw [hes, State.playback_unlooked, if_pos rfl, decide_eq_true_eq]
      rw [release_eq hp]
      split
      · exact of_rederive hf hh ho
      · split
        · exact of_secured hu hh.secureSlot ho fun q _ => ⟨rfl, rfl⟩
        · rename_i hq
          split
          · rename_i ht
            rw [ht]
            exact of_secured (hu.released hlen hp) ((hh.secureSlot.releasing hu hlen held).complete _) ho
              fun q e => ⟨State.playback_released_other _ _ e, hu.hasFade_released hlen e⟩
          · rename_i ht
            exact of_secured (hu.releasing_settled hlen hp (Nat.pos_of_ne_zero ht) hq) (hh.secureSlot.releasing hu hlen held) ho
              fun q e => ⟨State.playback_releasing_other _ _ _ e, hu.hasFade_releasing hlen e⟩
  · unfold Machine.release
    split
    · exact absurd ⟨_, _, _, rfl⟩ hps
    · exact h

/-! ### The slot secured, as the answers name it -/

/-- Securing a slot is as R72 and R83 say. -/
theorem State.secureSlot_secured (s : State) : s.SlotSecured s.secureSlot.1 := by
  unfold State.SlotSecured State.secureSlot
  by_cases h : s.fades.length < 48
  · rw [if_pos h, if_neg (Nat.not_le_of_lt h)]
  · rw [if_neg h, if_pos (Nat.le_of_not_lt h)]
    cases hs : s.fades with
    | nil => simp [hs] at h
    | cons f rest =>
      refine ⟨f, rest, rfl, ?_, State.entry_fastComplete hs, fun p => ?_⟩
      · rw [State.fastComplete_cons hs]; rfl
      · rw [State.playback_fastComplete hs]
        by_cases e : p = f.playback
        · simp [e]
        · rw [if_neg e, beq_eq_false_iff_ne.mpr e, Bool.or_false]

theorem State.forcedData_secureSlot (s : State) : forcedData s.secureSlot.2 = s.forcedAnswer := by
  unfold State.forcedAnswer State.secureSlot
  by_cases h : s.fades.length < 48
  · rw [if_pos h, if_neg (Nat.not_le_of_lt h)]; rfl
  · rw [if_neg h, if_pos (Nat.le_of_not_lt h)]
    cases hs : s.fades with
    | nil => simp [hs] at h
    | cons f rest => rw [State.fastComplete_cons hs]; rfl

/-- The slot found is the lowest free one (R69). -/
theorem State.freeSlot_lowest (h : s.fades.length < Config.fadeSlots) (m : Nat) (h1 : 1 ≤ m) (hm : m < s.freeSlot) :
    ∃ f ∈ s.fades, f.number = m := by
  have hfree := s.freeSlot_free h
  unfold State.freeSlot at hm hfree
  cases hf : (List.range' 1 Config.fadeSlots).find? fun n => (s.fade n).isNone with
  | none =>
    rw [hf] at hm
    exact absurd hm (Nat.not_lt_of_le h1)
  | some n =>
    rw [hf] at hm
    have taken := (List.find?_range'_eq_some.mp hf).2.2 m h1 hm
    cases hs : s.fade m with
    | none => simp [hs] at taken
    | some f => exact ⟨f, s.fade_some hs⟩

theorem State.FadeEngineOnly.sameBut {w : State} (h : s.FadeEngineOnly w) (ht : w.SameButPorts t) : s.SameButFadeEngine t := by
  rw [ht, h]
  rfl

theorem State.FadeEngineOnly.pending (h : s.FadeEngineOnly t) : t.pending = s.pending := by rw [h]

/-- The lowest free slot, as the obligations name it. -/
theorem State.freeSlot_spec (h : s.fades.length < Config.fadeSlots) : 1 ≤ s.freeSlot ∧ s.freeSlot ≤ 48 ∧
    (∀ f ∈ s.fades, f.number ≠ s.freeSlot) ∧ ∀ m, 1 ≤ m → m < s.freeSlot → ∃ f ∈ s.fades, f.number = m :=
  ⟨s.freeSlot_range.1, s.freeSlot_range.2, s.fade_none.mp (s.freeSlot_free h), s.freeSlot_lowest h⟩

/-! ### What a release leaves of the playbacks (O42) -/

/-- From `u`, where the slot was secured, to `t` a release left the playbacks: the released one with no look, no pending follow and a state
of its own, the others with theirs derived again (R85, R86). -/
structure State.LeftBy (u t : State) (p : Nat) (st : PlayState) : Prop where
  others : ∀ q, q ≠ p → t.playback q = (u.playback q).settled (t.hasFade q)
  own : t.playback p = { u.playback p with pendingFollow := none, lastLook := none, state := st, entries := (t.playback p).entries }

theorem State.LeftBy.ports {u w : State} {st : PlayState} (h : u.LeftBy w p st) (ht : w.SameButPorts t) : u.LeftBy t p st := by
  rw [ht.eq]
  exact ⟨h.others, h.own⟩

/-- A playback derived, with no follow pending, by whether it has a fade. -/
theorem Playback.derived_noFollow {b : Playback} (h : b.pendingFollow = none) (fade : Bool) :
    b.derived fade = { b with state := if fade = false then .idle else if b.state = .held then .held else .running } := by
  unfold Playback.derived
  rw [h]
  cases fade <;> rfl

/-- The end of a RELEASE: a state that left the other playbacks as the secured slot did, and of its own changed the entries. -/
theorem State.FadesFit.leftBy (h : s.FadesFit) {w : State}
    (hw : ∀ q, p ≠ q → w.playback q = (s.unlooked p).secureSlot.1.playback q ∧ w.hasFade q = (s.unlooked p).secureSlot.1.hasFade q)
    (hp : ∃ es, w.playback p = { (s.unlooked p).secureSlot.1.playback p with entries := es }) :
    s.secureSlot.1.LeftBy ((w.rederive p).rederiveForced (s.unlooked p).secureSlot.2) p
      (if w.hasFade p = false then .idle else if (s.playback p).state = .held then .held else .running) := by
  obtain ⟨hf, hh, ho⟩ := h.unlooked p
  constructor
  · intro q hq
    obtain ⟨hplay, -⟩ := (ho q hq.symm).rederives_other hq.symm (hw q hq.symm).1 (hw q hq.symm).2
    rw [hplay, State.playback_unlooked_secureSlot, if_neg hq.symm]
  · obtain ⟨es, hes⟩ := hp
    have state : (s.secureSlot.1.playback p).state = (s.playback p).state := by
      obtain ⟨es, hes⟩ := s.playback_secureSlot p
      rw [hes]
    rw [State.playback_unlooked_secureSlot, if_pos rfl] at hes
    have own : ((w.rederive p).rederiveForced (s.unlooked p).secureSlot.2).playback p = (w.playback p).derived (w.hasFade p) := by
      rw [State.playback_rederiveForced, State.playback_rederive, if_pos rfl, State.hasFade_congr (State.rederive_fades w p)]
      split
      · exact Playback.derived_derived ..
      · rfl
    rw [own, hes, Playback.derived_noFollow rfl]
    dsimp only
    rw [state]

/-- Where no entry qualifies none stands above 0 and no fade is left (R85). -/
theorem State.FitsBut.still (h : s.FitsBut 0) (hq : s.qualifying p = []) :
    (∀ ch, (s.entry p ch).level = 0 ∧ (s.entry p ch).owner = none) ∧ ∀ f ∈ s.fades, f.playback ≠ p := by
  have quiet (ch : Nat) : ¬ (0 < (s.entry p ch).level ∨ (s.entry p ch).owner ≠ none) := fun e => by
    have := (State.mem_qualifying (h.tables p)).mpr e
    rw [hq] at this
    cases this
  refine ⟨fun ch => ?_, fun f hf e => ?_⟩
  · have := quiet ch
    rw [not_or, not_not, Nat.pos_iff_ne_zero, not_not] at this
    exact this
  · obtain ⟨ch, hch⟩ := h.exists_owned hf
    exact quiet ch (.inr (by rw [← e, hch]; nofun))

theorem State.hasFade_eq_false : s.hasFade p = false ↔ ∀ f ∈ s.fades, f.playback ≠ p := by
  rw [← Bool.not_eq_true, State.hasFade_iff]
  exact ⟨fun h f hf e => h ⟨f, hf, e⟩, fun h ⟨f, hf, e⟩ => h f hf e⟩

/-- A RELEASE that finds nothing to take down (R85). -/
theorem State.FadesFit.leftBy_quiet (h : s.FadesFit) (hq : s.qualifying p = []) : s.LeftBy ((s.unlooked p).rederive p) p .idle := by
  constructor
  · intro q hq
    rw [State.playback_rederive, if_neg hq.symm, State.playback_unlooked, if_neg hq.symm]
    exact (h.states q).settled.symm
  · have noFade : (s.unlooked p).hasFade p = false := State.hasFade_eq_false.mpr (h.fits.still hq).2
    rw [State.playback_rederive, if_pos rfl, noFade, State.playback_unlooked, if_pos rfl, Playback.derived_noFollow rfl]
    rfl

end

/-- Settles O42: by its stages, RELEASE leaves the fades of other playbacks, its own fade where it has time to run, and every qualifying
entry on the way to 0. -/
theorem release_takes_down : Obligations.Release_takes_down := by
  refine fun s pb t1 t0 => ⟨fun hp => State.serves_unchanged rfl release_ignores (by simp [release, hp]), fun hc hfo hp => ?_⟩
  have h := hfo.fadesFit hc
  obtain ⟨hf, -, -⟩ := h.unlooked pb.toNat
  obtain ⟨halike, hforced⟩ := (s.unlooked_alike pb.toNat).secureSlot
  have hu := hf.secureSlot
  have hlen := State.secureSlot_length hf.slots
  have hfades := halike.fades
  have hqs : (s.unlooked pb.toNat).qualifying pb.toNat = s.qualifying pb.toNat := State.qualifying_congr (s.entries_unlooked ..)
  have hqu : (s.unlooked pb.toNat).secureSlot.1.qualifying pb.toNat = s.secureSlot.1.qualifying pb.toNat :=
    State.qualifying_congr (halike.entries _)
  have answer : forcedData (s.unlooked pb.toNat).secureSlot.2 = s.forcedAnswer := by rw [hforced, s.forcedData_secureSlot]
  have eq := release_eq (t1 := t1) (t0 := t0) hp s
  rw [hqs, hqu, answer] at eq
  have only := release_only [pb, t1, t0] s
  refine ⟨fun hq => ?_, fun hq => ⟨s.secureSlot.1, s.secureSlot_secured, fun hdown => ?_, fun ht hq' => ?_⟩⟩
  · rw [if_pos hq] at eq
    rw [eq] at only
    refine State.serves_of_perform rfl release_ignores eq (by rfl) fun t ht => ?_
    obtain ⟨others, own⟩ := (h.leftBy_quiet hq).ports ht
    refine ⟨⟨only.sameBut ht, others, own⟩, fun ch => ?_, by rw [ht.eq]; rfl⟩
    rw [ht.eq, State.entry_withPorts, State.entry_rederive, (s.unlooked_alike pb.toNat).entry]
    exact (h.fits.still hq).1 ch
  · rw [if_neg hq] at eq
    by_cases hq' : s.secureSlot.1.qualifying pb.toNat = []
    · have still := h.fits.secureSlot.still hq'
      have noFade : (s.unlooked pb.toNat).secureSlot.1.hasFade pb.toNat = false := State.hasFade_eq_false.mpr (hfades ▸ still.2)
      rw [if_pos hq'] at eq
      rw [eq] at only
      rw [hq']
      refine State.serves_of_perform rfl release_ignores eq only.pending fun t ht => ?_
      have left := (h.leftBy (fun q _ => ⟨rfl, rfl⟩) ⟨_, rfl⟩).ports ht
      rw [if_pos noFade] at left
      refine ⟨⟨only.sameBut ht, left.others, left.own⟩, fun ch => ?_, ?_⟩
      · rw [ht.eq, State.entry_withPorts, State.entry_rederiveForced, State.entry_rederive, halike.entry]
        exact still.1 ch
      · rw [ht.eq, State.withPorts_fades, State.rederiveForced_fades, State.rederive_fades, hfades]
        exact (List.filter_eq_self.mpr fun f hmem => decide_eq_true (still.2 f hmem)).symm
    · have ht0 : word t1 t0 = 0 := hdown.resolve_right hq'
      rw [if_neg hq', if_pos ht0, ht0] at eq
      rw [eq] at only
      refine State.serves_of_perform rfl release_ignores eq only.pending fun t ht => ?_
      have noFade : ((s.unlooked pb.toNat).secureSlot.1.released pb.toNat (decide ((s.playback pb.toNat).state = .held))).hasFade pb.toNat =
          false := State.hasFade_eq_false.mpr fun f hmem => by
        rw [hu.released_fades hlen] at hmem
        exact of_decide_eq_true (List.mem_filter.mp hmem).2
      have left := (h.leftBy (w := (s.unlooked pb.toNat).secureSlot.1.released pb.toNat (decide ((s.playback pb.toNat).state = .held)))
        (fun q e => ⟨State.playback_released_other _ _ e, hu.hasFade_released hlen e⟩) (State.playback_released ..)).ports ht
      rw [if_pos noFade] at left
      refine ⟨⟨only.sameBut ht, left.others, left.own⟩, fun ch => ?_, ?_⟩
      · rw [ht.eq, State.entry_withPorts, State.entry_rederiveForced, State.entry_rederive]
        exact hu.entry_released ch
      · rw [ht.eq, State.withPorts_fades, State.rederiveForced_fades, State.rederive_fades]
        exact (hu.released_fades hlen).trans (by rw [hfades])
  · rw [if_neg hq, if_neg hq', if_neg ht.ne'] at eq
    rw [eq] at only
    obtain ⟨h1, h48, hfree, hlowest⟩ := State.freeSlot_spec (State.secureSlot_length h.fits.slots)
    refine ⟨s.secureSlot.1.freeSlot, h1, h48, hfree, hlowest, ?_⟩
    rw [halike.freeSlot] at eq
    refine State.serves_of_perform rfl release_ignores eq only.pending fun t ht => ?_
    have aFade : ((s.unlooked pb.toNat).secureSlot.1.releasing pb.toNat (word t1 t0) (decide ((s.playback pb.toNat).state = .held))).hasFade
        pb.toNat = true := State.hasFade_iff.mpr ⟨_, hu.mem_releaser hlen, rfl⟩
    have left := (h.leftBy (fun q e => ⟨State.playback_releasing_other _ (word t1 t0) (decide ((s.playback pb.toNat).state = .held)) e,
      hu.hasFade_releasing hlen e⟩) (State.playback_releasing ..)).ports ht
    rw [aFade, if_neg Bool.true_eq_false_eq_False] at left
    refine ⟨⟨only.sameBut ht, left.others, left.own⟩, ?_, fun ch => ?_⟩
    · rw [ht.eq, State.withPorts_fades, State.rederiveForced_fades, State.rederive_fades, hu.releasing_fades hlen, hfades,
        State.releaser, hqu, halike.freeSlot]
      rfl
    · rw [ht.eq, State.entry_withPorts, State.entry_rederiveForced, State.entry_rederive, hu.entry_releasing, halike.entry,
        halike.freeSlot]
      simp only [true_and]

end Sys2Proof.Machine
end

section
/-!
SUPPORT. A fade's turn at a fade interval event, by cases, and what it leaves of the fade engine's relations (R76 to R79, R100).
SETTLES the obligation that every step keeps them.
-/

namespace Sys2Proof.Machine

section
variable {s t : State} {n m p q ch : Nat} {f : Fade} {fresh : List Nat}

/-! ### Interpolated levels and turned entries -/

/-- An interpolated level lies between start and target (R100). -/
theorem interpolate_between (a b d D e : Nat) : min a b ≤ interpolate a b d D e ∧ interpolate a b d D e ≤ max a b := by
  have part : D ≠ 0 → ∀ x, (x * min (e - d) D + D / 2) / D ≤ x := fun hD x => by
    have hmul : x * min (e - d) D ≤ x * D := Nat.mul_le_mul_left x (Nat.min_le_right ..)
    rw [← Nat.lt_succ_iff, Nat.div_lt_iff_lt_mul (Nat.pos_of_ne_zero hD), Nat.succ_mul]
    omega
  unfold interpolate
  split
  · exact ⟨Nat.min_le_left .., Nat.le_max_left ..⟩
  · split
    · exact ⟨Nat.min_le_right .., Nat.le_max_right ..⟩
    · rename_i hD
      dsimp only
      split
      · have hpart := part hD (b - a)
        generalize ((b - a) * min (e - d) D + D / 2) / D = k at hpart ⊢
        omega
      · have hpart := part hD (a - b)
        generalize ((a - b) * min (e - d) D + D / 2) / D = k at hpart ⊢
        omega

theorem Fade.move_between (f : Fade) {e : Entry} (h : e.Between) : (f.move e).Between := by
  unfold Fade.move
  split
  · exact fun _ => interpolate_between ..
  · exact h

theorem Entry.turn_between (n : Nat) {e : Entry} (h : e.Between) : (e.turn n).Between := by
  unfold Entry.turn
  split
  · intro ho
    rw [Nat.min_comm, Nat.max_comm]
    exact h ho
  · exact h

theorem Entry.turn_owner (n : Nat) (e : Entry) : (e.turn n).owner = e.owner := by
  unfold Entry.turn
  split <;> rfl

/-! ### A fade's turn by cases (R76 to R79) -/

/-- A fade with one more interval elapsed. -/
def Fade.aged (f : Fade) : Fade := { f with elapsed := f.elapsed + 1 }

/-- A fade after a bounce, with the completion count recomputed (R78). -/
def Fade.bounced (f : Fade) (count : Nat) : Fade := { f with elapsed := 0, loop := f.loop.afterBounce, completion := count }

/-- A fade moved on, with the entries it owns (R76). -/
def State.moved (s : State) (f : Fade) : State := (s.updateFade f.aged).mapEntries f.playback f.aged.move

/-- The entries of a fade moved on turned round (R78). -/
def State.turned (s : State) (f : Fade) : State := (s.moved f).mapEntries f.playback (Entry.turn f.number)

/-- The completion count over the turned entries (R78). -/
def State.turnedCount (s : State) (f : Fade) : Nat := f.countOver ((s.turned f).playback f.playback).entries

/-- The playbacks whose follow was scheduled in this event, with a completed fade's where it carries one. -/
def Fade.schedules (f : Fade) (fresh : List Nat) : List Nat := if f.follow.isSome then f.playback :: fresh else fresh

/-- What a fade's turn makes of the state and of the playbacks with a follow just scheduled. -/
inductive State.Advance (s : State) (fresh : List Nat) (f : Fade) : State × List Nat → Prop
  | held (h : f.held = true) : s.Advance fresh f (s, fresh)
  | moves (h : f.held = false) (hc : f.elapsed + 1 < f.completion) : s.Advance fresh f (s.moved f, fresh)
  | bounces (h : f.held = false) (hc : ¬ f.elapsed + 1 < f.completion) (h0 : 0 < f.completion) (hl : f.loop.looping = true)
      (hn : s.turnedCount f ≠ 0) : s.Advance fresh f ((s.turned f).updateFade (f.bounced (s.turnedCount f)), fresh)
  | bouncesOut (h : f.held = false) (hc : ¬ f.elapsed + 1 < f.completion) (h0 : 0 < f.completion) (hl : f.loop.looping = true)
      (hn : s.turnedCount f = 0) :
      s.Advance fresh f (((s.turned f).complete (f.bounced 0)).rederive f.playback, f.schedules fresh)
  | completes (h : f.held = false) (hc : ¬ f.elapsed + 1 < f.completion) (hl : ¬ (0 < f.completion ∧ f.loop.looping = true)) :
      s.Advance fresh f (((s.moved f).complete f.aged).rederive f.playback, f.schedules fresh)

theorem advanceFade_absent (h : s.fade n = none) : advanceFade (s, fresh) n = (s, fresh) := by simp only [advanceFade, h]

theorem advanceFade_cases (h : s.fade n = some f) : s.Advance fresh f (advanceFade (s, fresh) n) := by
  have hbounce : (s.moved f).bounce f.aged =
      if s.turnedCount f = 0 then ((s.turned f).complete (f.bounced (s.turnedCount f)), true)
      else ((s.turned f).updateFade (f.bounced (s.turnedCount f)), false) := rfl
  have eq : advanceFade (s, fresh) n = if f.held then (s, fresh) else
      if f.elapsed + 1 < f.completion then (s.moved f, fresh)
      else if 0 < f.completion ∧ f.loop.looping = true then
        if ((s.moved f).bounce f.aged).2 = true then (((s.moved f).bounce f.aged).1.rederive f.playback, f.schedules fresh)
        else (((s.moved f).bounce f.aged).1, fresh)
      else (((s.moved f).complete f.aged).rederive f.playback, f.schedules fresh) := by
    simp only [advanceFade, h]
    rfl
  rw [eq, hbounce]
  cases hh : f.held with
  | true => exact .held hh
  | false =>
    rw [if_neg Bool.false_ne_true]
    by_cases hc : f.elapsed + 1 < f.completion
    · rw [if_pos hc]; exact .moves hh hc
    · rw [if_neg hc]
      by_cases hl : 0 < f.completion ∧ f.loop.looping = true
      · rw [if_pos hl]
        by_cases hn : s.turnedCount f = 0
        · rw [if_pos hn, hn]; exact .bouncesOut hh hc hl.1 hl.2 hn
        · rw [if_neg hn]; exact .bounces hh hc hl.1 hl.2 hn
      · rw [if_neg hl]; exact .completes hh hc hl

/-! ### The relations through a fade's turn -/

/-- What the fade with leave owns, a change of entries that keeps every owner does not touch. -/
theorem State.Paced.of_entries (h : s.Paced f) (ho : ∀ ch, (t.entry f.playback ch).owner = (s.entry f.playback ch).owner)
    (hp : ∀ ch, (t.entry f.playback ch).part = (s.entry f.playback ch).part) {g : Fade} (hnum : g.number = f.number)
    (hplay : g.playback = f.playback) (howned : g.owned = f.owned) (hrun : g.elapsed < g.completion) (hc : g.completion = f.completion)
    (htimes : g.timesOf = f.timesOf) : t.Paced g :=
  ⟨howned ▸ h.owned, hrun, fun ch hg => by
    rw [hplay] at hg ⊢
    rw [ho, hnum] at hg
    rw [hp, htimes, hc]
    exact h.within ch hg⟩

namespace State.FitsBut

theorem moved (h : s.FitsBut 0) (hf : f ∈ s.fades) : (s.moved f).FitsBut f.number :=
  ((h.but f.number).updateFade (g := f.aged) hf rfl rfl rfl rfl).mapEntries (Fade.move_initial _) (fun e => (f.aged.move_fields e).1)
    (fun _ => Fade.move_between _) (fun e _ => (f.aged.move_fields e).2.2.2) _

theorem mem_aged (hf : f ∈ s.fades) : f.aged ∈ (s.moved f).fades := List.mem_map.mpr ⟨f, hf, if_pos rfl⟩

theorem turned (h : s.FitsBut 0) (hf : f ∈ s.fades) : (s.turned f).FitsBut f.number :=
  (h.moved hf).mapEntries (Entry.turn_initial _) (Entry.turn_owner _) (fun _ => Entry.turn_between _)
    (fun e he => by rw [Entry.turn, if_neg he]) _

end State.FitsBut

theorem State.entry_moved (s : State) (f : Fade) (q ch : Nat) :
    (s.moved f).entry q ch = if f.playback = q then f.aged.move (s.entry q ch) else s.entry q ch :=
  State.entry_mapEntries _ _ _ _ _ (Fade.move_initial _)

/-- A fade's turn keeps the relations (R76 to R79). -/
theorem State.FitsBut.advance (h : s.FitsBut 0) (hf : f ∈ s.fades) {x : State × List Nat} (hx : s.Advance fresh f x) : x.1.FitsBut 0 := by
  have hm := h.moved hf
  have haged := FitsBut.mem_aged hf
  have hpaced := h.paced f hf (Nat.ne_of_gt (h.ranges f hf).1)
  cases hx with
  | held => exact h
  | moves _ hc =>
    refine hm.settle fun g hg hn => ?_
    rw [hm.unique hg haged hn]
    refine hpaced.of_entries (g := f.aged) (fun ch => ?_) (fun ch => ?_) rfl rfl rfl hc rfl rfl
    · rw [State.entry_moved, if_pos rfl]; exact (f.aged.move_fields _).1
    · rw [State.entry_moved, if_pos rfl]; exact (f.aged.move_fields _).2.2.2
  | bounces _ _ _ _ hn =>
    have ht := h.turned hf
    have hb : f.bounced (s.turnedCount f) ∈ ((s.turned f).updateFade (f.bounced (s.turnedCount f))).fades :=
      List.mem_map.mpr ⟨f.aged, haged, if_pos rfl⟩
    have hu := ht.updateFade (g := f.bounced (s.turnedCount f)) haged rfl rfl rfl rfl
    refine hu.settle fun g hg hnum => ?_
    rw [hu.unique hg hb hnum]
    exact ⟨hpaced.owned, Nat.pos_of_ne_zero hn, fun ch ho => Fade.times_le_countOver f ho⟩
  | bouncesOut => exact ((h.turned hf).complete haged rfl rfl rfl).rederive _
  | completes => exact (hm.complete haged rfl rfl rfl).rederive _

/-- Two states with the same own fields of playbacks, and fades changed in what neither holds nor states read. -/
structure State.SameRoles (s t : State) : Prop where
  fades : ∃ φ : Fade → Fade, t.fades = s.fades.map φ ∧ ∀ f ∈ s.fades, (φ f).held = f.held ∧ (φ f).playback = f.playback
  playbacks : ∀ q, ∃ es, t.playback q = { s.playback q with entries := es }

theorem State.SameRoles.heldOk (h : s.SameRoles t) (hh : s.HeldOk) : t.HeldOk := by
  obtain ⟨φ, hφ, hsame⟩ := h.fades
  refine hh.of_fades (fun g hg => ?_) fun q => ?_
  · rw [hφ] at hg
    obtain ⟨f, hf, rfl⟩ := List.mem_map.mp hg
    exact ⟨f, hf, hsame f hf⟩
  · obtain ⟨es, hes⟩ := h.playbacks q
    rw [hes]

theorem State.SameRoles.hasFade (h : s.SameRoles t) (q : Nat) : t.hasFade q = s.hasFade q := by
  obtain ⟨φ, hφ, hsame⟩ := h.fades
  unfold State.hasFade
  rw [hφ, List.any_map]
  rw [Bool.eq_iff_iff, List.any_eq_true, List.any_eq_true]
  exact exists_congr fun f => and_congr_right fun hf => by rw [Function.comp_apply, (hsame f hf).2]

theorem State.SameRoles.stateOk (h : s.SameRoles t) (hq : s.StateOk q) : t.StateOk q := by
  obtain ⟨es, hes⟩ := h.playbacks q
  exact hq.congr (by rw [hes]) (by rw [hes]) (h.hasFade q)

theorem State.SameRoles.trans {u : State} (h : s.SameRoles t) (h' : t.SameRoles u) : s.SameRoles u := by
  obtain ⟨φ, hφ, hsame⟩ := h.fades
  obtain ⟨ψ, hψ, hsame'⟩ := h'.fades
  refine ⟨⟨ψ ∘ φ, by rw [hψ, hφ, List.map_map], fun f hf => ?_⟩, fun q => ?_⟩
  · obtain ⟨hheld, hplay⟩ := hsame' (φ f) (hφ ▸ List.mem_map_of_mem hf)
    exact ⟨hheld.trans (hsame f hf).1, hplay.trans (hsame f hf).2⟩
  · obtain ⟨es, hes⟩ := h.playbacks q
    obtain ⟨es', hes'⟩ := h'.playbacks q
    exact ⟨es', by rw [hes', hes]⟩

theorem State.sameRoles_updateFade {g : Fade} (h : ∀ k ∈ s.fades, k.number = g.number → g.held = k.held ∧ g.playback = k.playback) :
    s.SameRoles (s.updateFade g) :=
  ⟨⟨fun k => if k.number = g.number then g else k, rfl, fun k hk => by
    by_cases e : k.number = g.number
    · simpa [e] using h k hk e
    · simp [e]⟩, fun _ => ⟨_, rfl⟩⟩

theorem State.sameRoles_mapEntries (s : State) (p : Nat) (f : Entry → Entry) : s.SameRoles (s.mapEntries p f) := by
  refine ⟨⟨id, (List.map_id _).symm, fun _ _ => ⟨rfl, rfl⟩⟩, fun q => ?_⟩
  rw [State.playback_mapEntries]
  split
  · exact ⟨_, rfl⟩
  · exact ⟨_, rfl⟩

theorem State.FitsBut.sameRoles_moved (h : s.FitsBut 0) (hf : f ∈ s.fades) : s.SameRoles (s.moved f) := by
  refine (State.sameRoles_updateFade fun k hk e => ?_).trans (State.sameRoles_mapEntries ..)
  rw [h.unique hk hf e]
  exact ⟨rfl, rfl⟩

theorem State.FitsBut.sameRoles_turned (h : s.FitsBut 0) (hf : f ∈ s.fades) : s.SameRoles (s.turned f) :=
  (h.sameRoles_moved hf).trans (State.sameRoles_mapEntries ..)

namespace State.FadesFit

/-- An operation that leaves the roles as they are. -/
theorem of_sameRoles (h : s.FadesFit) (hs : s.SameRoles t) (hf : t.FitsBut 0) : t.FadesFit :=
  ⟨hf, hs.heldOk h.held, fun q => hs.stateOk (h.states q)⟩

/-- A completion at the end of a fade's turn. -/
theorem complete (h : s.FadesFit) (hs : s.SameRoles t) (ht : t.FitsBut n) {g k : Fade} (hk : k ∈ t.fades) (hn : k.number = n)
    (hnum : g.number = k.number) (hplay : g.playback = k.playback) : ((t.complete g).rederive g.playback).FadesFit := by
  refine of_rederive (ht.complete hk hn hnum hplay) ((hs.heldOk h.held).complete g) fun q hq => ?_
  have same : (t.complete g).playback q = t.playback q := by rw [State.playback_complete, if_neg hq]
  refine (hs.stateOk (h.states q)).congr (by rw [same]) (by rw [same]) ?_
  rw [Bool.eq_iff_iff, State.hasFade_iff, State.hasFade_iff, State.complete_fades]
  refine exists_congr fun f => and_congr_left fun hfq => ?_
  rw [List.mem_filter, decide_eq_true_eq]
  refine and_iff_left_of_imp fun hf e => hq ?_
  rw [hplay, ← hfq, ht.unique hf hk (e.trans hnum)]

theorem advance (h : s.FadesFit) (hf : f ∈ s.fades) {x : State × List Nat} (hx : s.Advance fresh f x) : x.1.FadesFit := by
  have fits := h.fits.advance hf hx
  have hm := h.fits.sameRoles_moved hf
  have ht := h.fits.sameRoles_turned hf
  have haged := FitsBut.mem_aged hf
  cases hx with
  | held => exact h
  | moves => exact h.of_sameRoles hm fits
  | bounces =>
    refine h.of_sameRoles (ht.trans (State.sameRoles_updateFade fun k hk e => ?_)) fits
    rw [(h.fits.turned hf).unique hk haged e]
    exact ⟨rfl, rfl⟩
  | bouncesOut => exact h.complete ht (h.fits.turned hf) haged rfl rfl rfl
  | completes => exact h.complete hm (h.fits.moved hf) haged rfl rfl rfl

theorem advanceFade (h : s.FadesFit) (fresh : List Nat) (n : Nat) : (advanceFade (s, fresh) n).1.FadesFit := by
  cases hn : s.fade n with
  | none => rw [advanceFade_absent hn]; exact h
  | some f => exact h.advance (s.fade_some hn).1 (advanceFade_cases hn)

/-- A pending follow's turn: it counts down, or fires (R77). -/
theorem followStep (h : s.FadesFit) (hl : s.StoredOk) (hp : playbackOk p = true) (fresh : List Nat) : (followStep fresh s p).FadesFit := by
  unfold Machine.followStep
  split
  · exact h
  · refine FadesFit.fireDue ?_ (hl.of_only (s.countFollow_only ..)) hp
    unfold State.countFollow
    split
    · exact h
    · rename_i w hw
      split
      · exact h
      · refine ⟨h.fits.setPlayback p rfl, h.held.of_fades (fun g hg => ⟨g, hg, rfl, rfl⟩) fun q => ?_, fun q => ?_⟩
        · rw [State.playback_setPlayback]
          split
          · rename_i e; rw [e]
          · rfl
        · by_cases e : p = q
          · subst e
            have hs := h.states p
            unfold State.StateOk at hs ⊢
            rw [State.playback_setPlayback, if_pos rfl, hs, hw]
            simp
          · refine (h.states q).congr ?_ ?_ rfl <;> rw [State.playback_setPlayback, if_neg e]

theorem followSteps (h : s.FadesFit) (hl : s.StoredOk) (fresh : List Nat) {ps : List Nat} (hp : ∀ p ∈ ps, playbackOk p = true) :
    (ps.foldl (Machine.followStep fresh) s).FadesFit := by
  induction ps generalizing s with
  | nil => exact h
  | cons p ps ih =>
    exact ih (h.followStep hl (hp p List.mem_cons_self) fresh) (hl.of_only (followStep_only s fresh p))
      fun q hq => hp q (List.mem_cons_of_mem _ hq)

theorem advanceFades (h : s.FadesFit) (fresh : List Nat) (ns : List Nat) : (ns.foldl Machine.advanceFade (s, fresh)).1.FadesFit := by
  induction ns generalizing s fresh with
  | nil => exact h
  | cons n ns ih => exact ih (h.advanceFade fresh n) _

/-- The fade interval event keeps the relations of the fade engine (R76, R77). -/
theorem fadeTick (h : s.FadesFit) (hl : s.StoredOk) : s.fadeTick.FadesFit := by
  have only (ns : List Nat) (x : State × List Nat) : x.1.FadeEngineOnly (ns.foldl Machine.advanceFade x).1 := by
    induction ns generalizing x with
    | nil => exact .refl _
    | cons n ns ih => exact (advanceFade_only x.1 x.2 n).trans (ih _)
  refine (h.advanceFades [] _).followSteps (hl.of_only (only _ _)) _ fun p hp => ?_
  rw [List.mem_range'_1] at hp
  simp only [playbackOk, Bool.and_eq_true, decide_eq_true_eq]
  omega

/-- Every request keeps them. -/
theorem perform (h : s.FadesFit) (hl : s.StoredOk) (code : ReqCode) (ps : List Byte) : (code.perform ps s).1.FadesFit := by
  cases hw : code.writesShow with
  | false => exact h.sameEngine (perform_sameShow hw ps s).2
  | true =>
    cases code with
    | go => exact h.go hl ps
    | release => exact h.release ps
    | hold => exact h.hold ps
    | resume => exact h.resume ps
    | stopLoop => exact h.stopLoop ps
    | master => exact h.master ps
    | deskClear => exact h.deskClear ps
    | changeover => exact h.changeover ps
    | statusAck => exact h.statusAck ps
    | _ => cases hw

theorem powerOn {x y : Bool} (hx : Machine.exec (.powerOn x y) s = .next t) : t.FadesFit := by
  have initial {u : State} (hu : State.reset.SameEngine u) : u.FadesFit :=
    (of_still rfl (fun _ => Tbl.Canonical.nil _) (fun _ _ => rfl) fun _ => ⟨rfl, rfl⟩ : State.reset.FadesFit).sameEngine hu
  rcases exec_powerOn_cases hx with ⟨-, e⟩ | ⟨-, e⟩ <;> rw [e]
  · exact initial ⟨rfl, rfl⟩
  · exact (initial (u := s.powerOnRetained) ⟨rfl, rfl⟩).sameEngine ((((State.placeAll_only _ .a).trans (State.placeAll_only _ .b)).trans
      (State.placeAll_only _ .c)).trans (State.placeAll_only _ .d)).sameEngine

end State.FadesFit

theorem State.reply_sameEngine {l : LinkId} {bytes : List Byte} (hx : exec (.replyArrival l bytes) s = .next t) : s.SameEngine t := by
  rcases exec_replyArrival_cases hx with e | e | ⟨r, -, ⟨y, e⟩ | e⟩ <;> rw [e]
  · exact .refl s
  · exact (s.windowSilent_only l).sameEngine
  · exact ((s.closeWindow_only l).trans (State.takeReady_only ..)).sameEngine
  · exact ((s.closeWindow_only l).trans (State.setRow_only ..)).sameEngine

/-- Every command keeps the relations of the fade engine. -/
theorem State.FadesFit.exec (h : s.FadesFit) (hl : s.StoredOk) {c : Instr} (hx : exec c s = .next t) : t.FadesFit := by
  have free : PortFree State.FadesFit := fun _ _ huv hu => hu.sameEngine huv.sameEngine
  have ports {u : State} (hu : s.SameButPorts u) : u.FadesFit := free s u hu.lines h
  have stored {u : State} (hu : s.SameButPorts u) : u.StoredOk := by rw [hu]; exact hl
  have deliver (u : State) (p : Port) (tr : Transfer) (data : List Byte) (_ : (u.port p).transfer = some tr) (hu : u.FadesFit) :
      (u.deliver p tr data).FadesFit := hu.sameEngine (u.deliver_delivery p tr data).sameEngine
  apply exec_cases hx free h
  case request => exact fun code _ r _ _ _ _ hu => (ports hu).perform (stored hu) code r.params
  case heldClear => exact fun ps _ hu => (ports hu).deskClear ps
  case dataFrame => exact onFrame_takeData free.setPort deliver h
  case heldData => exact deliverHeld_keeps free.setPort deliver h
  case power => rintro x y rfl; exact .powerOn hx
  case switch => exact fun _ _ => .switched s
  case fade => exact (h.fadeTick hl).sameEngine ⟨State.setChangeover_fades .., State.setChangeover_playbacks ..⟩
  case frameDue => exact fun l => h.sameEngine ((s.windowSilent_only l).trans (State.setLink_only ..)).sameEngine
  case pollEnd => exact fun l r => h.sameEngine (s.setLink_only l _).sameEngine
  case expiry => exact fun l => h.sameEngine (s.windowSilent_only l).sameEngine
  case reply => rintro l bytes rfl; exact h.sameEngine (State.reply_sameEngine hx)

end

/-- Settles O8: every operation of the fade engine keeps its relations, and nothing else writes what they read. -/
theorem fade_relations_kept : Obligations.Fade_relations_kept := by
  intro s t hc hl hf hs
  rcases step_cases hs with rfl | ⟨c, rest, -, hx⟩
  · exact hf
  · exact (((hf.fadesFit hc).sameEngine (t := { s with pending := rest }) ⟨rfl, rfl⟩).exec hl.stored hx).fadesOk

end Sys2Proof.Machine
end

section
/-!
SETTLES the obligations on a follow that fires, by refutation. They do not ask that the looks the live bank holds are well formed
(`State.LooksOk`), and a look that lists a channel twice, as no request stores one, fires otherwise than they say: its new fade loses the
channel to itself at the second listing and retires as superseded (R73), so that its playback is left with no fade and no pending follow,
and is IDLE, where `State.FollowFires` has RUNNING.
-/

namespace Sys2Proof.Machine

/-- A look that fires a follow of delay 0 leaves its playback RUNNING, as `State.FollowFires` has it. -/
theorem State.FollowFires.running {u t : State} {p k k' : Nat} {l : Look} (h : u.FollowFires t p k) (hp : u.changeover.phase = .idle)
    (hl : u.look u.liveBank k = some l) (hf : l.header.follow = some ⟨k', 0⟩) : (t.playback p).state = .running := by
  obtain ⟨-, h⟩ := h
  rw [hp, hl] at h
  obtain ⟨v, -, -, -, own⟩ := h.2 k' hf
  rw [own]

/-- A look that lists channel 1 twice, with a follow of delay 0. -/
def twiceListed : Look := ⟨⟨10, 10, 0, 0, some ⟨5, 0⟩, .absent⟩, [⟨1, 1000⟩, ⟨1, 2000⟩]⟩

/-- A look with no time to run, followed at once by look 7. -/
def followedAtOnce : Look := ⟨⟨0, 0, 0, 0, some ⟨7, 0⟩, .absent⟩, [⟨3, 4096⟩]⟩

/-- The live bank with both looks. -/
def twiceListing : State := { State.reset with banks := [(1, ⟨false, [], [(6, some followedAtOnce), (7, some twiceListed)]⟩)] }

/-- Playback 2 has a follow of look 7 that is due at the next fade interval event. -/
def twiceDue : State :=
  { twiceListing with playbacks := [(2, { Playback.initial with state := .running, pendingFollow := some ⟨7, 1⟩ })] }

theorem twiceListing_canonical {ps : Tbl Playback} {q : Ports} (hp : ps.Canonical Playback.initial)
    (he : ∀ e ∈ ps, e.2.entries.Canonical Entry.initial) : ({ twiceListing with playbacks := ps, ports := q } : State).Canonical :=
  ⟨(by decide : Tbl.Canonical Bank.initial twiceListing.banks), (by decide : ∀ e ∈ twiceListing.banks, Tbl.Canonical none e.2.looks), .nil _, .nil _, hp, he, .nil _, fun l => by cases l <;> exact .nil _⟩

theorem twiceDue_canonical : twiceDue.Canonical := twiceListing_canonical (by decide) (by decide)

theorem playback_twiceDue (p : Nat) : twiceDue.playback p =
    if p = 2 then { Playback.initial with state := .running, pendingFollow := some ⟨7, 1⟩ } else Playback.initial := by
  by_cases h : p = 2
  · subst h; rfl
  · rw [if_neg h]
    exact if_neg (Ne.symm h)

theorem entry_twiceDue (p ch : Nat) : twiceDue.entry p ch = Entry.initial := by
  unfold State.entry
  rw [playback_twiceDue]
  split <;> rfl

theorem twiceDue_fadesOk : twiceDue.FadesOk where
  slots := Nat.zero_le _
  distinct := .nil
  ranges := nofun
  owners p ch n h := by rw [entry_twiceDue] at h; cases h
  owned := nofun
  between p ch h := absurd (by rw [entry_twiceDue]; rfl) h
  running := nofun
  within := nofun
  held := nofun
  states p := by
    rw [playback_twiceDue]
    by_cases h : p = 2 <;> simp [h, Playback.initial, State.hasFade, twiceDue, twiceListing, State.reset]

theorem twiceDue_fires_idle : (twiceDue.fadeTick.playback 2).state = .idle := by decide

/-- From what the event leaves of a state with the same looks no follow of look 7 fires to what it leaves of `twiceDue`. -/
theorem not_followFires_twiceDue {u v t : State} (hv : v.changeover.phase = .idle) (hlook : v.look v.liveBank 7 = some twiceListed)
    (hu : exec .fadeInterval v = .next u) (ht : exec .fadeInterval twiceDue = .next t) : ¬ u.FollowFires t 2 7 := by
  intro hfires
  have idle : (t.playback 2).state = .idle := by
    cases ht
    exact twiceDue_fires_idle
  obtain ⟨hphase, hlook'⟩ : u.changeover.phase = .idle ∧ u.look u.liveBank 7 = some twiceListed := by
    simp only [exec, execFadeInterval] at hu
    split at hu
    · rw [← Host.Outcome.next.inj hu, State.setChangeover_changeover]
      have only := v.fadeTick_only
      generalize v.fadeTick = w at only ⊢
      rw [only]
      exact ⟨by simp [Changeover.tick, hv], hlook⟩
    · cases hu
      exact ⟨hv, hlook⟩
  exact absurd (idle.symm.trans (hfires.running hphase hlook' rfl)) nofun

/-- Refutes O45: the follow that falls due on playback 2 of `twiceDue` leaves it IDLE. -/
theorem not_fade_interval_moves_running_fades : ¬ Obligations.Fade_interval_moves_running_fades := by
  intro h
  have none : twiceDue.NoneDue fun q => 2 < q := fun p w hp _ hw => by
    rw [playback_twiceDue, if_neg (Nat.ne_of_gt hp)] at hw
    cases hw
  obtain ⟨u, t, hu, ht, hfires⟩ := (h twiceDue twiceDue_fadesOk rfl nofun).2 2 ⟨7, 1⟩ twiceDue_canonical rfl rfl (by decide) (by decide)
    (by decide) none
  exact not_followFires_twiceDue rfl rfl hu ht hfires

/-- Refutes O46, which says of the same event what O45 says. -/
theorem not_fade_interval_ends_passes : ¬ Obligations.Fade_interval_ends_passes := by
  intro h
  have counted (p : Nat) : twiceDue.countedFollow p = if p = 2 then some ⟨7, 0⟩ else none := by
    unfold State.countedFollow
    rw [playback_twiceDue]
    by_cases e : p = 2
    · subst e; rfl
    · simp [e, Playback.initial]
  obtain ⟨u, t, hu, ht, hfires⟩ := (h twiceDue (fun _ => false) (fun _ => false) twiceDue_fadesOk rfl nofun).2 2 7 twiceDue_canonical
    ⟨rfl, by decide, counted 2⟩ (fun q j hq hf => by
      have hw : twiceDue.countedFollow q = some ⟨j, 0⟩ := hf.2.2
      rw [counted, if_neg (Nat.ne_of_gt hq)] at hw
      cases hw) (by decide)
  exact not_followFires_twiceDue rfl rfl hu ht hfires

/-- The same rig with a GO of look 6 on playback 2 waiting. -/
def twiceAsked : State :=
  { twiceListing with ports := ⟨{ PortState.initial with queue := [⟨0, .go, [2, 0, 6, 0, 0, 0]⟩] }, PortState.initial⟩ }

theorem twiceAsked_fadesOk : twiceAsked.FadesOk :=
  have h := State.reset_fadesOk
  ⟨h.slots, h.distinct, h.ranges, h.owners, h.owned, h.between, h.running, h.within, h.held, h.states⟩

theorem twiceAsked_fires_idle : ((twiceAsked.serve .go go).playback 2).state = .idle := by decide

/-- Refutes O40: the follow that fires in the event of this GO leaves its playback IDLE. -/
theorem not_go_starts_a_fade : ¬ Obligations.Go_starts_a_fade := by
  intro h
  obtain ⟨u, hu, -, atOnce, -⟩ := h twiceAsked 2 0 6 0 0 0 followedAtOnce
    (twiceListing_canonical (ps := []) (.nil _) nofun) twiceAsked_fadesOk
    ⟨by decide, by decide, by decide, by decide⟩ (by decide) (by decide) (.inl rfl) rfl (by decide)
  have hu : u = twiceAsked := by
    unfold State.SlotSecured at hu
    rwa [if_pos (by decide)] at hu
  subst hu
  obtain ⟨v, hv, -, serves⟩ := atOnce (by decide) 7 rfl (by decide)
  obtain ⟨t, ht, -, -, hfires⟩ := serves .p1 0 rfl
  have idle : (t.playback 2).state = .idle := by
    cases ht
    exact twiceAsked_fires_idle
  have running := hfires.running (l := twiceListed) (by rw [hv]; rfl) (by rw [hv]; rfl) rfl
  exact absurd (idle.symm.trans running) nofun

end Sys2Proof.Machine
end

section
/-!
SUPPORT. The looks and the open look writes. What holds of every look write as it opens, is kept as frames are staged, and makes a look
fit to store when the write is decided, holds of every open look write and of every stored look from then on: a request or an event
other than a delivery opens no write and stores no look.
-/

namespace Sys2Proof.Machine

/-! ### Requests leave the ports -/

/-- A request performed without regard to the ports leaves them. -/
theorem IgnoresPorts.ports {perform : List Byte → State → State × Reply} (h : IgnoresPorts perform) (ps : List Byte) (s : State) :
    (perform ps s).1.ports = s.ports := congrArg (fun x => x.1.ports) (h ps s s.ports s.servedLast)

theorem State.BankEdit.ports {s t : State} (h : s.BankEdit t) : t.ports = s.ports := by rw [h.frame]

theorem State.CircuitEdit.ports {s t : State} (h : s.CircuitEdit t) : t.ports = s.ports := by
  cases h with
  | reassign _ _ _ _ hu =>
    rw [(State.pairUp_only ..).kept.1]
    rcases hu with ⟨-, rfl⟩ | ⟨-, -, rfl⟩ <;> rfl
  | restore _ _ _ hu => subst hu; exact (State.oweUndo_only ..).kept.1
  | _ => rfl

/-- Performing a request opens and closes no transfer: its port was made ready when the request was taken. -/
theorem perform_ports (code : ReqCode) (ps : List Byte) (s : State) : (code.perform ps s).1.ports = s.ports := by
  have granted {f : List Byte → State → State × Reply} {R : State → State → Prop} (h : Grants f R)
      (hR : ∀ {t}, R s t → t.ports = s.ports) : (f ps s).1.ports = s.ports := by
    rcases h ps s with e | ⟨-, e⟩
    · rw [e]
    · exact hR e
  cases code with
  | patchSet => exact patchSet_ignores.ports ps s
  | patchSetIf => exact patchSetIf_ignores.ports ps s
  | patchClear => exact patchClear_ignores.ports ps s
  | patchClearIf => exact patchClearIf_ignores.ports ps s
  | patchClearChannel => exact patchClearChannel_ignores.ports ps s
  | patchSwap => exact patchSwap_ignores.ports ps s
  | patchRange => exact patchRange_ignores.ports ps s
  | bankCopy => exact bankCopy_ignores.ports ps s
  | bankErase => exact bankErase_ignores.ports ps s
  | bankLock => exact (setBankLock_ignores true).ports ps s
  | bankUnlock => exact (setBankLock_ignores false).ports ps s
  | lookDelete => exact granted lookDelete_grants State.BankEdit.ports
  | circuitSet => exact granted circuitSet_grants State.CircuitEdit.ports
  | faultClear => exact granted faultClear_grants State.CircuitEdit.ports
  | statusAck => exact granted statusAck_grants State.CircuitEdit.ports
  | reassign => exact (reassign_only ps s).kept.1
  | restore => exact (restore_only ps s).kept.1
  | rackSet => exact (rackSet_only ps s).kept.1
  | rigSet => rw [ReqCode.perform, rigSet_frame]
  | rigLock | rigUnlock => rw [ReqCode.perform, setRigLock_frame]
  | curveLoad => rw [ReqCode.perform, curveLoad_frame]
  | go => exact go_ignores.ports ps s
  | release => exact release_ignores.ports ps s
  | hold => exact hold_ignores.ports ps s
  | resume => exact resume_ignores.ports ps s
  | stopLoop => exact stopLoop_ignores.ports ps s
  | master => exact master_ignores.ports ps s
  | deskClear => exact deskClear_ignores.ports ps s
  | changeover => exact changeover_ignores.ports ps s
  | capture | uncapture | grand | blackout =>
    simp only [ReqCode.perform, Machine.capture, Machine.uncapture, Machine.grand, Machine.blackout]
    repeat' split
    all_goals rfl
  | patchLoad | lookWrite => rfl
  | _ => rw [perform_reads rfl]

/-! ### The open look writes -/

/-- Every open look write is as `W` says. -/
def State.WritesAre (W : WriteTransfer → Prop) (s : State) : Prop := ∀ p w, (s.port p).transfer = some (.write w) → W w

/-- Every stored look is as `P` says. -/
def State.LooksAre (P : Look → Prop) (s : State) : Prop := ∀ b n l, s.look b n = some l → P l

/-- A look write as its opening leaves it (R52). -/
structure WriteTransfer.Fresh (w : WriteTransfer) : Prop where
  announced : 1 ≤ w.announced ∧ w.announced ≤ 1024
  staged : w.staged = []
  received : w.received = 0
  fault : w.fault = none

/-- What `P` says of a look follows, at the decision of a look write, from what `W` says of the write, and `W` holds of a fresh write
and through the staging of every frame. -/
structure WriteRule (P : Look → Prop) (W : WriteTransfer → Prop) : Prop where
  opens : ∀ {w : WriteTransfer}, w.Fresh → W w
  stages : ∀ {w} data, W w → W (stageFrame w data)
  stores : ∀ {w : WriteTransfer}, W w → w.announced ≤ w.received → w.fault = none → P ⟨w.header, w.staged⟩

section
variable {P : Look → Prop} {W : WriteTransfer → Prop} {s t : State}

/-- An opening that opens a look write opens a fresh one. -/
theorem opening_fresh {code : ReqCode} {r : Request} {u : State} {w : WriteTransfer} (h : code.opening r u = .ok (.write w)) :
    w.Fresh := by
  cases code <;> try cases h
  case patchLoad =>
    simp only [ReqCode.opening, patchLoadOpening] at h
    split at h
    · split at h <;> cases h
    · cases h
  case lookWrite =>
    simp only [ReqCode.opening, lookWriteOpening] at h
    split at h
    · split at h
      · split at h
        · cases h
        · rename_i hr
          split at h <;> cases h
          obtain ⟨hin, -⟩ := State.editable_of_refusal hr
          simp only [Bool.and_eq_true, decide_eq_true_eq] at hin
          exact ⟨⟨hin.1.2, hin.2⟩, rfl, rfl, rfl⟩
      · cases h
    · cases h

theorem State.WritesAre.of_ports (h : s.WritesAre W) (hp : t.ports = s.ports) : t.WritesAre W := fun p w hw =>
  h p w (by cases p <;> simpa only [State.port, hp] using hw)

theorem State.WritesAre.setPort (h : s.WritesAre W) (p : Port) {v : PortState} (hv : ∀ w, v.transfer = some (.write w) → W w) :
    (s.setPort p v).WritesAre W := fun q w hw => by
  rw [State.port_setPort] at hw
  split at hw
  · exact hv w hw
  · exact h q w hw

/-- A write of a port's other items. -/
theorem State.WritesAre.setPort_same (h : s.WritesAre W) (p : Port) {v : PortState} (hv : v.transfer = (s.port p).transfer) :
    (s.setPort p v).WritesAre W := h.setPort p fun w hw => h p w (hv ▸ hw)

theorem State.WritesAre.closeEarly (h : s.WritesAre W) (p : Port) : (s.closeEarly p).WritesAre W := by
  rw [State.closeEarly_eq]; exact h.setPort p nofun

theorem State.WritesAre.taken (h : s.WritesAre W) (p : Port) : (s.taken p).WritesAre W := by
  rw [State.taken_eq]; exact (h.setPort p (v := (s.port p).afterTaking) nofun).of_ports rfl

theorem State.WritesAre.answer (h : s.WritesAre W) (p : Port) (r : Request) (y : Reply) : (s.answer p r y).WritesAre W :=
  h.setPort_same p rfl

/-- A taken request is performed and answered. -/
theorem State.WritesAre.serve (h : s.WritesAre W) (code : ReqCode) : (s.serve code code.perform).WritesAre W := by
  rcases serve_perform_cases (s := s) (code := code) rfl with e | ⟨p, r, -, -, e⟩ <;> rw [e]
  · exact h
  · exact ((h.taken p).of_ports (perform_ports ..)).answer p r _

/-- A taken announcing request opens its transfer, or is refused. -/
theorem State.WritesAre.serveOpening (h : s.WritesAre W) (opens : ∀ {w : WriteTransfer}, w.Fresh → W w) (code : ReqCode) :
    (s.serveOpening code code.opening).WritesAre W := by
  cases hn : s.nextRequest with
  | none => simpa only [State.serveOpening, hn] using h
  | some x =>
    obtain ⟨p, r⟩ := x
    by_cases hc : r.code = code
    · rw [s.serveOpening_next _ hn hc]
      split
      · rename_i tr htr
        refine (h.taken p).setPort p fun w hw => opens ?_
        cases hw
        exact opening_fresh htr
      · refine State.WritesAre.answer ?_ p r _
        exact (h.taken p).setPort_same p rfl
    · simpa only [State.serveOpening, hn, hc, if_false] using h

/-- A request row opens a fresh look write, or none. -/
theorem State.WritesAre.request (h : s.WritesAre W) (opens : ∀ {w : WriteTransfer}, w.Fresh → W w) {c : Instr} {code : ReqCode}
    (hc : c.requestCode = some code) (hx : exec c s = .next t) : t.WritesAre W := by
  cases ha : code.announcing with
  | true =>
    rw [exec_serveOpening hc ha] at hx
    exact Host.Outcome.next.inj hx ▸ h.serveOpening opens code
  | false =>
    by_cases hd : code = .deskClear
    · subst hd
      obtain rfl : c = .deskClear := by cases c <;> cases hc; rfl
      rcases execDeskClear_cases s with e | ⟨p, r, -, -, e⟩ <;> cases hx.symm.trans e
      · exact h.serve .deskClear
      · refine State.WritesAre.of_ports (State.WritesAre.setPort_same (h.closeEarly p) p ?_) rfl
        rfl
    · rw [exec_serve hc ha hd] at hx
      exact Host.Outcome.next.inj hx ▸ h.serve code

/-- A frame that closes its port's transfer or leaves it. -/
theorem State.WritesAre.onFrame (h : s.WritesAre W) {p : Port} {xs : List LineSymbol} {take : FrameClass → State → Option State}
    (ht : ∀ {f u v}, take f u = some v → u.WritesAre W → v.WritesAre W) : (s.onFrame p xs take).WritesAre W := by
  rcases s.onFrame_cases p xs take with ⟨-, e⟩ | ⟨-, -, e⟩ | ⟨f, v, -, -, hv, e⟩ | e <;> rw [e]
  · exact h
  · exact h.setPort_same p rfl
  · exact ht hv (h.setPort_same p rfl)
  · exact h

theorem State.WritesAre.takeRequest {p : Port} {f : FrameClass} (h : s.WritesAre W) (ht : takeRequest p f s = some t) :
    t.WritesAre W := by
  cases f <;> try cases ht
  unfold Machine.takeRequest at ht
  dsimp only at ht
  split at ht <;> cases ht
  · exact (h.closeEarly p).setPort_same p rfl
  · exact (h.closeEarly p).answer p _ _

theorem State.WritesAre.takeMalformed {p : Port} {f : FrameClass} (h : s.WritesAre W) (ht : takeMalformed p f s = some t) :
    t.WritesAre W := by
  cases f <;> cases ht
  split
  · exact h.setPort_same p rfl
  · exact (h.closeEarly p).setPort_same p rfl

/-! ### Deliveries -/

theorem State.WritesAre.deliver (h : s.WritesAre W) (stages : ∀ {w} data, W w → W (stageFrame w data)) {p : Port} {tr : Transfer}
    (htr : (s.port p).transfer = some tr) (data : List Byte) : (s.deliver p tr data).WritesAre W := by
  cases tr with
  | load tl =>
    have loaded : (loadFrame s tl data).1.WritesAre W := h.of_ports (by rw [loadFrame_frame])
    simp only [State.deliver]
    split
    · rw [State.closeFull_eq]; exact loaded.setPort p nofun
    · exact loaded.setPort p nofun
  | write w =>
    simp only [State.deliver]
    split
    · rw [State.closeFull_eq]
      exact (h.of_ports (t := (decideWrite (stageFrame w data) s).1) (by rw [decideWrite_frame])).setPort p nofun
    · refine h.setPort p fun w' hw' => ?_
      cases hw'
      exact stages data (h p w htr)

/-- Every command leaves the open look writes as they are, closes them, opens fresh ones, or stages frames in them. -/
theorem State.WritesAre.exec (h : s.WritesAre W) (opens : ∀ {w : WriteTransfer}, w.Fresh → W w)
    (stages : ∀ {w} data, W w → W (stageFrame w data)) {c : Instr} (hx : exec c s = .next t) : t.WritesAre W := by
  have keeps (u : State) (p : Port) (v : PortState) (hv : v.transfer = (u.port p).transfer) (hu : u.WritesAre W) :
      (u.setPort p v).WritesAre W := hu.setPort_same p hv
  have deliver (u : State) (p : Port) (tr : Transfer) (data : List Byte) (htr : (u.port p).transfer = some tr)
      (hu : u.WritesAre W) : (u.deliver p tr data).WritesAre W := hu.deliver stages htr data
  have initial {u : State} (hu : u.ports = State.reset.ports) : u.WritesAre W := by
    refine State.WritesAre.of_ports (s := State.reset) (fun p w hw => ?_) hu
    rw [State.reset_port] at hw
    cases hw
  cases hc : c.requestCode with
  | some code => exact h.request opens hc hx
  | none =>
    cases c <;> cases hc
    case powerOn.refl x y =>
      rcases exec_powerOn_cases hx with ⟨-, e⟩ | ⟨-, e⟩ <;> rw [e]
      · exact initial rfl
      · exact initial ((((State.placeAll_only _ .a).trans (State.placeAll_only _ .b)).trans (State.placeAll_only _ .c)).trans
          (State.placeAll_only _ .d)).kept.1
    case consoleReset.refl => cases hx; exact initial rfl
    case consoleResetRelease.refl => cases hx; exact h.of_ports rfl
    case requestFrameArrival.refl p xs => cases hx; exact h.onFrame fun ht hu => hu.takeRequest ht
    case malformedFrameArrival.refl p xs => cases hx; exact h.onFrame fun ht hu => hu.takeMalformed ht
    case dataFrameArrival.refl p xs => cases hx; exact onFrame_takeData keeps deliver h p xs
    case dataHoldDelivery.refl p => cases hx; exact deliverHeld_keeps keeps deliver h p
    case inactivityTimeout.refl p =>
      simp only [Machine.exec, execInactivityTimeout] at hx
      split at hx <;> cases hx
      · exact h.closeEarly p
      · exact h
    case heldDeskClearPerformed.refl =>
      simp only [Machine.exec, execHeldDeskClearPerformed] at hx
      split at hx
      · cases hx; exact h
      · split at hx
        · cases hx; exact h
        · cases hx
          refine State.WritesAre.answer ?_ _ _ _
          refine State.WritesAre.of_ports ?_ (perform_ports .deskClear _ _)
          exact h.setPort_same _ rfl
    case switchEvent.refl =>
      simp only [Machine.exec, execSwitchEvent] at hx
      split at hx <;> cases hx
      · exact h.of_ports rfl
      · exact h
    case fadeInterval.refl =>
      simp only [Machine.exec, execFadeInterval] at hx
      have ports := (State.setChangeover_ports s.fadeTick s.fadeTick.changeover.tick).trans s.fadeTick_only.kept.1
      split at hx
      · exact h.of_ports (Host.Outcome.next.inj hx ▸ ports)
      · exact Host.Outcome.next.inj hx ▸ h
    case frameDue.refl l =>
      simp only [Machine.exec, execFrameDue_eq] at hx
      split at hx
      · have ports : (s.framed l).ports = s.ports := ((s.windowSilent_only l).trans (State.setLink_only ..)).kept.1
        exact h.of_ports (Host.Outcome.next.inj hx ▸ ports)
      · exact Host.Outcome.next.inj hx ▸ h
    case pollFrameEnd.refl l =>
      simp only [Machine.exec, execPollFrameEnd] at hx
      split at hx <;> cases hx
      · exact h
      · exact h.of_ports (s.setLink_only ..).kept.1
    case windowExpiry.refl l => cases hx; exact h.of_ports (s.windowSilent_only l).kept.1
    case replyArrival.refl l bytes => exact h.of_ports (State.replyArrival_only hx).kept.1
    case answerWhollySent.refl p =>
      simp only [Machine.exec, execAnswerWhollySent] at hx
      split at hx <;> cases hx
      · exact h
      · exact h.setPort_same p rfl

end

end Sys2Proof.Machine
end

section
/-!
SUPPORT. A look is stored by the decision of a look write alone: every other event leaves the stored looks, or takes some away.
-/

namespace Sys2Proof.Machine

section
variable {P : Look → Prop} {W : WriteTransfer → Prop} {s t : State}

/-! ### Looks left or taken away -/

theorem State.LooksAre.of_looks (h : s.LooksAre P) (hl : ∀ b n, t.look b n = s.look b n ∨ t.look b n = none) : t.LooksAre P :=
  fun b n l e => by
    rcases hl b n with hk | hk <;> rw [hk] at e
    · exact h b n l e
    · cases e

theorem State.LooksAre.of_banks (h : s.LooksAre P) (hb : t.banks = s.banks) : t.LooksAre P :=
  h.of_looks fun b n => .inl (by simp only [State.look, State.bank, hb])

theorem State.looksAre_portFree : PortFree (State.LooksAre P) := fun _ _ huv hu => hu.of_banks huv.banks

theorem State.look_setRecords (s : State) (b b' n : Nat) (rs : List PatchRec) : (s.setRecords b rs).look b' n = s.look b' n := by
  simp only [State.look, State.bank_setRecords]
  split
  · rename_i e; rw [← e]
  · rfl

theorem State.look_rewriteRecords (s : State) (f : PatchRec → PatchRec) (b n : Nat) : (s.rewriteRecords f).look b n = s.look b n := by
  simp only [State.look, State.bank_rewriteRecords]

theorem State.look_storeRecord {b ch ck prop n : Nat} {r : PatchRec} (h : s.storeRecord b ch ck prop = .ok (t, r, n)) (b' k : Nat) :
    t.look b' k = s.look b' k := by
  obtain ⟨_, _, -, ⟨_, -, rfl, -⟩ | ⟨-, -, rfl, -⟩⟩ := s.storeRecord_ok h <;> exact s.look_setRecords ..

theorem look_rangeFold (b ch ck prop : Nat) (is : List Nat) (x : RunTally) (b' k : Nat) :
    (is.foldl (rangePair b ch ck prop) x).state.look b' k = x.state.look b' k := by
  induction is generalizing x with
  | nil => rfl
  | cons i is ih =>
    refine (ih _).trans ?_
    unfold rangePair
    split
    · exact State.look_storeRecord ‹_› ..
    · rfl

/-- A bank edit stores no look. -/
theorem State.BankEdit.look (e : s.BankEdit t) (b n : Nat) : t.look b n = s.look b n ∨ t.look b n = none := by
  cases e with
  | store _ _ _ e => exact .inl (State.look_storeRecord e ..)
  | remove | swap | copy => exact .inl (s.look_setRecords ..)
  | range => exact .inl (look_rangeFold ..)
  | erase =>
    rw [State.look_setBank]
    split
    · exact .inr rfl
    · exact .inl rfl
  | lock =>
    rw [State.look_setBank]
    split
    · rename_i e; exact .inl (by rw [← e]; rfl)
    · exact .inl rfl
  | deleteLook =>
    rw [State.look_setLook]
    split
    · exact .inr rfl
    · exact .inl rfl

/-- No request stores a look. -/
theorem State.LooksAre.perform (h : s.LooksAre P) (code : ReqCode) (ps : List Byte) : (code.perform ps s).1.LooksAre P := by
  rcases perform_grants code ps s with e | ⟨-, e⟩
  · rw [e]; exact h
  · cases e with
    | bank e => exact h.of_looks e.look
    | circuit e => exact h.of_banks e.banks
    | apart e => exact h.of_banks e.1
    | switch _ _ hb _ => exact h.of_banks hb

/-- No record of a load stores a look. -/
theorem State.LooksAre.loadFrame (h : s.LooksAre P) (tl : LoadTransfer) (data : List Byte) : (loadFrame s tl data).1.LooksAre P := by
  have fold (rs : List (Nat × Nat × Nat)) : ∀ x : State × LoadTransfer, x.1.LooksAre P → (rs.foldl loadRecord x).1.LooksAre P := by
    induction rs with
    | nil => exact fun _ hx => hx
    | cons r rs ih =>
      intro x hx
      refine ih _ ?_
      unfold loadRecord
      dsimp only
      split
      · exact hx
      · split
        · exact hx
        · exact hx.of_looks fun b n => .inl (State.look_storeRecord ‹_› b n)
  unfold Machine.loadFrame
  split
  · exact h
  · exact fold _ _ h

theorem State.LooksAre.replyArrival (h : s.LooksAre P) {l : LinkId} {bytes : List Byte}
    (hx : exec (.replyArrival l bytes) s = .next t) : t.LooksAre P := by
  have hclose : (s.closeWindow l).LooksAre P := h.of_banks (by simp [State.closeWindow])
  rcases exec_replyArrival_cases hx with e | e | ⟨r, -, ⟨y, e⟩ | e⟩ <;> rw [e]
  · exact h
  · exact h.of_banks (s.windowSilent_patch l).1
  · rcases (s.closeWindow l).takeReady_banks l r (s.link l).carried y with hb | ⟨w, -, hb⟩
    · exact hclose.of_banks hb
    · refine State.LooksAre.of_banks (hclose.of_looks fun b n => .inl ?_) hb
      exact State.look_rewriteRecords ..
  · exact hclose.of_banks (State.setRow_patch ..).1

/-- The retained looks stand through a power-on. -/
theorem State.LooksAre.powerOn (h : s.LooksAre P) {x y : Bool} (hx : exec (.powerOn x y) s = .next t) : t.LooksAre P := by
  rcases exec_powerOn_cases hx with ⟨-, e⟩ | ⟨-, e⟩ <;> rw [e]
  · exact nofun
  · have kept : s.powerOnRetained.LooksAre P := h.of_looks fun b n => .inl (by rw [State.look, State.powerOnRetained_bank]; rfl)
    exact kept.of_banks s.powerOnRetained.placeEvery_patch.1

/-! ### Looks stored -/

/-- A decided look write stores the look it has staged, or none. -/
theorem State.LooksAre.decideWrite (h : s.LooksAre P) {w : WriteTransfer} (hw : w.fault = none → P ⟨w.header, w.staged⟩) :
    (decideWrite w s).1.LooksAre P := by
  rw [decideWrite_state]
  split
  · rename_i hd
    intro b n l e
    rw [State.look_setLook] at e
    split at e
    · cases e; exact hw hd.1
    · exact h b n l e
  · exact h

/-- Stored looks and open look writes as a rule says. -/
structure WriteRule.Holds (_ : WriteRule P W) (s : State) : Prop where
  looks : s.LooksAre P
  writes : s.WritesAre W

namespace WriteRule.Holds

variable {R : WriteRule P W}

theorem setPort (h : R.Holds s) (p : Port) {v : PortState} (hv : v.transfer = (s.port p).transfer) : R.Holds (s.setPort p v) :=
  ⟨h.looks.of_banks (State.setPort_banks ..), h.writes.setPort_same p hv⟩

theorem deliver (h : R.Holds s) {p : Port} {tr : Transfer} (htr : (s.port p).transfer = some tr) (data : List Byte) :
    R.Holds (s.deliver p tr data) := by
  refine ⟨?_, h.writes.deliver R.stages htr data⟩
  cases tr with
  | load tl =>
    simp only [State.deliver]
    split
    · rw [State.closeFull_eq]; exact (h.looks.loadFrame tl data).of_banks (State.setPort_banks ..)
    · exact (h.looks.loadFrame tl data).of_banks (State.setPort_banks ..)
  | write w =>
    simp only [State.deliver]
    split
    · rename_i hfull
      rw [State.closeFull_eq]
      refine State.LooksAre.of_banks (h.looks.decideWrite fun hf => ?_) (State.setPort_banks ..)
      exact R.stores (R.stages data (h.writes p w htr)) hfull hf
    · exact h.looks.of_banks (State.setPort_banks ..)

/-- Every command keeps the stored looks and the open look writes as a rule says. -/
theorem exec (h : R.Holds s) {c : Instr} (hx : exec c s = .next t) : R.Holds t := by
  have keeps (u : State) (p : Port) (v : PortState) (hv : v.transfer = (u.port p).transfer) (hu : R.Holds u) :
      R.Holds (u.setPort p v) := hu.setPort p hv
  have deliver (u : State) (p : Port) (tr : Transfer) (data : List Byte) (htr : (u.port p).transfer = some tr)
      (hu : R.Holds u) : R.Holds (u.deliver p tr data) := hu.deliver htr data
  refine ⟨?_, h.writes.exec R.opens R.stages hx⟩
  apply exec_cases hx State.looksAre_portFree h.looks
  case request => exact fun code _ r _ _ _ _ hu => (h.looks.of_banks hu.banks).perform code r.params
  case heldClear => exact fun ps _ hu => (h.looks.of_banks hu.banks).perform .deskClear ps
  case dataFrame => exact fun p xs => (onFrame_takeData keeps deliver h p xs).looks
  case heldData => exact fun p => (deliverHeld_keeps keeps deliver h p).looks
  case power => rintro x y rfl; exact h.looks.powerOn hx
  case switch => exact fun _ _ => h.looks.of_banks rfl
  case fade => exact h.looks.of_banks (by rw [State.setChangeover_banks, s.fadeTick_only])
  case frameDue => exact fun l => (h.looks.of_banks (s.windowSilent_patch l).1).of_banks (by simp [State.framed])
  case pollEnd => exact fun l r => h.looks.of_banks (by simp)
  case expiry => exact fun l => h.looks.of_banks (s.windowSilent_patch l).1
  case reply => rintro l bytes rfl; exact h.looks.replyArrival hx

end WriteRule.Holds

end

end Sys2Proof.Machine
end

section
/-!
SUPPORT. The two rules of a look write: what it stages has its levels in range (R63, R98), and, short of a fault, its channels in range
and strictly rising (R49, R53), as many entries as were announced when it is decided.
-/

namespace Sys2Proof.Machine

section
variable {W : WriteTransfer → Prop} {w : WriteTransfer} {s : State}

theorem clampLevel_le (n : Nat) : clampLevel n ≤ Config.full := Nat.min_le_right ..

/-- What the staging of each entry keeps, the staging of a frame keeps. -/
theorem stageFrame_keeps (h : ∀ w e, W w → W (stageEntry w e)) (data : List Byte) (hw : W w) : W (stageFrame w data) := by
  unfold stageFrame
  split
  · exact hw
  · rename_i es _
    generalize es.take (w.announced - w.received) = es
    induction es generalizing w with
    | nil => exact hw
    | cons e es ih => exact ih (h w e hw)

/-! ### Levels -/

/-- Every level a look gives is in range (R63). -/
def Look.InRange (l : Look) : Prop := ∀ e ∈ l.entries, e.level ≤ Config.full

/-- Every level staged is in range. -/
def WriteTransfer.InRange (w : WriteTransfer) : Prop := ∀ e ∈ w.staged, e.level ≤ Config.full

theorem WriteTransfer.InRange.stageEntry (h : w.InRange) (e : Nat × Nat) : (stageEntry w e).InRange := by
  intro x hx
  simp only [Machine.stageEntry, List.mem_append, List.mem_singleton] at hx
  rcases hx with hx | rfl
  · exact h x hx
  · exact clampLevel_le e.2

theorem levelRule : WriteRule Look.InRange WriteTransfer.InRange where
  opens h := by unfold WriteTransfer.InRange; rw [h.staged]; nofun
  stages := stageFrame_keeps fun _ e hw => hw.stageEntry e
  stores hw _ _ := hw

/-! ### Entry lists -/

/-- What a look write has staged without a fault stands in strictly rising order of channel, every channel in range (R53). -/
def WriteTransfer.Rising (w : WriteTransfer) : Prop :=
  w.fault = none → w.staged.Pairwise (fun e e' => e.channel < e'.channel) ∧ ∀ e ∈ w.staged, channelOk e.channel = true

/-- A look write counts as it stages, within an announced count that a look may have, and its entries rise (R49, R53). -/
structure WriteTransfer.Listed (w : WriteTransfer) : Prop where
  announced : 1 ≤ w.announced ∧ w.announced ≤ 1024
  counted : w.staged.length = w.received
  within : w.received ≤ w.announced
  rising : w.Rising

/-- An entry without a fault has its channel in range and above those of all entries before it. -/
theorem rising_concat {es : List LookEntry} (h : es.Pairwise fun e e' => e.channel < e'.channel) {x : LookEntry}
    (hx : entryFault es.getLast? x.channel = none) :
    (es ++ [x]).Pairwise (fun e e' => e.channel < e'.channel) ∧ channelOk x.channel = true := by
  have hok : channelOk x.channel = true ∧ ∀ e, es.getLast? = some e → e.channel < x.channel := by
    unfold entryFault at hx
    split at hx
    · cases hx
    · rename_i hin
      split at hx
      · cases hx
      · rename_i hlast
        refine ⟨by simpa using hin, fun e he => ?_⟩
        simpa [he] using hlast
  refine ⟨List.pairwise_append.mpr ⟨h, List.pairwise_singleton .., fun e he y hy => ?_⟩, hok.1⟩
  obtain rfl := List.mem_singleton.mp hy
  rcases List.eq_nil_or_concat' es with rfl | ⟨before, last, rfl⟩
  · cases he
  · have hlast := hok.2 last List.getLast?_concat
    rcases List.mem_append.mp he with he | he
    · exact Nat.lt_trans ((List.pairwise_append.mp h).2.2 e he last List.mem_cons_self) hlast
    · exact List.mem_singleton.mp he ▸ hlast

theorem WriteTransfer.Rising.stageEntry (h : w.Rising) (e : Nat × Nat) : (stageEntry w e).Rising := by
  intro hf
  simp only [Machine.stageEntry, Option.or_eq_none_iff, Option.map_eq_none_iff] at hf ⊢
  obtain ⟨hpair, hrange⟩ := h hf.1
  obtain ⟨hpair', hok⟩ := rising_concat hpair (x := ⟨e.1, clampLevel e.2⟩) hf.2
  refine ⟨hpair', fun x hx => ?_⟩
  rcases List.mem_append.mp hx with hx | hx
  · exact hrange x hx
  · exact List.mem_singleton.mp hx ▸ hok

theorem WriteTransfer.Listed.stageFrame (h : w.Listed) (data : List Byte) : (stageFrame w data).Listed := by
  obtain ⟨counted, within⟩ := stageFrame_tally w data h.counted h.within
  have rising := stageFrame_keeps (W := WriteTransfer.Rising) (fun _ e hw => hw.stageEntry e) data h.rising
  have announced := stageFrame_keeps (W := fun w => 1 ≤ w.announced ∧ w.announced ≤ 1024) (fun _ _ hw => hw) data h.announced
  exact ⟨announced, counted, within, rising⟩

theorem listRule : WriteRule (fun l => EntriesOk l.entries) WriteTransfer.Listed where
  opens h := by
    refine ⟨h.announced, ?_, ?_, fun _ => ?_⟩
    · rw [h.staged, h.received]; rfl
    · rw [h.received]; exact Nat.zero_le _
    · rw [h.staged]; exact ⟨.nil, nofun⟩
  stages data h := h.stageFrame data
  stores h hfull hf := by
    have counted := h.counted
    have within := h.within
    have announced := h.announced
    obtain ⟨hpair, hrange⟩ := h.rising hf
    exact ⟨by dsimp only; omega, by dsimp only; omega, hpair, hrange⟩

/-! ### The looks kept (O7, second part) -/

/-- Well-formed ports and looks are what the rule of the entry lists asks of the looks and of the open look writes. -/
theorem State.LooksOk.listed (h : s.LooksOk) (hp : s.PortsOk) : listRule.Holds s where
  looks := h.stored
  writes p w hw := by
    obtain ⟨-, -, hlt, hle, hcount⟩ := (hp p).write w hw
    exact ⟨⟨by omega, hle⟩, hcount, Nat.le_of_lt hlt, h.staged p w hw⟩

theorem WriteRule.Holds.looksOk (h : listRule.Holds s) : s.LooksOk := ⟨h.looks, fun p w hw => (h.writes p w hw).rising⟩

/-- Every step keeps the looks' entry lists and those of the open look writes well formed. -/
theorem look_lists_kept {s t : State} (hp : s.PortsOk) (h : s.LooksOk) (hx : step s = .next t) : t.LooksOk := by
  rcases step_cases hx with rfl | ⟨c, rest, -, hx⟩
  · exact h
  · have start : listRule.Holds { s with pending := rest } := ⟨(h.listed hp).looks, (h.listed hp).writes⟩
    exact (start.exec hx).looksOk

end

end Sys2Proof.Machine
end

section
/-!
SUPPORT. The fade engine keeps every level, start and target in range: an interpolated level lies between start and target, a takeover's
start is the level it finds, and its target is a look's level or 0 (R63, R66, R98, R100).
-/

namespace Sys2Proof.Machine

/-! ### Entries -/

/-- An entry's level, start and target are in range. -/
structure Entry.InRange (e : Entry) : Prop where
  level : e.level ≤ Config.full
  start : e.start ≤ Config.full
  target : e.target ≤ Config.full

namespace Entry.InRange

variable {e : Entry}

theorem move (h : e.InRange) (f : Fade) : (f.move e).InRange := by
  unfold Fade.move
  split
  · exact ⟨(interpolate_between ..).2.trans (Nat.max_le.mpr ⟨h.start, h.target⟩), h.start, h.target⟩
  · exact h

theorem finish (h : e.InRange) (n : Nat) : (e.finish n).InRange := by
  unfold Entry.finish
  split
  · exact ⟨h.target, h.start, h.target⟩
  · exact h

theorem turn (h : e.InRange) (n : Nat) : (e.turn n).InRange := by
  unfold Entry.turn
  split
  · exact ⟨h.level, h.target, h.start⟩
  · exact h

end Entry.InRange

theorem advanceFades_only (ns : List Nat) (x : State × List Nat) : x.1.FadeEngineOnly (ns.foldl advanceFade x).1 := by
  induction ns generalizing x with
  | nil => exact .refl _
  | cons n ns ih => exact (advanceFade_only x.1 x.2 n).trans (ih _)

/-- Every playback's master and entries are in range. -/
structure State.PlaybacksInRange (s : State) : Prop where
  masters : ∀ p, (s.playback p).master ≤ Config.full
  entries : ∀ p ch, (s.entry p ch).InRange

namespace State.PlaybacksInRange

variable {s t : State}

theorem of_playbacks (h : s.PlaybacksInRange) (hp : t.playbacks = s.playbacks) : t.PlaybacksInRange := by
  have playback (p : Nat) : t.playback p = s.playback p := by simp only [State.playback, hp]
  exact ⟨fun p => playback p ▸ h.masters p, fun p ch => by rw [State.entry, playback]; exact h.entries p ch⟩

theorem setFades (h : s.PlaybacksInRange) (v : List Fade) : (s.setFades v).PlaybacksInRange := ⟨h.masters, h.entries⟩

theorem setPlayback (h : s.PlaybacksInRange) (p : Nat) {v : Playback} (hm : v.master ≤ Config.full)
    (he : ∀ ch, (v.entries.get Entry.initial ch).InRange) : (s.setPlayback p v).PlaybacksInRange := by
  refine ⟨fun q => ?_, fun q ch => ?_⟩
  · rw [State.playback_setPlayback]
    split
    · exact hm
    · exact h.masters q
  · rw [State.entry_setPlayback]
    split
    · exact he ch
    · exact h.entries q ch

/-- A write of a playback's other fields. -/
theorem setPlayback_fields (h : s.PlaybacksInRange) (p : Nat) {v : Playback} (hm : v.master = (s.playback p).master)
    (he : v.entries = (s.playback p).entries) : (s.setPlayback p v).PlaybacksInRange :=
  h.setPlayback p (hm ▸ h.masters p) fun ch => he ▸ h.entries p ch

theorem mapEntries (h : s.PlaybacksInRange) (p : Nat) {f : Entry → Entry} (h0 : f Entry.initial = Entry.initial)
    (hf : ∀ e, e.InRange → (f e).InRange) : (s.mapEntries p f).PlaybacksInRange :=
  h.setPlayback p (h.masters p) fun ch => by
    have get := Tbl.get_mapVals Entry.initial (fun _ => f) (s.playback p).entries ch h0
    exact get ▸ hf _ (h.entries p ch)

theorem takeEntry (h : s.PlaybacksInRange) (n p ch : Nat) {target : Nat} (ht : target ≤ Config.full) (part : Part) :
    (s.takeEntry n p ch target part).PlaybacksInRange := by
  refine ⟨fun q => ?_, fun q ch' => ?_⟩
  · rw [State.playback_takeEntry]
    split <;> exact h.masters q
  · rw [State.entry_takeEntry]
    split
    · exact ⟨(h.entries p ch).level, (h.entries p ch).level, ht⟩
    · exact h.entries q ch'

theorem takeAll (h : s.PlaybacksInRange) (n p : Nat) {xs : List Claim} (hx : ∀ x ∈ xs, x.target ≤ Config.full) :
    (s.takeAll n p xs).PlaybacksInRange := by
  induction xs generalizing s with
  | nil => exact h
  | cons x xs ih =>
    exact ih (h.takeEntry n p x.channel (hx x List.mem_cons_self) x.part) fun y hy => hx y (List.mem_cons_of_mem x hy)

/-! ### Operations -/

theorem rederive (h : s.PlaybacksInRange) (p : Nat) : (s.rederive p).PlaybacksInRange := h.setPlayback_fields p rfl rfl

theorem rederiveForced (h : s.PlaybacksInRange) (x : Option (Nat × Nat)) : (s.rederiveForced x).PlaybacksInRange := by
  cases x with
  | none => exact h
  | some x => exact h.rederive x.2

theorem cancelFollow (h : s.PlaybacksInRange) (p : Nat) : (s.cancelFollow p).PlaybacksInRange := h.setPlayback_fields p rfl rfl
theorem missFollow (h : s.PlaybacksInRange) (p : Nat) : (s.missFollow p).PlaybacksInRange := h.setPlayback_fields p rfl rfl

theorem resumePlayback (h : s.PlaybacksInRange) (p : Nat) : (s.resumePlayback p).PlaybacksInRange := by
  unfold State.resumePlayback
  split
  · exact (h.setFades _).setPlayback_fields p rfl rfl
  · exact h

theorem finish (h : s.PlaybacksInRange) (p n : Nat) : (s.mapEntries p (Entry.finish n)).PlaybacksInRange :=
  h.mapEntries p rfl fun _ he => he.finish n

theorem secureSlot (h : s.PlaybacksInRange) : s.secureSlot.1.PlaybacksInRange := by
  unfold State.secureSlot State.fastComplete
  split
  · split
    · exact h
    · exact ((h.setFades _).finish _ _).setPlayback_fields _ rfl rfl
  · exact h

theorem complete (h : s.PlaybacksInRange) (f : Fade) : (s.complete f).PlaybacksInRange := by
  unfold State.complete
  dsimp only
  split
  · exact (h.finish _ _).setFades _
  · exact ((h.finish _ _).setFades _).setPlayback_fields _ rfl rfl

theorem readied (h : s.PlaybacksInRange) (p : Nat) : (s.readied p).PlaybacksInRange :=
  (h.secureSlot.resumePlayback p).cancelFollow p

theorem counted (h : s.PlaybacksInRange) (p num : Nat) (o : Option Nat) {l : Look} (hl : l.InRange) :
    (s.counted p num o l).PlaybacksInRange := by
  have taking : (s.taking p num o l).PlaybacksInRange := by
    rw [State.taking, State.takeLook_eq]
    refine ((h.readied p).setFades _).takeAll _ p fun x hx => ?_
    obtain ⟨e, he, rfl⟩ := List.mem_map.mp hx
    exact hl e he
  exact (taking.setFades _).setPlayback_fields p rfl rfl

/-- A launch takes the look's levels as targets (R73). -/
theorem launch (h : s.PlaybacksInRange) (p num : Nat) (o : Option Nat) {l : Look} (hl : l.InRange) :
    (s.launch p num o l).1.PlaybacksInRange := by
  have counted := h.counted p num o hl
  rw [State.launch_eq]
  split
  · exact ((counted.complete _).rederive p).rederiveForced _
  · exact (counted.rederive p).rederiveForced _

theorem fireDue (h : s.PlaybacksInRange) (hl : s.LooksAre Look.InRange) (p : Nat) : (s.fireDue p).PlaybacksInRange := by
  have missed := ((h.cancelFollow p).missFollow p).rederive p
  unfold State.fireDue State.fireFollow
  split
  · exact h
  · split
    · dsimp only
      split
      · exact missed
      · split
        · exact missed
        · rename_i l hlook
          exact (h.cancelFollow p).launch p _ none (hl _ _ l hlook)
    · exact h

/-! ### Requests -/

theorem go (h : s.PlaybacksInRange) (hl : s.LooksAre Look.InRange) (ps : List Byte) : (go ps s).1.PlaybacksInRange := by
  unfold Machine.go
  split
  · rename_i b n1 n0 present t1 t0
    generalize (if present = 0 then none else some (word t1 t0)) = o
    split
    · exact h
    · split
      · exact h
      · split
        · exact h
        · rename_i l hlook
          have launched := h.launch b.toNat (word n1 n0) o (hl _ _ l hlook)
          have looks := hl.of_banks (State.FadeEngineOnly.apart (s.launch_only b.toNat (word n1 n0) o l)).1
          dsimp only
          split
          · exact launched.fireDue looks _
          · exact launched
  · exact h

theorem releasing (h : s.PlaybacksInRange) (p time : Nat) (held : Bool) : (s.releasing p time held).PlaybacksInRange :=
  (h.setFades _).takeAll _ p fun x hx => by
    obtain ⟨ch, -, rfl⟩ := List.mem_map.mp hx
    exact Nat.zero_le _

theorem release (h : s.PlaybacksInRange) (ps : List Byte) : (release ps s).1.PlaybacksInRange := by
  have unlooked (p : Nat) : (s.unlooked p).PlaybacksInRange := h.setPlayback_fields p rfl rfl
  match ps with
  | [pb, t1, t0] =>
    cases hp : playbackOk pb.toNat with
    | false => simpa only [Machine.release, hp, Bool.not_false, if_true] using h
    | true =>
      rw [release_eq hp]
      split
      · exact (unlooked _).rederive _
      · have secured := (unlooked pb.toNat).secureSlot
        split
        · exact (secured.rederive _).rederiveForced _
        · split
          · exact (((secured.releasing ..).complete _).rederive _).rederiveForced _
          · exact ((secured.releasing ..).rederive _).rederiveForced _
  | [] | [_] | [_, _] | _ :: _ :: _ :: _ :: _ => exact h

theorem hold (h : s.PlaybacksInRange) (ps : List Byte) : (hold ps s).1.PlaybacksInRange := by
  unfold Machine.hold
  repeat' split
  case isFalse.isFalse => exact (h.setFades _).setPlayback_fields _ rfl rfl
  all_goals exact h

theorem resume (h : s.PlaybacksInRange) (ps : List Byte) : (resume ps s).1.PlaybacksInRange := by
  unfold Machine.resume
  repeat' split
  case isFalse.isTrue => exact h.resumePlayback _
  all_goals exact h

theorem stopLoop (h : s.PlaybacksInRange) (ps : List Byte) : (stopLoop ps s).1.PlaybacksInRange := by
  unfold Machine.stopLoop
  repeat' split
  case isFalse => exact h.setFades _
  all_goals exact h

/-- MASTER stores its level clamped (R91). -/
theorem master (h : s.PlaybacksInRange) (ps : List Byte) : (master ps s).1.PlaybacksInRange := by
  unfold Machine.master
  repeat' split
  case isFalse => exact h.setPlayback _ (clampLevel_le _) (h.entries _)
  all_goals exact h

/-- Every entry left where it stands (R92). -/
theorem deskCleared (h : s.PlaybacksInRange) : s.deskClear.PlaybacksInRange := by
  refine ⟨fun p => ?_, fun p ch => ?_⟩
  · rw [State.playback_deskClear]; exact h.masters p
  · rw [State.entry_deskClear]; exact ⟨(h.entries p ch).level, (h.entries p ch).start, (h.entries p ch).target⟩

/-- Every entry at 0 (R97). -/
theorem switched (h : s.PlaybacksInRange) : s.switchOver.PlaybacksInRange := by
  refine ⟨fun p => ?_, fun p ch => ?_⟩
  · rw [State.playback_switchOver]; exact h.masters p
  · rw [State.entry_switchOver]; exact ⟨Nat.zero_le _, (h.entries p ch).start, (h.entries p ch).target⟩

theorem acknowledged (h : s.PlaybacksInRange) : s.acknowledgeAll.PlaybacksInRange := by
  refine ⟨fun p => ?_, fun p ch => ?_⟩
  · rw [State.playback_acknowledgeAll]; exact h.masters p
  · rw [State.entry, State.playback_acknowledgeAll]; exact h.entries p ch

/-! ### The fade interval -/

theorem advance (h : s.PlaybacksInRange) {f : Fade} {fresh : List Nat} {x : State × List Nat} (hx : s.Advance fresh f x) :
    x.1.PlaybacksInRange := by
  have moved : (s.moved f).PlaybacksInRange := (h.setFades _).mapEntries _ rfl fun _ he => he.move f.aged
  have turned : (s.turned f).PlaybacksInRange := moved.mapEntries _ rfl fun _ he => he.turn f.number
  cases hx with
  | held => exact h
  | moves => exact moved
  | bounces => exact turned.setFades _
  | bouncesOut => exact (turned.complete _).rederive _
  | completes => exact (moved.complete _).rederive _

theorem advanceFades (h : s.PlaybacksInRange) (fresh : List Nat) (ns : List Nat) :
    (ns.foldl Machine.advanceFade (s, fresh)).1.PlaybacksInRange := by
  induction ns generalizing s fresh with
  | nil => exact h
  | cons n ns ih =>
    have stepped : (advanceFade (s, fresh) n).1.PlaybacksInRange := by
      cases hn : s.fade n with
      | none => rw [advanceFade_absent hn]; exact h
      | some f => exact h.advance (advanceFade_cases hn)
    exact ih stepped _

theorem followStep (h : s.PlaybacksInRange) (hl : s.LooksAre Look.InRange) (fresh : List Nat) (p : Nat) :
    (followStep fresh s p).PlaybacksInRange := by
  have counted : (s.countFollow p (fresh.contains p)).PlaybacksInRange := by
    unfold State.countFollow
    split
    · exact h
    · split
      · exact h
      · exact h.setPlayback_fields p rfl rfl
  unfold Machine.followStep
  split
  · exact h
  · exact counted.fireDue (hl.of_banks (s.countFollow_only ..).apart.1) p

theorem followSteps (h : s.PlaybacksInRange) (hl : s.LooksAre Look.InRange) (fresh ps : List Nat) :
    (ps.foldl (Machine.followStep fresh) s).PlaybacksInRange := by
  induction ps generalizing s with
  | nil => exact h
  | cons p ps ih => exact ih (h.followStep hl fresh p) (hl.of_banks (followStep_only s fresh p).apart.1)

theorem fadeTick (h : s.PlaybacksInRange) (hl : s.LooksAre Look.InRange) : s.fadeTick.PlaybacksInRange :=
  (h.advanceFades [] _).followSteps (hl.of_banks (advanceFades_only _ (s, [])).apart.1) _ _

end State.PlaybacksInRange

end Sys2Proof.Machine
end

section
/-!
SUPPORT. Every stored proportion is at most 100: the requests and the load that store one clamp it (R4, R10), and all else moves, copies or
removes records with the proportions they have.
-/

namespace Sys2Proof.Machine

/-- Every record's proportion is in range (R4). -/
def State.ProportionsInRange (s : State) : Prop := ∀ b, ∀ r ∈ s.records b, r.proportion ≤ 100

theorem clampProportion_le (n : Nat) : clampProportion n ≤ 100 := Nat.min_le_right ..

theorem PatchRec.exchange_proportion (x y : Nat) (r : PatchRec) : (r.exchange x y).proportion = r.proportion := by
  unfold PatchRec.exchange
  split
  · rfl
  · split <;> rfl

theorem OrderKind.rewriting_proportion (k : OrderKind) (failed spare : Nat) (r : PatchRec) :
    (k.rewriting failed spare r).proportion = r.proportion := by
  cases k
  · simp only [OrderKind.rewriting, PatchRec.ontoSpare]
    split <;> rfl
  · simp only [OrderKind.rewriting, PatchRec.backTo]
    split <;> rfl

namespace State.ProportionsInRange

variable {s t : State}

/-! ### Writes -/

theorem of_records (h : s.ProportionsInRange) (hr : ∀ b, t.records b = s.records b) : t.ProportionsInRange :=
  fun b r hm => h b r (hr b ▸ hm)

theorem of_banks (h : s.ProportionsInRange) (hb : t.banks = s.banks) : t.ProportionsInRange := h.of_records (State.records_congr hb)

theorem setBank (h : s.ProportionsInRange) (b : Nat) {v : Bank} (hv : ∀ r ∈ v.records, r.proportion ≤ 100) :
    (s.setBank b v).ProportionsInRange := fun b' r hm => by
  rw [State.records_setBank] at hm
  split at hm
  · exact hv r hm
  · exact h b' r hm

theorem setRecords (h : s.ProportionsInRange) (b : Nat) {rs : List PatchRec} (hrs : ∀ r ∈ rs, r.proportion ≤ 100) :
    (s.setRecords b rs).ProportionsInRange := h.setBank b hrs

theorem removed (h : s.ProportionsInRange) (b : Nat) (keep : PatchRec → Bool) :
    (s.setRecords b ((s.records b).filter keep)).ProportionsInRange :=
  h.setRecords b fun r hr => h b r (List.mem_of_mem_filter hr)

/-- A change of records that keeps their proportions. -/
theorem mapped (h : s.ProportionsInRange) (b : Nat) {f : PatchRec → PatchRec} (hf : ∀ r, (f r).proportion = r.proportion) :
    ∀ r ∈ sortRecs ((s.records b).map f), r.proportion ≤ 100 := fun r hr => by
  obtain ⟨x, hx, rfl⟩ := List.mem_map.mp (mem_sortRecs.mp hr)
  exact hf x ▸ h b x hx

theorem rewritten (h : s.ProportionsInRange) {f : PatchRec → PatchRec} (hf : ∀ r, (f r).proportion = r.proportion) :
    (s.rewriteRecords f).ProportionsInRange := fun b r hr => by
  rw [State.records_rewriteRecords] at hr
  exact h.mapped b hf r hr

theorem storeRecord (h : s.ProportionsInRange) {b ch ck prop n : Nat} {r : PatchRec} (hp : prop ≤ 100)
    (e : s.storeRecord b ch ck prop = .ok (t, r, n)) : t.ProportionsInRange := by
  obtain ⟨_, _, -, ⟨_, -, rfl, -⟩ | ⟨-, -, rfl, -⟩⟩ := s.storeRecord_ok e
  · refine h.setRecords b fun x hx => ?_
    obtain ⟨old, hold, rfl⟩ := mem_replaceRec hx
    split
    · exact hp
    · exact h b old hold
  · refine h.setRecords b fun x hx => ?_
    rcases mem_insertRec.mp hx with rfl | hx
    · exact hp
    · exact h b x hx

theorem rangeFold {b ch ck prop : Nat} (hp : prop ≤ 100) (is : List Nat) {x : RunTally} (h : x.state.ProportionsInRange) :
    (is.foldl (rangePair b ch ck prop) x).state.ProportionsInRange := by
  induction is generalizing x with
  | nil => exact h
  | cons i is ih =>
    refine ih ?_
    unfold rangePair
    split
    · exact h.storeRecord hp ‹_›
    · exact h

theorem loadFrame (h : s.ProportionsInRange) (tl : LoadTransfer) (data : List Byte) : (loadFrame s tl data).1.ProportionsInRange := by
  have fold (rs : List (Nat × Nat × Nat)) : ∀ x : State × LoadTransfer, x.1.ProportionsInRange →
      (rs.foldl loadRecord x).1.ProportionsInRange := by
    induction rs with
    | nil => exact fun _ hx => hx
    | cons r rs ih =>
      intro x hx
      refine ih _ ?_
      unfold loadRecord
      dsimp only
      split
      · exact hx
      · split
        · exact hx
        · exact hx.storeRecord (clampProportion_le _) ‹_›
  unfold Machine.loadFrame
  split
  · exact h
  · exact fold _ _ h

/-! ### Requests -/

theorem patchSet (h : s.ProportionsInRange) (ps : List Byte) : (patchSet ps s).1.ProportionsInRange := by
  unfold Machine.patchSet
  split
  · split
    · exact h
    · split
      · exact h
      · exact h.storeRecord (clampProportion_le _) ‹_›
  · exact h

theorem patchSetIf (h : s.ProportionsInRange) (ps : List Byte) : (patchSetIf ps s).1.ProportionsInRange := by
  unfold Machine.patchSetIf
  split
  · rename_i present ex
    generalize (if present = 0 then none else some ex.toNat) = expected
    split
    · exact h
    · split
      · exact h
      · dsimp only
        split
        · split
          · exact h
          · exact h.storeRecord (clampProportion_le _) ‹_›
        · exact h
  · exact h

theorem patchClear (h : s.ProportionsInRange) (ps : List Byte) : (patchClear ps s).1.ProportionsInRange := by
  unfold Machine.patchClear
  split
  · split
    · exact h
    · split
      · exact h
      · split
        · exact h
        · exact h.removed _ _
  · exact h

theorem patchClearIf (h : s.ProportionsInRange) (ps : List Byte) : (patchClearIf ps s).1.ProportionsInRange := by
  unfold Machine.patchClearIf
  split
  · split
    · exact h
    · split
      · exact h
      · split
        · exact h
        · split
          · exact h.removed _ _
          · exact h
  · exact h

theorem patchClearChannel (h : s.ProportionsInRange) (ps : List Byte) : (patchClearChannel ps s).1.ProportionsInRange := by
  unfold Machine.patchClearChannel
  split
  · split
    · exact h
    · exact h.removed _ _
  · exact h

theorem patchSwap (h : s.ProportionsInRange) (ps : List Byte) : (patchSwap ps s).1.ProportionsInRange := by
  unfold Machine.patchSwap
  split
  · split
    · exact h
    · split
      · split
        · exact h
        · exact h.setRecords _ (h.mapped _ (PatchRec.exchange_proportion _ _))
      · exact h
  · exact h

theorem patchRange (h : s.ProportionsInRange) (ps : List Byte) : (patchRange ps s).1.ProportionsInRange := by
  unfold Machine.patchRange
  split
  · split
    · exact h
    · dsimp only
      split <;> exact rangeFold (clampProportion_le _) _ (x := ⟨s, 0, none⟩) h
  · exact h

theorem bankCopy (h : s.ProportionsInRange) (ps : List Byte) : (bankCopy ps s).1.ProportionsInRange := by
  unfold Machine.bankCopy
  split
  · split
    · exact h
    · split
      · exact h
      · split
        · exact h
        · exact h.setRecords _ (h _)
  · exact h

theorem bankErase (h : s.ProportionsInRange) (ps : List Byte) : (bankErase ps s).1.ProportionsInRange := by
  unfold Machine.bankErase
  split
  · split
    · exact h
    · split
      · exact h
      · exact h.setBank _ nofun
  · exact h

theorem setBankLock (h : s.ProportionsInRange) (on : Bool) (ps : List Byte) : (setBankLock on ps s).1.ProportionsInRange := by
  unfold Machine.setBankLock
  split
  · split
    · exact h.setBank _ (h _)
    · exact h
  · exact h

theorem lookDelete (h : s.ProportionsInRange) (ps : List Byte) : (lookDelete ps s).1.ProportionsInRange := by
  unfold Machine.lookDelete
  split
  · split
    · exact h
    · split
      · exact h
      · exact h.of_records fun b => State.records_setLook ..
  · exact h

/-- What any request performs. -/
theorem perform (h : s.ProportionsInRange) (code : ReqCode) (ps : List Byte) : (code.perform ps s).1.ProportionsInRange := by
  have apart {f : List Byte → State → State × Reply} {R : State → State → Prop} (hf : Grants f R)
      (hR : ∀ {t}, R s t → t.banks = s.banks) : (f ps s).1.ProportionsInRange := by
    rcases hf ps s with e | ⟨-, e⟩
    · rw [e]; exact h
    · exact h.of_banks (hR e)
  cases code with
  | patchSet => exact h.patchSet ps
  | patchSetIf => exact h.patchSetIf ps
  | patchClear => exact h.patchClear ps
  | patchClearIf => exact h.patchClearIf ps
  | patchClearChannel => exact h.patchClearChannel ps
  | patchSwap => exact h.patchSwap ps
  | patchRange => exact h.patchRange ps
  | bankCopy => exact h.bankCopy ps
  | bankErase => exact h.bankErase ps
  | bankLock => exact h.setBankLock true ps
  | bankUnlock => exact h.setBankLock false ps
  | lookDelete => exact h.lookDelete ps
  | circuitSet => exact apart circuitSet_grants State.CircuitEdit.banks
  | faultClear => exact apart faultClear_grants State.CircuitEdit.banks
  | statusAck => exact apart statusAck_grants State.CircuitEdit.banks
  | reassign => exact apart reassign_grants State.CircuitEdit.banks
  | restore => exact apart restore_grants State.CircuitEdit.banks
  | rigSet => exact apart rigSet_grants And.left
  | rigLock => exact apart (setRigLock_grants true) And.left
  | rigUnlock => exact apart (setRigLock_grants false) And.left
  | curveLoad => exact apart curveLoad_grants And.left
  | go => exact apart go_grants And.left
  | release => exact apart release_grants And.left
  | hold => exact apart hold_grants And.left
  | resume => exact apart resume_grants And.left
  | stopLoop => exact apart stopLoop_grants And.left
  | master => exact apart master_grants And.left
  | deskClear => exact apart deskClear_grants And.left
  | capture => exact apart capture_grants And.left
  | uncapture => exact apart uncapture_grants And.left
  | grand => exact apart grand_grants And.left
  | blackout => exact apart blackout_grants And.left
  | rackSet => exact apart rackSet_grants And.left
  | changeover =>
    rcases changeover_grants ps s with e | ⟨-, hb, -⟩
    · exact h.of_banks (congrArg State.banks e)
    · exact h.of_banks hb
  | patchLoad | lookWrite => exact h
  | _ => rw [perform_reads rfl]; exact h

/-! ### Deliveries and events -/

theorem deliver (h : s.ProportionsInRange) (p : Port) (tr : Transfer) (data : List Byte) : (s.deliver p tr data).ProportionsInRange := by
  have ports {u : State} (hu : u.ProportionsInRange) (v : PortState) : (u.setPort p v).ProportionsInRange :=
    hu.of_banks (State.setPort_banks ..)
  cases tr with
  | load tl =>
    simp only [State.deliver]
    split
    · rw [State.closeFull_eq]; exact ports (h.loadFrame tl data) _
    · exact ports (h.loadFrame tl data) _
  | write w =>
    simp only [State.deliver]
    split
    · rw [State.closeFull_eq, decideWrite_state]
      split
      · exact ports (h.of_records fun b => State.records_setLook ..) _
      · exact ports h _
    · exact ports h _

theorem replyArrival (h : s.ProportionsInRange) {l : LinkId} {bytes : List Byte} (hx : exec (.replyArrival l bytes) s = .next t) :
    t.ProportionsInRange := by
  have closed : (s.closeWindow l).ProportionsInRange := h.of_banks (by simp [State.closeWindow])
  rcases exec_replyArrival_cases hx with e | e | ⟨r, -, ⟨y, e⟩ | e⟩ <;> rw [e]
  · exact h
  · exact h.of_banks (s.windowSilent_patch l).1
  · rcases (s.closeWindow l).takeReady_banks l r (s.link l).carried y with hb | ⟨w, -, hb⟩
    · exact closed.of_banks hb
    · exact (closed.rewritten (OrderKind.rewriting_proportion _ _ _)).of_banks hb
  · exact closed.of_banks (State.setRow_patch ..).1

/-- The records retained through a power-on. -/
theorem powerOnRetained (h : s.ProportionsInRange) : s.powerOnRetained.placeEvery.ProportionsInRange := by
  refine State.ProportionsInRange.of_banks (h.of_records (t := s.powerOnRetained) fun b => ?_) s.powerOnRetained.placeEvery_patch.1
  rw [State.records, State.powerOnRetained_bank]
  rfl

end State.ProportionsInRange

end Sys2Proof.Machine
end

section
/-!
SUPPORT. The settings of circuits, rig and curves, and the levels of the channel mixer and of the changeover controller: each is written
by the request that sets it, clamped or checked, and by power-on (R31, R42, R45, R98, R103, R105, R111, R122, R126).
-/

namespace Sys2Proof.Machine

section
variable {s t : State}

/-! ### Circuits -/

/-- A circuit's curve, threshold and park value are in range (R31). -/
structure Circuit.InRange (c : Circuit) : Prop where
  curve : c.curve ≤ 15
  threshold : 1 ≤ c.threshold ∧ c.threshold ≤ Config.full
  park : ∀ v, c.park = some v → v ≤ 255

theorem Circuit.InRange.of_settings {c d : Circuit} (h : c.InRange) (e : d.settings = c.settings) : d.InRange := by
  simp only [Circuit.settings, Prod.mk.injEq] at e
  obtain ⟨-, hcurve, hthreshold, hpark, -⟩ := e
  exact ⟨hcurve ▸ h.curve, hthreshold ▸ h.threshold, hpark ▸ h.park⟩

theorem clampThreshold_range (n : Nat) : 1 ≤ clampThreshold n ∧ clampThreshold n ≤ Config.full := by
  rw [clampThreshold_eq]
  exact ⟨Nat.le_max_left .., Nat.max_le.mpr ⟨by decide, Nat.min_le_right ..⟩⟩

/-- A selection that CIRCUIT-SET takes stores settings in range (R37). -/
theorem Circuit.InRange.applySettings {c : Circuit} (h : c.InRange) {x : CircuitSelection} (hx : x.inRange = true) :
    (c.applySettings x).InRange := by
  simp only [CircuitSelection.inRange, Bool.and_eq_true] at hx
  obtain ⟨⟨⟨-, hcurve⟩, -⟩, -⟩ := hx
  refine ⟨?_, ?_, fun v hv => ?_⟩
  · cases hc : x.curve with
    | none => simpa [Circuit.applySettings, hc] using h.curve
    | some b => simpa [Circuit.applySettings, hc] using hcurve
  · cases ht : x.threshold with
    | none => simpa [Circuit.applySettings, ht] using h.threshold
    | some b => simpa [Circuit.applySettings, ht] using clampThreshold_range (word b.1 b.2)
  · cases hp : x.park with
    | none => exact h.park v (by simpa [Circuit.applySettings, hp] using hv)
    | some b =>
      simp only [Circuit.applySettings, hp, Option.map_some, Option.getD_some] at hv
      split at hv <;> cases hv
      exact Nat.le_of_lt_succ b.2.isLt

theorem Circuit.applyRole_settings (c : Circuit) (role : Role) : (c.applyRole role).settings = c.settings := by
  unfold Circuit.applyRole
  split <;> rfl

/-- CIRCUIT-SET keeps every circuit in range. -/
theorem circuitSet_inRange (h : ∀ n, (s.circuit n).InRange) (ps : List Byte) (n : Nat) : ((circuitSet ps s).1.circuit n).InRange := by
  unfold circuitSet
  split
  · split
    · exact h n
    · dsimp only
      split
      · exact h n
      · rename_i hr
        simp only [Bool.not_eq_true', Bool.not_eq_false, Bool.and_eq_true] at hr
        split
        · exact h n
        · split
          · exact h n
          · rw [State.circuit_setCircuit]
            split
            · exact ((h _).of_settings (Circuit.applyRole_settings ..)).applySettings hr.2
            · exact h n
  · exact h n

theorem circuitSet_only (ps : List Byte) (s : State) : s.RigOnly (circuitSet ps s).1 := by
  unfold circuitSet
  dsimp only
  repeat' split
  all_goals rfl

theorem faultClear_only (ps : List Byte) (s : State) : s.RigOnly (faultClear ps s).1 := by
  unfold faultClear
  repeat' split
  all_goals rfl

/-- A REASSIGN leaves every setting. -/
theorem reassign_config (ps : List Byte) (s : State) : s.KeepsConfig (reassign ps s).1 := by
  unfold reassign
  split
  · dsimp only
    repeat' split
    case isFalse.isFalse.isFalse.isTrue => exact ((State.KeepsConfig.refl s).setCircuit _ (by rfl)).pairUp ..
    case isFalse.isFalse.isFalse.isFalse => exact (State.KeepsConfig.refl s).pairUp ..
    all_goals exact .refl s
  · exact .refl s

/-- A RESTORE leaves every setting. -/
theorem restore_config (ps : List Byte) (s : State) : s.KeepsConfig (restore ps s).1 := by
  unfold restore
  split
  · dsimp only
    split
    · exact .refl s
    · split
      · exact .refl s
      · split
        · split
          · exact (((State.KeepsConfig.refl s).setCircuit _ (by rfl)).setCircuit _ (by rfl)).oweUndo ..
          · exact .refl s
        · exact .refl s
  · exact .refl s

/-! ### Curves and rig settings -/

theorem length_words : ∀ bytes : List Byte, (words bytes).length = bytes.length / 2
  | [] => rfl
  | [_] => by simp [words]
  | _ :: _ :: rest => by simp only [words, List.length_cons, length_words rest]; omega

/-- CURVE-LOAD stores seventeen points, each in range, none below the one before it (R45, R46). -/
theorem curveLoad_curveOk (h : ∀ c, CurveOk (s.curve c)) (ps : List Byte) (n : Nat) : CurveOk ((curveLoad ps s).1.curve n) := by
  unfold curveLoad
  split
  · split
    · exact h n
    · rename_i c pts hlen
      split
      · exact h n
      · rename_i hr
        simp only [Bool.not_eq_true', Bool.not_eq_false, Bool.and_eq_true, decide_eq_true_eq, List.all_eq_true] at hr
        obtain ⟨⟨hc, -⟩, hpoints⟩ := hr
        split
        · exact h n
        · rename_i hrise
          split
          · exact h n
          · rw [s.curve_setCurve _ n _ (by omega)]
            split
            · exact ⟨by rw [length_words]; omega, hpoints, by simpa using hrise⟩
            · exact h n
  · exact h n

/-- The spare reserve and the thermal ceiling are in range (R42). -/
def Rig.InRange (r : Rig) : Prop := r.spareReserve ≤ 8 ∧ r.ceiling ≤ 255

/-- RIG-SET clamps the spare reserve; a ceiling is one byte (R42). -/
theorem rigSet_inRange (h : s.rig.InRange) (ps : List Byte) : (rigSet ps s).1.rig.InRange := by
  unfold rigSet
  split
  · split
    · exact h
    · split
      · exact h
      · rename_i reserve ceiling _ _
        exact ⟨Nat.min_le_right .., Nat.le_of_lt_succ ceiling.isLt⟩
  · exact h

theorem setRigLock_inRange (h : s.rig.InRange) (on : Bool) (ps : List Byte) : (setRigLock on ps s).1.rig.InRange := by
  unfold setRigLock
  split <;> exact h

/-! ### The requests of the fade engine that change nothing else -/

theorem hold_only (ps : List Byte) (s : State) : s.FadeEngineOnly (hold ps s).1 := by
  unfold hold
  repeat' split
  all_goals rfl

theorem stopLoop_only (ps : List Byte) (s : State) : s.FadeEngineOnly (stopLoop ps s).1 := by
  unfold stopLoop
  repeat' split
  all_goals rfl

theorem master_only (ps : List Byte) (s : State) : s.FadeEngineOnly (master ps s).1 := by
  unfold master
  repeat' split
  all_goals rfl

/-! ### The changeover scale -/

theorem darkScale_le (T k : Nat) : darkScale T k ≤ Config.full := Nat.sub_le ..

theorem Changeover.tick_scale {c : Changeover} (h : c.scale ≤ Config.full) : c.tick.scale ≤ Config.full := by
  unfold Changeover.tick
  split
  · exact darkScale_le ..
  · exact h

/-! ### All of them -/

/-- What the channel mixer, the changeover controller, the curves and the rig settings hold is the same. -/
structure State.SameDesk (s t : State) : Prop where
  grandmaster : t.grandmaster = s.grandmaster
  changeover : t.changeover = s.changeover
  captures : t.captures = s.captures
  curves : t.curves = s.curves
  rig : t.rig = s.rig

theorem State.FadeEngineOnly.sameDesk (h : s.FadeEngineOnly t) : s.SameDesk t := by rw [h]; exact ⟨rfl, rfl, rfl, rfl, rfl⟩
theorem State.RigOnly.sameDesk (h : s.RigOnly t) : s.SameDesk t := by rw [h]; exact ⟨rfl, rfl, rfl, rfl, rfl⟩
theorem State.DeliveryOnly.sameDesk {p : Port} (h : s.DeliveryOnly t p) : s.SameDesk t := by rw [h.1]; exact ⟨rfl, rfl, rfl, rfl, rfl⟩
theorem State.SameButLines.sameDesk (h : s.SameButLines t) : s.SameDesk t := by rw [h]; exact ⟨rfl, rfl, rfl, rfl, rfl⟩
theorem State.BankEdit.sameDesk (h : s.BankEdit t) : s.SameDesk t := by rw [h.frame]; exact ⟨rfl, rfl, rfl, rfl, rfl⟩

/-- Every stored level, proportion and setting outside the look store is in range. -/
structure State.ValuesInRange (s : State) : Prop where
  grand : s.grandmaster ≤ Config.full
  scale : s.changeover.scale ≤ Config.full
  captures : ∀ ch l, s.captureOf ch = some l → l ≤ Config.full
  playbacks : s.PlaybacksInRange
  proportions : s.ProportionsInRange
  curves : ∀ c, CurveOk (s.curve c)
  circuits : ∀ n, (s.circuit n).InRange
  rig : s.rig.InRange

theorem State.LevelsOk.valuesInRange (h : s.LevelsOk) : s.ValuesInRange := by
  refine ⟨h.grand, h.scale, h.captures, ⟨h.masters, fun p ch => ?_⟩, h.proportions, h.curves, fun n => ?_, h.rig⟩
  · obtain ⟨hlevel, hstart, htarget⟩ := h.entries p ch
    exact ⟨hlevel, hstart, htarget⟩
  · obtain ⟨hcurve, hlow, hhigh, hpark⟩ := h.circuits n
    exact ⟨hcurve, ⟨hlow, hhigh⟩, hpark⟩

namespace State.ValuesInRange

/-- The desk the same, and every circuit's settings. -/
theorem of_desk (h : s.ValuesInRange) (hd : s.SameDesk t) (hb : t.PlaybacksInRange) (hp : t.ProportionsInRange)
    (hc : ∀ n, (t.circuit n).settings = (s.circuit n).settings) : t.ValuesInRange where
  grand := hd.grandmaster ▸ h.grand
  scale := hd.changeover ▸ h.scale
  captures ch l e := h.captures ch l (by simpa only [State.captureOf, hd.captures] using e)
  playbacks := hb
  proportions := hp
  curves c := by simpa only [State.curve, hd.curves] using h.curves c
  circuits n := (h.circuits n).of_settings (hc n)
  rig := hd.rig ▸ h.rig

/-- A state that differs in what ports and lines hold. -/
theorem portFree : PortFree State.ValuesInRange := fun u v huv hu =>
  hu.of_desk huv.sameDesk (hu.playbacks.of_playbacks huv.sameEngine.playbacks) (hu.proportions.of_banks huv.banks) fun n => by
    rw [State.circuit_congr huv.circuits]

theorem engine (h : s.ValuesInRange) (ho : s.FadeEngineOnly t) (hb : t.PlaybacksInRange) : t.ValuesInRange :=
  h.of_desk ho.sameDesk hb (h.proportions.of_banks ho.apart.1) fun n => by rw [State.circuit_congr ho.apart.2.1]

theorem rigged (h : s.ValuesInRange) (ho : s.RigOnly t) (hp : t.ProportionsInRange)
    (hc : ∀ n, (t.circuit n).settings = (s.circuit n).settings) : t.ValuesInRange :=
  h.of_desk ho.sameDesk (h.playbacks.of_playbacks ho.sameEngine.playbacks) hp hc

/-! ### Requests -/

theorem circuitSet (h : s.ValuesInRange) (ps : List Byte) : (circuitSet ps s).1.ValuesInRange where
  grand := (circuitSet_only ps s).sameDesk.grandmaster ▸ h.grand
  scale := (circuitSet_only ps s).sameDesk.changeover ▸ h.scale
  captures ch l e := h.captures ch l (by simpa only [State.captureOf, (circuitSet_only ps s).sameDesk.captures] using e)
  playbacks := h.playbacks.of_playbacks (circuitSet_only ps s).sameEngine.playbacks
  proportions := h.proportions.perform .circuitSet ps
  curves c := by simpa only [State.curve, (circuitSet_only ps s).sameDesk.curves] using h.curves c
  circuits := circuitSet_inRange h.circuits ps
  rig := (circuitSet_only ps s).sameDesk.rig ▸ h.rig

theorem curveLoad (h : s.ValuesInRange) (ps : List Byte) : (curveLoad ps s).1.ValuesInRange := by
  have curves := curveLoad_curveOk h.curves ps
  rw [curveLoad_frame] at curves ⊢
  exact ⟨h.grand, h.scale, h.captures, h.playbacks.of_playbacks rfl, h.proportions.of_banks rfl, curves, h.circuits, h.rig⟩

theorem rigSet (h : s.ValuesInRange) (ps : List Byte) : (rigSet ps s).1.ValuesInRange := by
  have rig := rigSet_inRange h.rig ps
  rw [rigSet_frame] at rig ⊢
  exact ⟨h.grand, h.scale, h.captures, h.playbacks.of_playbacks rfl, h.proportions.of_banks rfl, h.curves, h.circuits, rig⟩

theorem setRigLock (h : s.ValuesInRange) (on : Bool) (ps : List Byte) : (setRigLock on ps s).1.ValuesInRange := by
  have rig := setRigLock_inRange h.rig on ps
  rw [setRigLock_frame] at rig ⊢
  exact ⟨h.grand, h.scale, h.captures, h.playbacks.of_playbacks rfl, h.proportions.of_banks rfl, h.curves, h.circuits, rig⟩

theorem setCaptures (h : s.ValuesInRange) {v : Tbl (Option Nat)} (hv : ∀ ch l, v.get none ch = some l → l ≤ Config.full) :
    (s.setCaptures v).ValuesInRange :=
  ⟨h.grand, h.scale, hv, h.playbacks.of_playbacks rfl, h.proportions.of_banks rfl, h.curves, h.circuits, h.rig⟩

theorem setChangeover (h : s.ValuesInRange) {v : Changeover} (hv : v.scale ≤ Config.full) : (s.setChangeover v).ValuesInRange :=
  ⟨h.grand, hv, h.captures, h.playbacks.of_playbacks rfl, h.proportions.of_banks rfl, h.curves, h.circuits, h.rig⟩

/-- CAPTURE stores its level clamped (R105). -/
theorem capture (h : s.ValuesInRange) (ps : List Byte) : (capture ps s).1.ValuesInRange := by
  unfold Machine.capture
  split
  · split
    · exact h
    · refine h.setCaptures fun ch l e => ?_
      rw [Tbl.get_set] at e
      split at e
      · cases e; exact clampLevel_le _
      · exact h.captures ch l e
  · exact h

theorem uncapture (h : s.ValuesInRange) (ps : List Byte) : (uncapture ps s).1.ValuesInRange := by
  unfold Machine.uncapture
  split
  · split
    · exact h.setCaptures nofun
    · split
      · exact h
      · split
        · exact h
        · refine h.setCaptures fun ch l e => ?_
          rw [Tbl.get_set] at e
          split at e
          · cases e
          · exact h.captures ch l e
  · exact h

/-- GRAND stores its level clamped (R111). -/
theorem grandmaster (h : s.ValuesInRange) (ps : List Byte) : (Machine.grand ps s).1.ValuesInRange := by
  unfold Machine.grand
  split
  · exact ⟨clampLevel_le _, h.scale, h.captures, h.playbacks.of_playbacks rfl, h.proportions.of_banks rfl, h.curves, h.circuits, h.rig⟩
  · exact h

theorem blackedOut (h : s.ValuesInRange) (ps : List Byte) : (Machine.blackout ps s).1.ValuesInRange := by
  unfold Machine.blackout
  split
  · split
    · exact ⟨h.grand, h.scale, h.captures, h.playbacks.of_playbacks rfl, h.proportions.of_banks rfl, h.curves, h.circuits, h.rig⟩
    · exact h
  · exact h

/-- A desk clear releases every capture and leaves every level where it stands (R92). -/
theorem deskClear (h : s.ValuesInRange) (ps : List Byte) : (Machine.deskClear ps s).1.ValuesInRange := by
  unfold Machine.deskClear
  split
  · exact ⟨h.grand, h.scale, nofun, h.playbacks.deskCleared, h.proportions.of_banks rfl, h.curves, h.circuits, h.rig⟩
  · exact h

/-- A switch leaves the changeover scale full (R131). -/
theorem switchOver (h : s.ValuesInRange) : s.switchOver.ValuesInRange :=
  ⟨h.grand, Nat.le_refl _, nofun, h.playbacks.switched, h.proportions.of_banks rfl, h.curves, h.circuits, h.rig⟩

theorem changeover (h : s.ValuesInRange) (ps : List Byte) : (Machine.changeover ps s).1.ValuesInRange := by
  unfold Machine.changeover
  split
  · split
    · exact h
    · split
      · exact h
      · split
        · exact h
        · rename_i b t1 t0 _ _ _
          have dark : (s.setChangeover ⟨.darkening, some b.toNat, word t1 t0, 0, 4096, false⟩).ValuesInRange :=
            h.setChangeover (Nat.le_refl _)
          dsimp only
          split
          · exact dark.switchOver
          · exact dark
  · exact h

theorem statusAck (h : s.ValuesInRange) (ps : List Byte) : (statusAck ps s).1.ValuesInRange := by
  unfold Machine.statusAck
  split
  · exact h.of_desk ⟨rfl, rfl, rfl, rfl, rfl⟩ h.playbacks.acknowledged (h.proportions.of_banks rfl)
      (State.KeepsConfig.acknowledgeAll s).settings
  · exact h

/-- Every request keeps what is stored in range. -/
theorem perform (h : s.ValuesInRange) (hl : s.LooksAre Look.InRange) (code : ReqCode) (ps : List Byte) :
    (code.perform ps s).1.ValuesInRange := by
  have proportions := h.proportions.perform code ps
  have bank {f : List Byte → State → State × Reply} (hf : Grants f State.BankEdit) (hp : (f ps s).1.ProportionsInRange) :
      (f ps s).1.ValuesInRange := by
    rcases hf ps s with e | ⟨-, e⟩
    · rw [e]; exact h
    · exact h.of_desk e.sameDesk (h.playbacks.of_playbacks (by rw [e.frame])) hp fun n => by rw [e.sameRig.circuit]
  cases code with
  | patchSet => exact bank patchSet_grants proportions
  | patchSetIf => exact bank patchSetIf_grants proportions
  | patchClear => exact bank patchClear_grants proportions
  | patchClearIf => exact bank patchClearIf_grants proportions
  | patchClearChannel => exact bank patchClearChannel_grants proportions
  | patchSwap => exact bank patchSwap_grants proportions
  | patchRange => exact bank patchRange_grants proportions
  | bankCopy => exact bank bankCopy_grants proportions
  | bankErase => exact bank bankErase_grants proportions
  | bankLock => exact bank (setBankLock_grants true) proportions
  | bankUnlock => exact bank (setBankLock_grants false) proportions
  | lookDelete => exact bank lookDelete_grants proportions
  | circuitSet => exact h.circuitSet ps
  | faultClear => exact h.rigged (faultClear_only ps s) proportions (faultClear_guarded ps s).settings
  | statusAck => exact h.statusAck ps
  | reassign => exact h.rigged (reassign_only ps s) proportions (reassign_config ps s).settings
  | restore => exact h.rigged (restore_only ps s) proportions (restore_config ps s).settings
  | rackSet =>
    refine h.rigged (rackSet_only ps s) proportions fun n => ?_
    rcases rackSet_grants ps s with e | ⟨-, -, hc, -⟩
    · rw [ReqCode.perform, e]
    · rw [ReqCode.perform, State.circuit_congr hc]
  | rigSet => exact h.rigSet ps
  | rigLock => exact h.setRigLock true ps
  | rigUnlock => exact h.setRigLock false ps
  | curveLoad => exact h.curveLoad ps
  | go => exact h.engine (go_only ps s) (h.playbacks.go hl ps)
  | release => exact h.engine (release_only ps s) (h.playbacks.release ps)
  | hold => exact h.engine (hold_only ps s) (h.playbacks.hold ps)
  | resume => exact h.engine (resume_only ps s) (h.playbacks.resume ps)
  | stopLoop => exact h.engine (stopLoop_only ps s) (h.playbacks.stopLoop ps)
  | master => exact h.engine (master_only ps s) (h.playbacks.master ps)
  | deskClear => exact h.deskClear ps
  | capture => exact h.capture ps
  | uncapture => exact h.uncapture ps
  | grand => exact h.grandmaster ps
  | blackout => exact h.blackedOut ps
  | changeover => exact h.changeover ps
  | patchLoad | lookWrite => exact h
  | _ => rw [perform_reads rfl]; exact h

/-! ### Events -/

theorem deliver (h : s.ValuesInRange) (p : Port) (tr : Transfer) (data : List Byte) : (s.deliver p tr data).ValuesInRange :=
  have only := s.deliver_delivery p tr data
  h.of_desk only.sameDesk (h.playbacks.of_playbacks only.sameEngine.playbacks) (h.proportions.deliver p tr data) fun n => by
    rw [only.sameRig.circuit]

/-- Records, settings and curves retained, and every level at its power-on value. -/
theorem powerOn (h : s.ValuesInRange) {x y : Bool} (hx : exec (.powerOn x y) s = .next t) : t.ValuesInRange := by
  have reset := State.reset_levelsOk.valuesInRange
  rcases exec_powerOn_cases hx with ⟨-, e⟩ | ⟨-, e⟩ <;> rw [e]
  · exact ⟨reset.grand, reset.scale, reset.captures, reset.playbacks.of_playbacks rfl, reset.proportions.of_banks rfl, reset.curves,
      reset.circuits, reset.rig⟩
  · have circuits (n : Nat) : (s.powerOnRetained.placeEvery.circuit n).InRange := by
      rw [State.circuit_congr s.powerOnRetained.placeEvery_patch.2, State.powerOnRetained_circuit]
      exact (h.circuits n).of_settings rfl
    have proportions := h.proportions.powerOnRetained
    change s.powerOnRetained.placeEvery.ValuesInRange
    rw [s.powerOnRetained.placeEvery_rowsOnly.1] at circuits proportions ⊢
    exact ⟨reset.grand, reset.scale, reset.captures, reset.playbacks.of_playbacks rfl, proportions, h.curves, circuits, h.rig⟩

/-- Every command keeps what is stored in range, on states whose looks are in range. -/
theorem exec (h : s.ValuesInRange) (hl : s.LooksAre Look.InRange) {c : Instr} (hx : exec c s = .next t) : t.ValuesInRange := by
  have ports {u : State} (hu : s.SameButPorts u) : u.ValuesInRange := portFree s u hu.lines h
  have looks {u : State} (hu : s.SameButPorts u) : u.LooksAre Look.InRange := hl.of_banks hu.banks
  have deliver (u : State) (p : Port) (tr : Transfer) (data : List Byte) (_ : (u.port p).transfer = some tr) (hu : u.ValuesInRange) :
      (u.deliver p tr data).ValuesInRange := hu.deliver p tr data
  have silent (l : LinkId) : (s.windowSilent l).ValuesInRange :=
    h.rigged (s.windowSilent_only l) (h.proportions.of_banks (s.windowSilent_patch l).1)
      ((State.KeepsConfig.refl s).windowSilent l).settings
  have linked {u : State} (hu : u.ValuesInRange) (l : LinkId) (k : Link) : (u.setLink l k).ValuesInRange :=
    hu.rigged (u.setLink_only l k) (hu.proportions.of_banks (State.setLink_banks ..)) fun n => by rw [State.circuit_setLink]
  apply exec_cases hx portFree h
  case request => exact fun code _ r _ _ _ _ hu => (ports hu).perform (looks hu) code r.params
  case heldClear => exact fun ps _ hu => (ports hu).deskClear ps
  case dataFrame => exact onFrame_takeData portFree.setPort deliver h
  case heldData => exact deliverHeld_keeps portFree.setPort deliver h
  case power => rintro x y rfl; exact h.powerOn hx
  case switch => exact fun _ _ => h.switchOver
  case fade =>
    have ticked := h.engine s.fadeTick_only (h.playbacks.fadeTick hl)
    exact ticked.setChangeover (Changeover.tick_scale ticked.scale)
  case frameDue => exact fun l => linked (silent l) l _
  case pollEnd => exact fun l r => linked h l _
  case expiry => exact silent
  case reply =>
    rintro l bytes rfl
    exact h.rigged (State.replyArrival_only hx) (h.proportions.replyArrival hx) (State.KeepsConfig.replyArrival hx).settings

end State.ValuesInRange

/-! ### The levels kept (O7, first part) -/

/-- Every stored level and setting is in range exactly when those outside the look store are, and those of the looks and of the open
look writes. -/
theorem State.levelsOk_iff : s.LevelsOk ↔ s.ValuesInRange ∧ levelRule.Holds s where
  mp h := ⟨h.valuesInRange, h.looks, h.staged⟩
  mpr := fun ⟨hv, hr⟩ => {
    grand := hv.grand
    scale := hv.scale
    captures := hv.captures
    masters := hv.playbacks.masters
    entries p ch := ⟨(hv.playbacks.entries p ch).level, (hv.playbacks.entries p ch).start, (hv.playbacks.entries p ch).target⟩
    looks := hr.looks
    staged := hr.writes
    curves := hv.curves
    proportions := hv.proportions
    circuits n := ⟨(hv.circuits n).curve, (hv.circuits n).threshold.1, (hv.circuits n).threshold.2, (hv.circuits n).park⟩
    rig := hv.rig }

/-- Every step keeps every stored level and setting in range. -/
theorem level_ranges_kept (h : s.LevelsOk) (hx : step s = .next t) : t.LevelsOk := by
  rcases step_cases hx with rfl | ⟨c, rest, -, hx⟩
  · exact h
  · obtain ⟨values, rule⟩ := State.levelsOk_iff.mp h
    have values : ({ s with pending := rest } : State).ValuesInRange :=
      values.of_desk ⟨rfl, rfl, rfl, rfl, rfl⟩ (values.playbacks.of_playbacks rfl) (values.proportions.of_banks rfl) fun _ => rfl
    have rule : levelRule.Holds { s with pending := rest } := ⟨rule.looks, rule.writes⟩
    exact State.levelsOk_iff.mpr ⟨values.exec rule.looks hx, rule.exec hx⟩

end

/-- Settles O7: what stores a level or a setting clamps or checks it, what the fade engine computes lies between levels it holds, and a
look is stored only by a write whose entries were staged in range, in rising order, and in the number announced. -/
theorem level_ranges_and_look_lists_kept : Obligations.Level_ranges_and_look_lists_kept :=
  ⟨fun _ _ h hx => level_ranges_kept h hx, fun _ _ hp h hx => look_lists_kept hp h hx⟩

end Sys2Proof.Machine
end

section
/-!
SUPPORT. The arithmetic of levels: interpolation in time, scaling and contributions, the greatest of a list, curves and slot values.
SETTLES the interpolation rule (O39).
-/

namespace Sys2Proof.Machine

/-! ### Interpolation (R100) -/

section
variable {a b d D e : Nat}

theorem interpolate_delayed (h : e < d) : interpolate a b d D e = a := if_pos h

theorem interpolate_at_once (h : d ≤ e) : interpolate a b d 0 e = b := (if_neg (Nat.not_lt.mpr h)).trans (if_pos rfl)

/-- The part of a distance `x` covered after `k` of `D` steps, to the nearest. -/
def covered (x k D : Nat) : Nat := (x * k + D / 2) / D

theorem covered_mono (x D : Nat) {k k' : Nat} (h : k ≤ k') : covered x k D ≤ covered x k' D :=
  Nat.div_le_div_right (Nat.add_le_add_right (Nat.mul_le_mul_left x h) _)

theorem covered_all (x : Nat) (h : 0 < D) : covered x D D = x := by
  rw [covered, Nat.add_comm, Nat.add_mul_div_right _ _ h, Nat.div_eq_of_lt (by omega), Nat.zero_add]

theorem interpolate_timed (h : d ≤ e) (hD : 0 < D) : interpolate a b d D e =
    if a ≤ b then a + covered (max a b - min a b) (min (e - d) D) D else a - covered (max a b - min a b) (min (e - d) D) D := by
  have hne : D ≠ 0 := by omega
  simp only [interpolate, Nat.not_lt.mpr h, hne, if_false, covered]
  split
  · rename_i hab; rw [Nat.max_eq_right hab, Nat.min_eq_left hab]
  · rename_i hab; rw [Nat.max_eq_left (Nat.le_of_not_le hab), Nat.min_eq_right (Nat.le_of_not_le hab)]

/-- At the end of its time an entry stands at its target exactly. -/
theorem interpolate_ended (h : d + D ≤ e) : interpolate a b d D e = b := by
  rcases Nat.eq_zero_or_pos D with rfl | hD
  · exact interpolate_at_once h
  · have all : min (e - d) D = D := by omega
    rw [interpolate_timed (by omega) hD, all, covered_all _ hD]
    split <;> omega

/-- One more interval moves a level toward its target or leaves it. -/
theorem interpolate_toward : (a ≤ b → interpolate a b d D e ≤ interpolate a b d D (e + 1)) ∧
    (b ≤ a → interpolate a b d D (e + 1) ≤ interpolate a b d D e) := by
  rcases Nat.lt_or_ge e d with he | he
  · obtain ⟨hlow, hhigh⟩ := interpolate_between a b d D (e + 1)
    rw [interpolate_delayed (D := D) he]
    omega
  · rcases Nat.eq_zero_or_pos D with rfl | hD
    · rw [interpolate_at_once he, interpolate_at_once (by omega)]
      exact ⟨fun _ => Nat.le_refl _, fun _ => Nat.le_refl _⟩
    · rw [interpolate_timed he hD, interpolate_timed (by omega) hD]
      have more := covered_mono (max a b - min a b) D (k := min (e - d) D) (k' := min (e + 1 - d) D) (by omega)
      have still : a = b → covered (max a b - min a b) (min (e - d) D) D = covered (max a b - min a b) (min (e + 1 - d) D) D := by
        rintro rfl
        simp only [covered, Nat.max_self, Nat.min_self, Nat.sub_self, Nat.zero_mul]
      split <;> omega

theorem Fade.move_owned (f : Fade) {x : Entry} (h : x.owner = some f.number) : f.move x = { x with
    level := interpolate x.start x.target (f.timesOf x.part).1 (f.timesOf x.part).2 f.elapsed } := if_pos h

end

/-- Settles O39: the level before the delay, in the time and after it, and the level of one interval against that of the next. -/
theorem interpolation_rule : Obligations.Interpolation_rule := by
  intro s t d D e
  refine ⟨interpolate_delayed, ?_, interpolate_timed, interpolate_ended, fun f x hx => ?_,
    (interpolate_between ..).1, (interpolate_between ..).2, interpolate_toward.1, interpolate_toward.2⟩
  · rintro h rfl; exact interpolate_at_once h
  · rw [f.move_owned hx]
    cases x.part <;> rfl

/-! ### Scaling and contributions (R98, R109) -/

theorem scaleBy_full (level : Nat) : scaleBy level 4096 = level := by unfold scaleBy; omega

/-- A factor of at most 4096 raises no level. -/
theorem scaleBy_le (level : Nat) {factor : Nat} (h : factor ≤ 4096) : scaleBy level factor ≤ level := by
  have := Nat.mul_le_mul_left level h
  unfold scaleBy
  omega

/-- A proportion of at most 100 raises no level. -/
theorem contribution_le (level : Nat) {prop : Nat} (h : prop ≤ 100) : contribution level prop ≤ level := by
  have := Nat.mul_le_mul_left level h
  unfold contribution
  omega

/-! ### The greatest of a list -/

theorem greatest_cons (x : Nat) (xs : List Nat) : greatest (x :: xs) = max x (greatest xs) := by
  have shift (ys : List Nat) : ∀ a b : Nat, ys.foldl max (max a b) = max a (ys.foldl max b) := by
    induction ys with
    | nil => exact fun _ _ => rfl
    | cons y ys ih => exact fun a b => by rw [List.foldl_cons, List.foldl_cons, Nat.max_assoc, ih]
  rw [greatest, List.foldl_cons, Nat.max_comm, shift, greatest]

theorem le_greatest {x : Nat} {xs : List Nat} (h : x ∈ xs) : x ≤ greatest xs := by
  induction xs with
  | nil => cases h
  | cons y ys ih =>
    rw [greatest_cons]
    rcases List.mem_cons.mp h with rfl | h
    · exact Nat.le_max_left ..
    · exact (ih h).trans (Nat.le_max_right ..)

theorem greatest_mem {xs : List Nat} (h : xs ≠ []) : greatest xs ∈ xs := by
  induction xs with
  | nil => exact absurd rfl h
  | cons x xs ih =>
    rw [greatest_cons]
    by_cases hxs : xs = []
    · subst hxs; simp [greatest]
    · rcases Nat.le_total x (greatest xs) with hle | hle
      · rw [Nat.max_eq_right hle]; exact List.mem_cons_of_mem x (ih hxs)
      · rw [Nat.max_eq_left hle]; exact List.mem_cons_self

theorem greatest_le {xs : List Nat} {n : Nat} (h : ∀ x ∈ xs, x ≤ n) : greatest xs ≤ n := by
  by_cases hxs : xs = []
  · subst hxs; exact Nat.zero_le n
  · exact h _ (greatest_mem hxs)

/-! ### Curves and slot values (R115, R116) -/

section
variable {pts : List Nat} {v : Nat}

theorem CurveOk.point_le (h : CurveOk pts) (k : Nat) : pointOf pts k ≤ 4096 := by
  obtain ⟨-, hle, -⟩ := h
  unfold pointOf
  rw [List.getD_eq_getElem?_getD]
  cases hk : pts[k]? with
  | none => exact Nat.zero_le _
  | some p => exact hle p (List.mem_of_getElem? hk)

theorem CurveOk.point_succ (h : CurveOk pts) {k : Nat} (hk : k < 16) : pointOf pts k ≤ pointOf pts (k + 1) := by
  obtain ⟨hlen, -, hrise⟩ := h
  have hlt : k + 1 < pts.length := by omega
  rw [pointOf, pointOf, List.getD_eq_getElem _ _ (Nat.lt_of_succ_lt hlt), List.getD_eq_getElem _ _ hlt]
  exact List.pairwise_iff_getElem.mp ((nonDecreasing_iff pts).mp hrise) k (k + 1) _ hlt (Nat.lt_succ_self k)

theorem curveOutput_full (pts : List Nat) : curveOutput pts 4096 = pointOf pts 16 := rfl

/-- The output in the segment of a level below 4096: `f` of the 256 steps from its lower point to its upper. -/
theorem curveOutput_segment (pts : List Nat) (h : v < 4096) : curveOutput pts v =
    pointOf pts (v / 256) + ((pointOf pts (v / 256 + 1) - pointOf pts (v / 256)) * (v % 256) + 128) / 256 := if_neg (by omega)

theorem curveOutput_point (pts : List Nat) (h : v < 4096) (hf : v % 256 = 0) : curveOutput pts v = pointOf pts (v / 256) := by
  rw [curveOutput_segment pts h, hf]
  omega

theorem CurveOk.output_between (h : CurveOk pts) (hv : v < 4096) :
    pointOf pts (v / 256) ≤ curveOutput pts v ∧ curveOutput pts v ≤ pointOf pts (v / 256 + 1) := by
  have rise := h.point_succ (k := v / 256) (by omega)
  have part := Nat.mul_le_mul_left (pointOf pts (v / 256 + 1) - pointOf pts (v / 256)) (show v % 256 ≤ 255 by omega)
  rw [curveOutput_segment pts hv]
  omega

theorem CurveOk.output_le (h : CurveOk pts) (hv : v ≤ 4096) : curveOutput pts v ≤ 4096 := by
  rcases Nat.lt_or_eq_of_le hv with hlt | rfl
  · exact (h.output_between hlt).2.trans (h.point_le _)
  · exact h.point_le 16

/-- A higher level never gives a lower output: within a segment more steps are taken, and at its end stands the upper point. -/
theorem CurveOk.output_succ (h : CurveOk pts) (hv : v < 4096) : curveOutput pts v ≤ curveOutput pts (v + 1) := by
  have upper := (h.output_between hv).2
  by_cases hend : v % 256 = 255
  · have next : v / 256 + 1 = (v + 1) / 256 := by omega
    rcases Nat.lt_or_eq_of_le (Nat.succ_le_of_lt hv) with hlt | hfull
    · rw [curveOutput_point pts hlt (by omega), ← next]
      exact upper
    · obtain rfl : v = 4095 := by omega
      exact upper
  · have same : (v + 1) / 256 = v / 256 := by omega
    have step : (v + 1) % 256 = v % 256 + 1 := by omega
    rw [curveOutput_segment pts hv, curveOutput_segment pts (show v + 1 < 4096 by omega), same, step]
    exact Nat.add_le_add_left (Nat.div_le_div_right (Nat.add_le_add_right (Nat.mul_le_mul_left _ (Nat.le_succ _)) _)) _

theorem identityCurve_point {k : Nat} (h : k ≤ 16) : pointOf identityCurve k = 256 * k := by
  have all : ∀ k ∈ List.range 17, pointOf identityCurve k = 256 * k := by decide
  exact all k (List.mem_range.mpr (by omega))

theorem identityCurve_output (h : v ≤ 4096) : curveOutput identityCurve v = v := by
  rcases Nat.lt_or_eq_of_le h with hlt | rfl
  · have width : 256 * (v / 256 + 1) - 256 * (v / 256) = 256 := by omega
    rw [curveOutput_segment _ hlt, identityCurve_point (by omega), identityCurve_point (by omega), width]
    omega
  · exact identityCurve_point (Nat.le_refl 16)

theorem slotValue_le {out : Nat} (h : out ≤ 4096) : slotValue out ≤ 255 := by unfold slotValue; omega

end

end Sys2Proof.Machine
end

section
/-!
The way of a level from playback to slot. SETTLES the level chain (O47), the curve and the slot value (O48), the guards and the thermal
ceiling (O49).
-/

namespace Sys2Proof.Machine

section
variable {s : State}

/-! ### Channels -/

theorem State.composite_captured {ch l : Nat} (h : s.captureOf ch = some l) : s.composite ch = l := by
  simp only [State.composite, h]

/-- A channel that is not captured: the greatest of the eight scaled levels. -/
theorem State.composite_played {ch : Nat} (h : s.captureOf ch = none) :
    (∀ q, 1 ≤ q → q ≤ 8 → s.scaled q ch ≤ s.composite ch) ∧ ∃ q, 1 ≤ q ∧ q ≤ 8 ∧ s.composite ch = s.scaled q ch := by
  have eq : s.composite ch = greatest ((List.range' 1 8).map fun p => s.scaled p ch) := by simp only [State.composite, h]
  refine ⟨fun q h1 h8 => ?_, ?_⟩
  · exact eq ▸ le_greatest (List.mem_map.mpr ⟨q, List.mem_range'_1.mpr ⟨h1, by omega⟩, rfl⟩)
  · obtain ⟨q, hq, e⟩ := List.mem_map.mp (greatest_mem (xs := (List.range' 1 8).map fun p => s.scaled p ch) (by simp))
    obtain ⟨h1, h8⟩ := List.mem_range'_1.mp hq
    exact ⟨q, h1, by omega, eq.trans e.symm⟩

/-! ### Circuits -/

/-- The merge is the greatest contribution of the records handed over. -/
theorem State.merge_greatest (s : State) (n : Nat) : (s.handedOver n = [] → s.merge n = 0) ∧
    (∀ r ∈ s.handedOver n, contribution (s.composite r.channel) r.proportion ≤ s.merge n) ∧
    (s.handedOver n ≠ [] → ∃ r ∈ s.handedOver n, s.merge n = contribution (s.composite r.channel) r.proportion) := by
  refine ⟨fun h => ?_, fun r hr => le_greatest (List.mem_map_of_mem hr), fun h => ?_⟩
  · rw [State.merge, h]; rfl
  · obtain ⟨r, hr, e⟩ := List.mem_map.mp (greatest_mem (List.map_eq_nil_iff.not.mpr h))
    exact ⟨r, hr, e.symm⟩

/-! ### Every level in range (R98) -/

namespace State.LevelsOk

theorem scaled_le (h : s.LevelsOk) (p ch : Nat) : s.scaled p ch ≤ 4096 := (scaleBy_le _ (h.masters p)).trans (h.entries p ch).1

theorem composite_le (h : s.LevelsOk) (ch : Nat) : s.composite ch ≤ 4096 := by
  cases hc : s.captureOf ch with
  | some l => exact State.composite_captured hc ▸ h.captures ch l hc
  | none =>
    obtain ⟨-, q, -, -, e⟩ := State.composite_played hc
    exact e ▸ h.scaled_le q ch

theorem merge_le (h : s.LevelsOk) (n : Nat) : s.merge n ≤ 4096 := greatest_le fun x hx => by
  obtain ⟨r, hr, rfl⟩ := List.mem_map.mp hx
  exact (contribution_le _ (h.proportions s.liveBank r (List.mem_of_mem_filter hr))).trans (h.composite_le _)

theorem afterScale_le (h : s.LevelsOk) (n : Nat) : s.afterScale n ≤ 4096 :=
  (scaleBy_le _ h.scale).trans ((scaleBy_le _ h.grand).trans (h.merge_le n))

theorem computedSlot_le (h : s.LevelsOk) (n : Nat) : s.computedSlot n ≤ 255 := by
  unfold State.computedSlot
  split
  · exact slotValue_le ((h.curves _).output_le (h.afterScale_le n))
  · split <;> decide
  · exact Nat.zero_le _

theorem park_le (h : s.LevelsOk) (n : Nat) : (s.circuit n).park.getD 0 ≤ 255 := by
  cases hp : (s.circuit n).park with
  | none => exact Nat.zero_le _
  | some v =>
    obtain ⟨-, -, -, hpark⟩ := h.circuits n
    exact hpark v hp

theorem slot_le (h : s.LevelsOk) (n : Nat) : s.slot n ≤ 255 := by
  have before : s.slotBeforeCeiling n ≤ 255 := by
    unfold State.slotBeforeCeiling
    split
    · exact h.park_le n
    · exact h.computedSlot_le n
    · exact Nat.zero_le _
  unfold State.slot
  split
  · exact (Nat.min_le_left ..).trans before
  · exact before

end State.LevelsOk

/-- Settles O47: each link of the chain is a greatest value or a scaling that raises no level, so a slot stays in its range. -/
theorem level_chain : Obligations.Level_chain := by
  intro s p ch n
  refine ⟨⟨rfl, fun hm => ?_, scaleBy_le _⟩, fun _ => State.composite_captured, State.composite_played, s.merge_greatest n, rfl, rfl,
    fun h => h.slot_le n⟩
  rw [State.scaled, hm, scaleBy_full]

/-- Settles O48: within its segment the output lies between the two points, which do not fall. -/
theorem curve_and_slot_conversion : Obligations.Curve_and_slot_conversion := by
  refine ⟨fun pts v h hv => ⟨?_, fun hlt => ?_, h.output_le hv⟩, fun _ => identityCurve_output, fun pts => ?_,
    fun out => ⟨rfl, ?_, ?_⟩, rfl, rfl, fun s n => ⟨?_, ?_⟩⟩
  · rintro rfl; rfl
  · obtain ⟨hlow, hhigh⟩ := h.output_between hlt
    exact ⟨curveOutput_segment pts hlt, hlow, hhigh, curveOutput_point pts hlt, h.output_succ hlt⟩
  · exact curveOutput_point pts (by decide) rfl
  · unfold slotValue; omega
  · unfold slotValue; omega
  · intro hm; simp only [State.computedSlot, hm]
  · intro hm; simp only [State.computedSlot, hm]

/-! ### Guards (R117 to R119) -/

theorem Circuit.guard1_iff (c : Circuit) :
    c.guard1 = true ↔ c.mode = .off ∨ c.role = .retired ∨ c.role = .spareFree ∨ c.role = .spareHeld := by
  simp only [Circuit.guard1, Bool.or_eq_true, beq_iff_eq, or_assoc]

theorem Circuit.guard4_iff (c : Circuit) :
    c.guard4 = true ↔ c.role = .failed ∧ ∃ m, c.pairing = .confirmed m ∨ c.pairing = .restoring m := by
  unfold Circuit.guard4
  cases c.pairing <;> simp

theorem State.slot_dark {n g : Nat} (h : s.guardOf n = g) (h5 : g ≠ 5) (h7 : g ≠ 7) : s.slot n = 0 := by
  have before : s.slotBeforeCeiling n = 0 := by
    unfold State.slotBeforeCeiling
    split
    · omega
    · omega
    · rfl
  simp only [State.slot, before, Nat.zero_min, ite_self]

theorem State.slot_parked {n v : Nat} (h : s.guardOf n = 5) (hp : (s.circuit n).park = some v) :
    s.slot n = if s.thermalOf n = .warm then min v s.rig.ceiling else v := by
  simp only [State.slot, State.slotBeforeCeiling, h, hp, Option.getD_some]

theorem State.slot_computed {n : Nat} (h : s.guardOf n = 7) :
    s.slot n = if s.thermalOf n = .warm then min (s.computedSlot n) s.rig.ceiling else s.computedSlot n := by
  simp only [State.slot, State.slotBeforeCeiling, h]

end

/-- Settles O49: the guards are asked in the order of their numbers, and those that are neither park nor the computed slot give 0. -/
theorem guards_decide_the_slot : Obligations.Guards_decide_the_slot := by
  intro s n
  -- The guards as the model decides them, the rack's thermal state by its name.
  dsimp only
  rw [← Circuit.guard1_iff, ← Circuit.guard4_iff, ← Bool.and_eq_true]
  have dark {g : Nat} (h : s.guardOf n = g) (h5 : g ≠ 5) (h7 : g ≠ 7) : s.guardOf n = g ∧ s.slot n = 0 := ⟨h, s.slot_dark h h5 h7⟩
  change _ ∧ (_ → s.thermalOf n = _ → _) ∧ (_ → s.thermalOf n ≠ _ → _) ∧ (_ → s.thermalOf n ≠ _ → _) ∧ (_ → s.thermalOf n ≠ _ → _)
  refine ⟨fun h1 => dark ?_ (by decide) (by decide), fun h1 h2 => dark ?_ (by decide) (by decide),
    fun h1 h2 h3 => dark ?_ (by decide) (by decide), fun h1 h2 h3 h4 => dark ?_ (by decide) (by decide), fun h1 h2 h3 h4 => ?_⟩
  · rw [State.guardOf, if_pos h1]
  · rw [State.guardOf, if_neg h1, if_pos h2]
  · rw [State.guardOf, if_neg h1, if_neg h2, if_pos h3]
  · rw [State.guardOf, if_neg h1, if_neg h2, if_neg h3, if_pos h4]
  have later : s.guardOf n = if (s.circuit n).park.isSome then 5 else if s.blackout then 6 else 7 := by
    rw [State.guardOf, if_neg h1, if_neg h2, if_neg h3, if_neg h4]
  refine ⟨fun v hp => ?_, fun hp hb => dark ?_ (by decide) (by decide), fun hp hb => ?_⟩
  · have h5 : s.guardOf n = 5 := by rw [later, hp]; rfl
    exact ⟨h5, s.slot_parked h5 hp⟩
  · rw [later, hp, hb]; rfl
  · have h7 : s.guardOf n = 7 := by rw [later, hp, hb]; rfl
    exact ⟨h7, s.slot_computed h7⟩

end Sys2Proof.Machine
end

section
/-!
The requests of the channel mixer. SETTLES the obligation on CAPTURE, UNCAPTURE, GRAND and BLACKOUT (O50).
-/

namespace Sys2Proof.Machine

section
variable {s : State}

@[simp] theorem State.captureOf_withPorts (q : Ports) (l : Option Port) (ch : Nat) : (s.withPorts q l).captureOf ch = s.captureOf ch := rfl

/-! ### No request of the channel mixer looks at the ports -/

theorem capture_ignores : IgnoresPorts capture := by
  intro ps s q l
  unfold capture
  split
  · split <;> rfl
  · rfl

theorem uncapture_ignores : IgnoresPorts uncapture := by
  intro ps s q l
  unfold uncapture
  split
  · split
    · rfl
    · split
      · rfl
      · rw [State.captureOf_withPorts]
        split <;> rfl
  · rfl

theorem grand_ignores : IgnoresPorts grand := by
  intro ps s q l
  unfold grand
  split <;> rfl

theorem blackout_ignores : IgnoresPorts blackout := by
  intro ps s q l
  unfold blackout
  split
  · split <;> rfl
  · rfl

/-! ### The capture list -/

/-- A write of the capture list, in what follows of it for each channel. -/
theorem State.SameButPorts.captures_set {t : State} {ch : Nat} {v : Option Nat}
    (h : (s.setCaptures (s.captures.set none ch v)).SameButPorts t) :
    s.SameButCaptures t ∧ ∀ c, t.captureOf c = if c = ch then v else s.captureOf c := by
  rw [h.eq]
  refine ⟨rfl, fun c => ?_⟩
  have read : (s.captures.set none ch v).get none c = if ch = c then v else s.captures.get none c := Tbl.get_set ..
  simp only [eq_comm (a := c)]
  exact read

theorem channelOk_iff (n : Nat) : channelOk n = true ↔ 1 ≤ n ∧ n ≤ 1024 := by simp [channelOk]

variable {a b l1 l0 : Byte}

theorem capture_serves (hch : channelOk (word a b) = true) : s.Serves .capture .capture [a, b, l1, l0]
    (.done (if s.captureOf (word a b) = none then 1 else 0) (enc2 (min (word l1 l0) 4096))) fun t =>
      s.SameButCaptures t ∧ ∀ c, t.captureOf c = if c = word a b then some (min (word l1 l0) 4096) else s.captureOf c := by
  refine State.serves_of_perform (u := s.setCaptures (s.captures.set none (word a b) (some (clampLevel (word l1 l0))))) rfl
    capture_ignores ?_ (by rfl) fun t ht => ht.captures_set
  simp only [capture, hch, Bool.not_true, Bool.false_eq_true, if_false]
  cases s.captureOf (word a b) <;> rfl

theorem capture_range (hch : channelOk (word a b) = false) :
    s.Serves .capture .capture [a, b, l1, l0] (.refuse .range) s.SameButPorts :=
  State.serves_unchanged rfl capture_ignores (by simp only [capture, hch, Bool.not_false, if_true])

theorem channelOk_ne_zero {n : Nat} (h : channelOk n = true) : n ≠ 0 := by
  have := (channelOk_iff n).mp h
  omega

theorem uncapture_absent (hch : channelOk (word a b) = true) (hc : s.captureOf (word a b) = none) :
    s.Serves .uncapture .uncapture [a, b] (.refuse .absent) s.SameButPorts := by
  refine State.serves_unchanged rfl uncapture_ignores ?_
  simp only [uncapture, channelOk_ne_zero hch, hch, hc, Bool.not_true, Bool.false_eq_true, if_false]

theorem uncapture_serves (hch : channelOk (word a b) = true) {v : Nat} (hc : s.captureOf (word a b) = some v) :
    s.Serves .uncapture .uncapture [a, b] (.done 1 (enc2 v)) fun t =>
      s.SameButCaptures t ∧ ∀ c, t.captureOf c = if c = word a b then none else s.captureOf c := by
  refine State.serves_of_perform (u := s.setCaptures (s.captures.set none (word a b) none)) rfl uncapture_ignores ?_ (by rfl)
    fun _ ht => ht.captures_set
  simp only [uncapture, channelOk_ne_zero hch, hch, hc, Bool.not_true, Bool.false_eq_true, if_false]

/-- Channel 0 is the value all (R180). -/
theorem uncapture_all : s.Serves .uncapture .uncapture [0, 0] (.done s.captures.length []) fun t =>
    s.SameButCaptures t ∧ ∀ c, t.captureOf c = none := by
  have zero : word 0 0 = 0 := rfl
  refine State.serves_of_perform (u := s.setCaptures []) rfl uncapture_ignores ?_ (by rfl) fun t ht => ?_
  · simp only [uncapture, zero, if_true]
  · rw [ht.eq]; exact ⟨rfl, fun _ => rfl⟩

theorem uncapture_range (h : 1024 < word a b) : s.Serves .uncapture .uncapture [a, b] (.refuse .range) s.SameButPorts := by
  have h0 : word a b ≠ 0 := by omega
  have hch : channelOk (word a b) = false := Bool.eq_false_iff.mpr fun hok => by have := (channelOk_iff _).mp hok; omega
  exact State.serves_unchanged rfl uncapture_ignores (by simp only [uncapture, h0, hch, Bool.not_false, if_true, if_false])

end

/-- Settles O50: each of the four writes its one item of the mixer, or is refused and writes none. -/
theorem mixer_requests : Obligations.Mixer_requests := by
  intro s h l l1 l0
  refine ⟨fun hch => ⟨capture_serves hch, ?_⟩, capture_range, uncapture_all, uncapture_range, ?_, fun hl => ?_, fun h0 h1 => ?_⟩
  · split
    · exact uncapture_absent hch ‹_›
    · exact uncapture_serves hch ‹_›
  · exact State.serves_of_perform rfl grand_ignores rfl (by rfl) fun t ht => by rw [ht.eq]; rfl
  · refine State.serves_of_perform (u := { s with blackout := l == 1 }) rfl blackout_ignores ?_ (by rfl) fun t ht => by rw [ht.eq]; rfl
    simp only [blackout, Byte.choice hl, if_true, encBool_choice hl]
  · have outside : (l == 0 || l == 1) = false := by
      rw [Bool.or_eq_false_iff, beq_eq_false_iff_ne, beq_eq_false_iff_ne]
      exact ⟨h0, h1⟩
    exact State.serves_unchanged rfl blackout_ignores (by simp only [blackout, outside, Bool.false_eq_true, if_false])

end Sys2Proof.Machine
end

section
/-!
The reply frame of a rack reads back as framed (O13).
-/

namespace Sys2Proof.Machine

theorem indexOk_iff (i : Nat) : indexOk i = true ↔ 1 ≤ i ∧ i ≤ 32 := by simp [indexOk]

/-! ### The bytes of a reply -/

theorem Byte.toNat_ofNat {n : Nat} (h : n < 256) : (BitVec.ofNat 8 n).toNat = n := by
  rw [BitVec.toNat_ofNat]
  exact Nat.mod_eq_of_lt h

theorem Byte.toNat_index {i : Nat} (h : indexOk i = true) : (BitVec.ofNat 8 i).toNat = i := by
  have := (indexOk_iff i).mp h
  exact Byte.toNat_ofNat (by omega)

theorem ReportKind.ofCode_code (k : ReportKind) : ReportKind.ofCode (BitVec.ofNat 8 k.code).toNat = some k := by
  cases k <;> rfl

theorem Thermal.ofCode_code (t : Thermal) : Thermal.ofCode (BitVec.ofNat 8 t.code).toNat = some t := by
  cases t <;> rfl

/-- The status byte of a reply (R142). -/
theorem statusOfCode_status (ready : Bool) : statusOfCode (if ready then 1 else 2 : Byte).toNat = some ready := by
  cases ready <;> rfl

/-- The three bytes of an acknowledgement (R142). -/
def ackBytes : Option Order → List Byte
  | none => [0, 0, 0]
  | some o => [BitVec.ofNat 8 o.kind.code, BitVec.ofNat 8 o.circuitIndex, BitVec.ofNat 8 o.spareIndex]

theorem ackOfCodes_ackBytes {ack : Option Order}
    (h : ∀ o, ack = some o → indexOk o.circuitIndex = true ∧ indexOk o.spareIndex = true) :
    ∃ kind ci si : Byte, ackBytes ack = [kind, ci, si] ∧ ackOfCodes kind.toNat ci.toNat si.toNat = some ack := by
  cases ack with
  | none => exact ⟨0, 0, 0, rfl, rfl⟩
  | some o =>
    obtain ⟨hci, hsi⟩ := h o rfl
    refine ⟨_, _, _, rfl, ?_⟩
    rw [Byte.toNat_index hci, Byte.toNat_index hsi]
    obtain ⟨kind, ci, si⟩ := o
    cases kind <;> simp [OrderKind.code, ackOfCodes, hci, hsi]

/-- The bytes of the reports, two for each (R142). -/
def reportBytes (reports : List Report) : List Byte :=
  (reports.map fun x => [BitVec.ofNat 8 x.circuitIndex, BitVec.ofNat 8 x.kind.code]).flatten

theorem length_reportBytes (reports : List Report) : (reportBytes reports).length = 2 * reports.length := by
  induction reports with
  | nil => rfl
  | cons x xs ih =>
    show (reportBytes xs).length + 2 = _
    rw [ih, List.length_cons]
    omega

theorem reportsOf_reportBytes {reports : List Report} (h : ∀ x ∈ reports, indexOk x.circuitIndex = true) :
    reportsOf (reportBytes reports) = some reports := by
  induction reports with
  | nil => rfl
  | cons x xs ih =>
    have hx := h x List.mem_cons_self
    have rest := ih fun y hy => h y (List.mem_cons_of_mem _ hy)
    show reportsOf (BitVec.ofNat 8 x.circuitIndex :: BitVec.ofNat 8 x.kind.code :: reportBytes xs) = _
    simp only [reportsOf, ReportKind.ofCode_code, rest, Byte.toNat_index hx, hx, if_true]

/-- Every report a reply carries names an index of the rack (R142). -/
theorem reportsOf_index : ∀ {bytes : List Byte} {reports : List Report}, reportsOf bytes = some reports →
    ∀ x ∈ reports, indexOk x.circuitIndex = true
  | [], reports, h => by
    cases h
    exact fun _ hx => absurd hx List.not_mem_nil
  | [_], _, h => nomatch h
  | i :: k :: rest, reports, h => by
    unfold reportsOf at h
    split at h
    · rename_i kind rs _ hrest
      split at h
      · rename_i hi
        cases h
        intro x hx
        rcases List.mem_cons.mp hx with rfl | hx
        · exact hi
        · exact reportsOf_index hrest x hx
      · cases h
    · cases h

theorem parseReply_index {bytes : List Byte} {y : ReplyFrame} (h : parseReply bytes = some y) :
    ∀ x ∈ y.reports, indexOk x.circuitIndex = true := by
  unfold parseReply at h
  split at h
  · dsimp only at h
    split at h
    · cases h
    · split at h
      · cases h
      · split at h
        · rename_i hreports
          cases h
          exact reportsOf_index hreports
        · cases h
  · cases h

/-! ### The frame -/

theorem replyFrame_eq (y : ReplyFrame) : replyFrame y = closeFrame ([3, BitVec.ofNat 8 y.address, if y.ready then 1 else 2,
    BitVec.ofNat 8 y.thermal.code] ++ ackBytes y.ack ++ BitVec.ofNat 8 y.reports.length :: reportBytes y.reports) := by
  unfold replyFrame ackBytes reportBytes
  cases y.ack <;> rfl

/-- Settles O13: the reading takes the frame apart where the framing joined it, and each field's code names the field. -/
theorem reply_frames_round_trip : Obligations.Reply_frames_round_trip := by
  intro y haddress hack hcount hindex
  obtain ⟨kind, ci, si, hbytes, hcodes⟩ := ackOfCodes_ackBytes hack
  have hn : (BitVec.ofNat 8 y.reports.length).toNat = y.reports.length := Byte.toNat_ofNat (by omega)
  have hlen : 2 * (BitVec.ofNat 8 y.reports.length).toNat = (reportBytes y.reports).length := by rw [hn, length_reportBytes]
  have count : ¬ (BitVec.ofNat 8 y.reports.length).toNat > 32 := by omega
  rw [replyFrame_eq, hbytes]
  simp only [closeFrame, List.cons_append, List.nil_append, parseReply, hlen, List.take_left, List.drop_left, count, if_false,
    ne_eq, not_true_eq_false, false_or, statusOfCode_status, Thermal.ofCode_code, hcodes, reportsOf_reportBytes hindex,
    Byte.toNat_ofNat haddress]

end Sys2Proof.Machine
end

section
/-!
The events of a link: the reply window, silent polls and WAIT replies (O54), the frame-due event with the arbiter's choice (O53), and
RACK-SET (O57).
-/

namespace Sys2Proof.Machine

section
variable {s t : State} {l : LinkId} {r : Nat} {bytes : List Byte} {y : ReplyFrame}

/-! ### One link written -/

theorem State.setLink_sameButLink (s : State) (l : LinkId) (k : Link) : s.SameButLink (s.setLink l k) l :=
  ⟨by cases l <;> rfl, fun m hm => by rw [State.link_setLink, if_neg (Ne.symm hm)]⟩

theorem State.link_setLink_self (s : State) (l : LinkId) (k : Link) : (s.setLink l k).link l = k := by
  rw [State.link_setLink, if_pos rfl]

theorem State.setLink_setLink (s : State) (l : LinkId) (k k' : Link) : (s.setLink l k).setLink l k' = s.setLink l k' := by
  cases l <;> rfl

theorem State.setLink_self (s : State) (l : LinkId) : s.setLink l (s.link l) = s := by cases l <;> rfl

/-! ### What a reply arrival does, case by case (R146, R147, R152, R153) -/

theorem exec_replyArrival_discarded (h : (s.link l).window = none) : exec (.replyArrival l bytes) s = .next s := by
  simp only [exec, execReplyArrival, h]

theorem exec_replyArrival_malformed (h : (s.link l).window = some r) (hy : parseReply bytes = none) :
    exec (.replyArrival l bytes) s = .next (s.windowSilent l) := by
  simp only [exec, execReplyArrival, h, hy]

theorem exec_replyArrival_other (h : (s.link l).window = some r) (hy : parseReply bytes = some y) (ha : y.address ≠ r) :
    exec (.replyArrival l bytes) s = .next (s.windowSilent l) := by
  simp only [exec, execReplyArrival, h, hy, if_pos ha]

theorem exec_replyArrival_wait (h : (s.link l).window = some r) (hy : parseReply bytes = some y) (ha : y.address = r)
    (hready : y.ready = false) : exec (.replyArrival l bytes) s = .next ((s.closeWindow l).setRow l r (s.row l r).waitReply) := by
  simp only [exec, execReplyArrival, h, hy, ha, hready, ne_eq, not_true_eq_false, if_false, Bool.false_eq_true]

theorem exec_replyArrival_ready (h : (s.link l).window = some r) (hy : parseReply bytes = some y) (ha : y.address = r)
    (hready : y.ready = true) :
    exec (.replyArrival l bytes) s = .next ((s.closeWindow l).takeReady l r (s.link l).carried y) := by
  simp only [exec, execReplyArrival, h, hy, ha, hready, ne_eq, not_true_eq_false, if_false, if_true]

/-! ### A window closed -/

/-- From `s` to `t` the window of a link closed, and of the rows that of one rack became `row`. -/
def State.ClosedOn (s : State) (l : LinkId) (r : Nat) (row : RackRow) (t : State) : Prop :=
  s.SameButLink t l ∧ t.link l = { s.link l with window := none, carried := none, rows := (t.link l).rows } ∧
    ∀ r', t.row l r' = if r' = r then row else s.row l r'

theorem State.closedOn_setRow (s : State) (l : LinkId) (r : Nat) (row : RackRow) :
    s.ClosedOn l r row ((s.closeWindow l).setRow l r row) := by
  have link : ((s.closeWindow l).setRow l r row) =
      s.setLink l (({ s.link l with window := none, carried := none } : Link).setRow r row) := by
    unfold State.setRow State.closeWindow
    rw [State.link_setLink_self, State.setLink_setLink]
  refine ⟨link ▸ s.setLink_sameButLink .., by rw [link, State.link_setLink_self]; rfl, fun r' => ?_⟩
  rw [State.row_setRow, State.row_closeWindow]
  simp only [true_and, eq_comm (a := r')]

theorem State.windowSilent_of_open (h : (s.link l).window = some r) :
    s.windowSilent l = (s.closeWindow l).setRow l r (s.row l r).silentPoll := by
  simp only [State.windowSilent, h]

theorem State.windowSilent_of_closed (h : (s.link l).window = none) : s.windowSilent l = s := by
  simp only [State.windowSilent, h]

theorem State.windowSilent_closedOn (h : (s.link l).window = some r) :
    s.ClosedOn l r (s.row l r).silentPoll (s.windowSilent l) := by
  rw [State.windowSilent_of_open h]
  exact s.closedOn_setRow ..

theorem RackRow.silentPoll_eq (w : RackRow) : w.silentPoll = if w.state = .lost then { w with wait := 0 }
    else if w.silent + 1 < 3 then { w with wait := 0, silent := w.silent + 1 }
    else { w with wait := 0, silent := 3, state := .lost, lostNotice := true } := by
  unfold RackRow.silentPoll
  cases w.state <;> rfl

theorem RackRow.waitReply_eq (w : RackRow) :
    w.waitReply = if w.wait + 1 < 8 then { w with wait := w.wait + 1 } else w.silentPoll := by
  have unread : ({ w with wait := 0 } : RackRow).silentPoll = w.silentPoll := by
    rw [RackRow.silentPoll_eq, RackRow.silentPoll_eq]
  rw [← unread]
  rfl

end

/-- Settles O54: a window that closes leaves one row changed, by a silent poll or by a WAIT reply. -/
theorem silent_polls_and_waits : Obligations.Silent_polls_and_waits := by
  intro s l r bytes closed w silent
  have silent_eq : w.silentPoll = silent := w.silentPoll_eq
  have silenced (hw : (s.link l).window = some r) : closed silent (s.windowSilent l) := silent_eq ▸ s.windowSilent_closedOn hw
  refine ⟨fun hp => ?_, fun hw => ⟨⟨_, rfl, silenced hw⟩, fun hy => ⟨_, exec_replyArrival_malformed hw hy, silenced hw⟩,
    fun y hy => ⟨fun ha => ⟨_, exec_replyArrival_other hw hy ha, silenced hw⟩, fun ha hready => ?_⟩⟩, fun hw => ?_⟩
  · refine ⟨s.setLink l { s.link l with window := some r, polling := none }, ?_, s.setLink_sameButLink .., s.link_setLink_self ..⟩
    simp only [exec, execPollFrameEnd, hp]
  · refine ⟨_, exec_replyArrival_wait hw hy ha hready, ?_⟩
    rw [← silent_eq, ← RackRow.waitReply_eq]
    exact s.closedOn_setRow ..
  · exact ⟨exec_replyArrival_discarded hw, congrArg Host.Outcome.next (State.windowSilent_of_closed hw)⟩

/-! ### The rack the arbiter chooses (R144) -/

section
variable {k : Link} {r : Nat}

/-- WAIT repetition: the last polled rack is in the poll order and waits. -/
theorem Link.repeats_iff : k.repeats = some r ↔
    k.lastPolled = some r ∧ r ∈ k.pollOrder ∧ 1 ≤ (k.row r).wait ∧ (k.row r).wait ≤ 7 := by
  unfold Link.repeats
  cases h : k.lastPolled with
  | none => simp
  | some q =>
    simp only [Bool.and_eq_true, List.contains_iff_mem, decide_eq_true_eq, Option.ite_none_right_eq_some, Option.some.injEq]
    constructor
    · rintro ⟨⟨⟨hmem, hlow⟩, hhigh⟩, rfl⟩
      exact ⟨rfl, hmem, hlow, hhigh⟩
    · rintro ⟨rfl, hmem, hlow, hhigh⟩
      exact ⟨⟨⟨hmem, hlow⟩, hhigh⟩, rfl⟩

/-- A rack other than the last polled that the arbiter brings forward. -/
def Link.promotes (k : Link) (r : Nat) : Bool := decide (k.lastPolled ≠ some r) && (k.row r).promoted

/-- WAIT repetition goes before promotion, and promotion before rotation. -/
theorem Link.choose_eq (k : Link) : k.choose = k.repeats.or ((k.pollOrder.find? k.promotes).or k.pollOrder.head?) := by
  unfold Link.choose
  cases k.repeats with
  | some r => rfl
  | none =>
    rw [Option.none_or]
    show (match k.pollOrder.find? k.promotes with
      | some r => some r
      | none => k.pollOrder.head?) = _
    cases k.pollOrder.find? k.promotes <;> rfl

/-- The link with this rack polled: its order is carried, it is last polled and last in the poll order (R139). -/
def Link.polls (k : Link) (r : Nat) : Link := { k with
  pollOrder := k.pollOrder.filter (fun x => x ≠ r) ++ [r]
  lastPolled := some r
  carried := (k.row r).pendingOrder.map PendingOrder.order
  polling := some r
  pollOut := pollFrame r ((k.row r).pendingOrder.map PendingOrder.order) }

theorem Link.poll_chosen (h : k.choose = some r) : k.poll = k.polls r := by
  unfold Link.poll
  rw [h]
  rfl

theorem Link.poll_empty (h : k.pollOrder = []) : k.poll = { k with polling := none, pollOut := [] } := by
  unfold Link.poll
  rw [Link.choose_none.mpr h]

/-- Whatever is polled, what is not of the poll stays. -/
theorem Link.poll_kept (k : Link) : k.poll.levelOut = k.levelOut ∧ k.poll.rows = k.rows ∧ k.poll.window = k.window := by
  unfold Link.poll
  split <;> exact ⟨rfl, rfl, rfl⟩

end

/-- The link when its level frame has gone out. -/
def State.levelled (s : State) (l : LinkId) : Link := { s.link l with levelOut := levelFrame (s.linkSlots l) }

theorem exec_frameDue {s : State} {l : LinkId} (h : (s.link l).frameTimer = .running) :
    exec (.frameDue l) s = .next (s.framed l) := by
  show execFrameDue l s = _
  rw [execFrameDue_eq, if_pos h]

theorem State.framed_of_closed {s : State} {l : LinkId} (h : (s.link l).window = none) :
    s.framed l = s.setLink l (s.levelled l).poll := by
  unfold State.framed State.levelled
  rw [State.windowSilent_of_closed h]

/-- Settles O53: a window still open is first counted silent; then the arbiter's three cases are tried in their order. -/
theorem frame_due_sends_and_polls : Obligations.Frame_due_sends_and_polls := by
  intro s l timer
  refine ⟨fun r hw => ?_, fun hw => ⟨s.setLink l (s.levelled l).poll, ?_, s.setLink_sameButLink .., ?_⟩⟩
  · obtain ⟨-, hlink, -⟩ := State.windowSilent_closedOn hw
    have timer' : ((s.windowSilent l).link l).frameTimer = .running := by rw [hlink]; exact timer
    have closed : ((s.windowSilent l).link l).window = none := by rw [hlink]
    rw [exec_frameDue timer, exec_frameDue timer', State.framed, State.framed, State.windowSilent_of_closed closed]
  · rw [exec_frameDue timer, State.framed_of_closed hw]
  · obtain ⟨hlevel, hrows, hwindow⟩ := (s.levelled l).poll_kept
    rw [State.link_setLink_self]
    refine ⟨hlevel, hrows, hwindow.trans hw, ?_⟩
    intro order waits promoted polls
    have repeats {r : Nat} : (s.levelled l).repeats = some r ↔ waits r := Link.repeats_iff
    have unrepeated (h : ∀ r, ¬ waits r) : (s.levelled l).repeats = none :=
      Option.eq_none_iff_forall_ne_some.mpr fun r hr => h r (repeats.mp hr)
    have chosen {r : Nat} (h : (s.levelled l).choose = some r) : polls r := by
      show (s.levelled l).poll.lastPolled = _ ∧ _
      rw [Link.poll_chosen h]
      exact ⟨rfl, rfl, rfl, rfl, rfl⟩
    refine ⟨fun h => ?_, fun r h => chosen ?_, fun hn r h => chosen ?_, fun hn h r hhead => chosen ?_⟩
    · rw [Link.poll_empty (k := s.levelled l) h]
      exact ⟨rfl, h, rfl⟩
    · rw [Link.choose_eq, repeats.mpr h, Option.some_or]
    · have found : (s.levelled l).pollOrder.find? (s.levelled l).promotes = some r := h
      rw [Link.choose_eq, unrepeated hn, found, Option.none_or, Option.some_or]
    · have none_found : (s.levelled l).pollOrder.find? (s.levelled l).promotes = none := h
      rw [Link.choose_eq, unrepeated hn, none_found, Option.none_or, Option.none_or]
      exact hhead

/-! ### RACK-SET (R154) -/

theorem State.link_withPorts (s : State) (q : Ports) (p : Option Port) (l : LinkId) : (s.withPorts q p).link l = s.link l := rfl
theorem State.row_withPorts (s : State) (q : Ports) (p : Option Port) (l : LinkId) (r : Nat) :
    (s.withPorts q p).row l r = s.row l r := rfl
theorem State.owedOrders_withPorts (s : State) (q : Ports) (p : Option Port) (l : LinkId) (r : Nat) :
    (s.withPorts q p).owedOrders l r = s.owedOrders l r := rfl
theorem State.setLink_withPorts (s : State) (q : Ports) (p : Option Port) (l : LinkId) (k : Link) :
    (s.withPorts q p).setLink l k = (s.setLink l k).withPorts q p := by cases l <;> rfl

theorem rackSet_ignores : IgnoresPorts rackSet := by
  intro ps s q p
  unfold rackSet
  split
  · split
    · rfl
    · simp only [State.rig_withPorts, State.link_withPorts, State.row_withPorts, State.owedOrders_withPorts, State.setLink_withPorts]
      split
      · rfl
      · split
        · rfl
        · split <;> rfl
  · rfl

/-- A row in answer data is read from the row itself and the rack's place on the link. -/
theorem rackData_congr {k k' : Link} {r : Nat} (hrow : k'.row r = k.row r) (horder : k'.pollOrder = k.pollOrder)
    (hlast : k'.lastPolled = k.lastPolled) : rackData k' r = rackData k r := by
  unfold rackData
  rw [hrow, horder, hlast]

section
variable {s : State} {l : LinkId} {ln rk v : Byte} {k k' : Link}

/-- From `s` to `t` a link became `k` but for its rows, of which that of one rack became `row`; the ports apart nothing else differs. -/
def State.LinkSet (s : State) (l : LinkId) (r : Nat) (k : Link) (row : RackRow) (t : State) : Prop :=
  t = { s with links := t.links, ports := t.ports, servedLast := t.servedLast } ∧ (∀ m, m ≠ l → t.link m = s.link m) ∧
    t.link l = { k with rows := (t.link l).rows } ∧ ∀ r', t.row l r' = if r' = r then row else s.row l r'

theorem State.linkSet_of_setRow {t : State} {r : Nat} {row : RackRow} (hk : k.rows = ((s.link l).setRow r row).rows)
    (ht : (s.setLink l k).SameButPorts t) : s.LinkSet l r k row t := by
  obtain ⟨frame, others⟩ := s.setLink_sameButLink l k
  refine ⟨?_, fun m hm => ?_, ?_, fun r' => ?_⟩
  · rw [ht, frame]
  · rw [ht.eq, State.link_withPorts, others m hm]
  · rw [ht.eq, State.link_withPorts, State.link_setLink_self]
  · rw [ht.eq, State.row_withPorts, State.row, State.link_setLink_self, Link.row, hk]
    simp only [eq_comm (a := r')]
    exact (s.link l).row_setRow r r' row

theorem rackSet_outside (h : ln = 0 ∨ 4 < ln.toNat ∨ rackOk rk.toNat = false ∨ 1 < v.toNat) :
    rackSet [ln, rk, v] s = (s, .refuse .range) := by
  have outside : linkOfNumber ln.toNat = none ∨ (rackOk rk.toNat && (v == 0 || v == 1)) = false := by
    rcases h with h | h | h | h
    · exact .inl (linkOfNumber_none (.inl ((Byte.toNat_eq_zero ln).mpr h)))
    · exact .inl (linkOfNumber_none (.inr h))
    · exact .inr (by rw [h, Bool.false_and])
    · exact .inr (by rw [(Byte.not_choice v).mpr h, Bool.and_false])
  cases hl : linkOfNumber ln.toNat with
  | none => simp only [rackSet, hl]
  | some l =>
    have inside := outside.resolve_left (by rw [hl]; exact Option.some_ne_none l)
    simp only [rackSet, hl, inside, Bool.not_false, if_true]

variable (hl : linkOfNumber ln.toNat = some l) (hr : rackOk rk.toNat = true) (hu : s.rig.locked = false)
include hl hr hu

theorem rackSet_owing (hv : v = 0) (howed : s.owedOrders l rk.toNat ≠ []) : rackSet [ln, rk, v] s = (s, .refuse .conflict) := by
  subst hv
  simp [rackSet, hl, hr, hu, howed]

theorem rackSet_same (hv : v = 1 ∧ (s.row l rk.toNat).present = true ∨
      v = 0 ∧ (s.row l rk.toNat).present = false ∧ s.owedOrders l rk.toNat = []) :
    rackSet [ln, rk, v] s = (s, .done 0 (rackData (s.link l) rk.toNat)) := by
  rcases hv with ⟨rfl, hp⟩ | ⟨rfl, hp, howed⟩
  · simp [rackSet, hl, hr, hu, hp, State.setLink_self]
  · simp [rackSet, hl, hr, hu, hp, howed, State.setLink_self]

theorem rackSet_in (hv : v = 1) (hp : (s.row l rk.toNat).present = false) : rackSet [ln, rk, v] s =
    (s.setLink l ((s.link l).addRack rk.toNat), .done 0 (rackData ((s.link l).addRack rk.toNat) rk.toNat)) := by
  subst hv
  simp [rackSet, hl, hr, hu, hp]

theorem rackSet_out (hv : v = 0) (hp : (s.row l rk.toNat).present = true) (howed : s.owedOrders l rk.toNat = []) :
    rackSet [ln, rk, v] s =
      (s.setLink l ((s.link l).dropRack rk.toNat), .done 0 (rackData ((s.link l).dropRack rk.toNat) rk.toNat)) := by
  subst hv
  simp [rackSet, hl, hr, hu, hp, howed]

end

section
variable {s : State} {l : LinkId} {r : Nat} {ps : List Byte}

/-- A RACK-SET that writes the link: the answer reads the rack's new row. -/
theorem rackSet_writes {k k' : Link} {row : RackRow} (hps : rackSet ps s = (s.setLink l k', .done 0 (rackData k' r)))
    (hk : k' = { k with rows := k'.rows }) (hrows : k'.rows = ((s.link l).setRow r row).rows) :
    s.Serves .rackSet .rackSet ps (.done 0 (rackData { k with rows := [(r, row)] } r)) (s.LinkSet l r k row) := by
  have hrow : ({ k with rows := [(r, row)] } : Link).row r = k'.row r := by
    have listed : k'.row r = row := by rw [Link.row, hrows]; exact ((s.link l).row_setRow r r row).trans (if_pos rfl)
    rw [listed]
    exact if_pos rfl
  have data : rackData k' r = rackData { k with rows := [(r, row)] } r :=
    (rackData_congr hrow (by rw [hk]) (by rw [hk])).symm
  refine State.serves_of_perform rfl rackSet_ignores (data ▸ hps) (by cases l <;> rfl) fun t ht => ?_
  obtain ⟨frame, others, link, row⟩ := State.linkSet_of_setRow hrows ht
  exact ⟨frame, others, by rw [link, hk], row⟩

end

/-- Settles O57: the checks in their order, and a rack made present or not present. -/
theorem rack_set_configures : Obligations.Rack_set_configures := by
  intro s ln rk v
  refine ⟨fun h => State.serves_unchanged rfl rackSet_ignores (rackSet_outside h), fun l hl hr hu => ?_⟩
  intro r fresh sets
  refine ⟨fun hv hp => ?_, fun hv hp howed => ?_, fun hv howed => ?_, fun h => ?_⟩
  · exact rackSet_writes (rackSet_in hl hr hu hv hp) rfl rfl
  · exact rackSet_writes (rackSet_out hl hr hu hv hp howed) rfl rfl
  · exact State.serves_unchanged rfl rackSet_ignores (rackSet_owing hl hr hu hv howed)
  · exact State.serves_unchanged rfl rackSet_ignores (rackSet_same hl hr hu h)

end Sys2Proof.Machine
end

section
/-!
What a READY reply writes: the circuits, and of the links one rack's row. The stages of a reply in which its row is made ready and its
news recorded last, so that what comes between is a matter of circuits and orders alone (R147 to R151).
-/

namespace Sys2Proof

variable {α : Type}

theorem Tbl.erase_insert_self (t : Tbl α) (k : Nat) (v : α) : (t.insert k v).erase k = t.erase k := by
  induction t with
  | nil => simp [Tbl.insert, Tbl.erase]
  | cons e t ih =>
    obtain ⟨n, w⟩ := e
    simp only [Tbl.erase] at ih ⊢
    by_cases hk : k < n
    · simp [Tbl.insert, hk]
    · simp only [Tbl.insert, hk, if_false, List.filter_cons, ih]

theorem Tbl.erase_erase_self (t : Tbl α) (k : Nat) : (t.erase k).erase k = t.erase k := by
  simp only [Tbl.erase, List.filter_filter, Bool.and_self]

/-- A write hides an earlier one at its number. -/
theorem Tbl.set_set [DecidableEq α] (d : α) (t : Tbl α) (k : Nat) (v w : α) : (t.set d k v).set d k w = t.set d k w := by
  have erased : (t.set d k v).erase k = t.erase k := by
    unfold Tbl.set
    split
    · exact Tbl.erase_erase_self ..
    · rw [Tbl.erase_insert_self, Tbl.erase_erase_self]
  unfold Tbl.set at erased ⊢
  rw [erased]

end Sys2Proof

namespace Sys2Proof.Machine

section
variable {s t u : State} {l : LinkId} {r : Nat}

/-! ### One rack written -/

/-- From `s` to `t` banks and circuits may differ, and of the links the row of one rack. -/
structure State.RackOnly (s : State) (l : LinkId) (r : Nat) (t : State) : Prop where
  frame : s.RigOnly t
  others : ∀ m, m ≠ l → t.link m = s.link m
  link : t.link l = { s.link l with rows := (t.link l).rows }
  rows : ∀ r', r' ≠ r → t.row l r' = s.row l r'

namespace State.RackOnly

theorem refl (s : State) : s.RackOnly l r s := ⟨.refl s, fun _ _ => rfl, rfl, fun _ _ => rfl⟩

theorem trans (h : s.RackOnly l r t) (h' : t.RackOnly l r u) : s.RackOnly l r u where
  frame := h.frame.trans h'.frame
  others m hm := (h'.others m hm).trans (h.others m hm)
  link := by rw [h'.link, h.link]
  rows r' hr' := (h'.rows r' hr').trans (h.rows r' hr')

theorem of_links (hf : s.RigOnly t) (hl : t.links = s.links) : s.RackOnly l r t := by
  have link (m : LinkId) : t.link m = s.link m := by cases m <;> simp only [State.link, hl]
  exact ⟨hf, fun m _ => link m, by rw [link], fun r' _ => by rw [State.row, link]; rfl⟩

theorem setCircuit (s : State) (n : Nat) (v : Circuit) : s.RackOnly l r (s.setCircuit n v) := of_links (s.setCircuit_only ..) rfl

theorem setRow (s : State) (l : LinkId) (r : Nat) (v : RackRow) : s.RackOnly l r (s.setRow l r v) where
  frame := s.setRow_only ..
  others m hm := (s.setLink_sameButLink ..).2 m hm
  link := by rw [State.setRow, State.link_setLink_self]; rfl
  rows r' hr' := by rw [State.row_setRow, if_neg fun h => hr' h.2.symm]

theorem setPending (s : State) (l : LinkId) (r : Nat) (w : Option PendingOrder) : s.RackOnly l r (s.setPending l r w) := setRow ..

theorem placeOrder (s : State) (l : LinkId) (r : Nat) (o : Order) : s.RackOnly l r (s.placeOrder l r o) := by
  rcases s.placeOrder_cases l r o with ⟨-, e⟩ | ⟨-, e⟩ <;> rw [e]
  · exact setPending ..
  · exact refl s

theorem placeNext (s : State) (l : LinkId) (r : Nat) : s.RackOnly l r (s.placeNext l r) := by
  rcases s.placeNext_cases l r with ⟨_, _, -, -, e⟩ | ⟨-, e⟩ <;> rw [e]
  · exact setPending ..
  · exact refl s

theorem ackTransfer (s : State) (failed spare : Nat) : s.RackOnly l r (s.ackTransfer failed spare) :=
  of_links (s.ackTransfer_only ..) (by unfold State.ackTransfer; dsimp only; split <;> rfl)

theorem ackUndo (s : State) (failed spare : Nat) : s.RackOnly l r (s.ackUndo failed spare) := of_links (s.ackUndo_only ..) rfl

theorem revertPairing (s : State) (k : OrderKind) (failed spare : Nat) : s.RackOnly l r (s.revertPairing k failed spare) :=
  of_links (s.revertPairing_only ..) (by unfold State.revertPairing; split <;> rfl)

theorem acknowledge (s : State) (l : LinkId) (r : Nat) (o : Order) : s.RackOnly l r (s.acknowledge l r o) := by
  refine (setPending s l r none).trans (.trans ?_ (placeNext _ l r))
  cases o.kind with
  | transfer => exact ackTransfer ..
  | undo => exact ackUndo ..

theorem abandon (s : State) (l : LinkId) (r : Nat) (o : Order) : s.RackOnly l r (s.abandon l r o) :=
  (setRow ..).trans ((revertPairing ..).trans (placeNext ..))

end State.RackOnly

/-! ### The row made ready (R147) -/

/-- A rack row after the first two stages of a READY reply (R147). -/
def RackRow.ready (w : RackRow) (thermal : Thermal) : RackRow := { w.readyReply with thermal := thermal }

/-- The window of a link closes and the row of a rack becomes ready (R146, R147). -/
def State.rackReady (s : State) (l : LinkId) (r : Nat) (thermal : Thermal) : State :=
  (s.closeWindow l).setRow l r ((s.row l r).ready thermal)

theorem State.rackReady_eq (s : State) (l : LinkId) (r : Nat) (thermal : Thermal) : s.rackReady l r thermal =
    s.setLink l (({ s.link l with window := none, carried := none } : Link).setRow r ((s.row l r).ready thermal)) := by
  unfold State.rackReady State.setRow State.closeWindow
  rw [State.link_setLink_self, State.setLink_setLink]

variable {thermal : Thermal}

theorem State.circuit_rackReady (n : Nat) : (s.rackReady l r thermal).circuit n = s.circuit n := by
  rw [State.rackReady_eq, State.circuit_setLink]

theorem State.circuits_rackReady : (s.rackReady l r thermal).circuits = s.circuits := by
  rw [State.rackReady_eq]; cases l <;> rfl

theorem State.rig_rackReady : (s.rackReady l r thermal).rig = s.rig := by
  rw [State.rackReady_eq]; cases l <;> rfl

theorem State.row_rackReady : (s.rackReady l r thermal).row l r = (s.row l r).ready thermal := by
  rw [State.rackReady, State.row_setRow, if_pos ⟨rfl, rfl⟩]

theorem State.pending_rackReady : ((s.rackReady l r thermal).row l r).pendingOrder = (s.row l r).pendingOrder := by
  rw [State.row_rackReady]; rfl

/-- Making a row ready and changing it otherwise can be done in either order. -/
theorem State.setRow_rackReady {f : RackRow → RackRow} (hf : ∀ w, f (w.ready thermal) = (f w).ready thermal) :
    (s.rackReady l r thermal).setRow l r (f ((s.rackReady l r thermal).row l r)) = (s.setRow l r (f (s.row l r))).rackReady l r thermal := by
  have row : (s.setRow l r (f (s.row l r))).row l r = f (s.row l r) := by rw [State.row_setRow, if_pos ⟨rfl, rfl⟩]
  rw [State.row_rackReady, State.rackReady_eq, State.rackReady_eq, row, hf]
  simp only [State.setRow, State.link_setLink_self, State.setLink_setLink, Link.setRow, Tbl.set_set]

theorem State.setPending_rackReady (w : Option PendingOrder) :
    (s.rackReady l r thermal).setPending l r w = (s.setPending l r w).rackReady l r thermal :=
  State.setRow_rackReady (f := fun row => { row with pendingOrder := w }) fun _ => rfl

theorem State.setCircuit_rackReady (n : Nat) (v : Circuit) :
    (s.rackReady l r thermal).setCircuit n v = (s.setCircuit n v).rackReady l r thermal := by
  rw [State.rackReady_eq, State.rackReady_eq]; cases l <;> rfl

theorem State.rewriteRecords_rackReady (f : PatchRec → PatchRec) :
    (s.rackReady l r thermal).rewriteRecords f = (s.rewriteRecords f).rackReady l r thermal := by
  rw [State.rackReady_eq, State.rackReady_eq]; cases l <;> rfl

theorem State.placeOrder_rackReady (o : Order) :
    (s.rackReady l r thermal).placeOrder l r o = (s.placeOrder l r o).rackReady l r thermal := by
  unfold State.placeOrder
  rw [State.pending_rackReady, State.setPending_rackReady]
  split <;> rfl

theorem State.placeNext_rackReady : (s.rackReady l r thermal).placeNext l r = (s.placeNext l r).rackReady l r thermal := by
  unfold State.placeNext
  rw [State.owedOrders_congr fun n => State.circuit_rackReady n]
  split
  · rfl
  · exact State.placeOrder_rackReady _

theorem State.ackTransfer_rackReady (failed spare : Nat) :
    (s.rackReady l r thermal).ackTransfer failed spare = (s.ackTransfer failed spare).rackReady l r thermal := by
  unfold State.ackTransfer
  simp only [State.circuit_rackReady, State.setCircuit_rackReady, ← State.rewriteRecords_rackReady]
  split <;> rfl

theorem State.ackUndo_rackReady (failed spare : Nat) :
    (s.rackReady l r thermal).ackUndo failed spare = (s.ackUndo failed spare).rackReady l r thermal := by
  unfold State.ackUndo
  simp only [State.circuit_rackReady, State.setCircuit_rackReady, State.rewriteRecords_rackReady]

theorem State.revertPairing_rackReady (k : OrderKind) (failed spare : Nat) :
    (s.rackReady l r thermal).revertPairing k failed spare = (s.revertPairing k failed spare).rackReady l r thermal := by
  unfold State.revertPairing
  simp only [State.circuit_rackReady, State.setCircuit_rackReady]
  split <;> rfl

theorem State.acknowledge_rackReady (o : Order) :
    (s.rackReady l r thermal).acknowledge l r o = (s.acknowledge l r o).rackReady l r thermal := by
  unfold State.acknowledge
  cases o.kind with
  | transfer => simp only [State.setPending_rackReady, State.ackTransfer_rackReady, State.placeNext_rackReady]
  | undo => simp only [State.setPending_rackReady, State.ackUndo_rackReady, State.placeNext_rackReady]

theorem State.abandon_rackReady (o : Order) : (s.rackReady l r thermal).abandon l r o = (s.abandon l r o).rackReady l r thermal := by
  have cleared := State.setRow_rackReady (s := s) (l := l) (r := r) (thermal := thermal)
    (f := fun row => { row with pendingOrder := none, abandonedNotice := true }) fun _ => rfl
  unfold State.abandon
  dsimp only at cleared ⊢
  rw [cleared, State.revertPairing_rackReady, State.placeNext_rackReady]

/-- The acknowledgement stage decides the same of a row that is not yet ready. -/
theorem State.takeAck_rackReady (c a : Option Order) : (s.rackReady l r thermal).takeAck l r c a =
    ((s.takeAck l r c a).1.rackReady l r thermal, (s.takeAck l r c a).2) := by
  unfold State.takeAck
  simp only [State.pending_rackReady, State.circuit_rackReady, State.acknowledge_rackReady, State.abandon_rackReady,
    State.setPending_rackReady]
  split
  · rfl
  · split
    · split
      · rfl
      · split <;> rfl
    · rfl

/-! ### A failure -/

/-- A circuit whose health has just reached FAILED (R161). -/
def Circuit.failing (c : Circuit) : Circuit := { c with role := .failed, health := .failed }

/-- A circuit with its DIMMER-FAIL new mark set (R162). -/
def Circuit.marked (c : Circuit) : Circuit := { c with dimmerFail := { c.dimmerFail with isNew := true } }

/-- All that a failure can do: it is all with auto-transfer off; else a spare is paired, or none qualifies and the mark is set. -/
theorem State.confirmFailure_cases (s : State) (n : Nat) :
    (s.rig.autoTransfer = false ∧ s.confirmFailure n = s.setCircuit n (s.circuit n).failing) ∨
    (s.rig.autoTransfer = true ∧ ∃ m, (s.setCircuit n (s.circuit n).failing).candidate (linkOf n) (rackOf n) = some m ∧
      s.rig.spareReserve < (s.setCircuit n (s.circuit n).failing).eligibleSpares ∧
      s.confirmFailure n = (s.setCircuit n (s.circuit n).failing).pairUp n m) ∨
    (s.rig.autoTransfer = true ∧ ((s.setCircuit n (s.circuit n).failing).candidate (linkOf n) (rackOf n) = none ∨
      ¬ s.rig.spareReserve < (s.setCircuit n (s.circuit n).failing).eligibleSpares) ∧
      s.confirmFailure n = (s.setCircuit n (s.circuit n).failing).setCircuit n (s.circuit n).failing.marked) := by
  have unfolded : s.confirmFailure n = if s.rig.autoTransfer then (s.setCircuit n (s.circuit n).failing).seekSpare n
      else s.setCircuit n (s.circuit n).failing := rfl
  have self : (s.setCircuit n (s.circuit n).failing).circuit n = (s.circuit n).failing := by
    rw [State.circuit_setCircuit, if_pos rfl]
  cases hauto : s.rig.autoTransfer with
  | false => exact .inl ⟨rfl, by rw [unfolded, hauto]; rfl⟩
  | true =>
    refine .inr ?_
    rw [unfolded, hauto, if_pos rfl, State.seekSpare, self]
    cases hm : (s.setCircuit n (s.circuit n).failing).candidate (linkOf n) (rackOf n) with
    | none => exact .inr ⟨rfl, .inl rfl, rfl⟩
    | some m =>
      by_cases hcount : s.rig.spareReserve < (s.setCircuit n (s.circuit n).failing).eligibleSpares
      · exact .inl ⟨rfl, m, rfl, hcount, if_pos hcount⟩
      · exact .inr ⟨rfl, .inr hcount, if_neg hcount⟩

theorem State.candidate_rackReady (l' : LinkId) (r' : Nat) : (s.rackReady l r thermal).candidate l' r' = s.candidate l' r' := by
  unfold State.candidate
  simp only [State.circuit_rackReady]

theorem State.pairUp_rackReady {n : Nat} (hl : linkOf n = l) (hr : rackOf n = r) (m : Nat) :
    (s.rackReady l r thermal).pairUp n m = (s.pairUp n m).rackReady l r thermal := by
  unfold State.pairUp
  simp only [State.circuit_rackReady, State.setCircuit_rackReady, hl, hr, State.placeOrder_rackReady]

theorem State.confirmFailure_rackReady {n : Nat} (hl : linkOf n = l) (hr : rackOf n = r) :
    (s.rackReady l r thermal).confirmFailure n = (s.confirmFailure n).rackReady l r thermal := by
  unfold State.confirmFailure State.seekSpare State.eligibleSpares
  simp only [State.circuit_rackReady, State.setCircuit_rackReady, State.rig_rackReady, State.circuits_rackReady,
    State.candidate_rackReady, State.pairUp_rackReady hl hr]
  split
  · split
    · split <;> rfl
    · rfl
  · rfl

/-! ### The stages of a reply -/

theorem takeReport_rackReady (x : State × Bool) (p : Report) : takeReport l r (x.1.rackReady l r thermal, x.2) p =
    ((takeReport l r x p).1.rackReady l r thermal, (takeReport l r x p).2) := by
  simp only [takeReport, State.circuit_rackReady, State.setCircuit_rackReady]

theorem takeHealth_rackReady (hr : rackOk r = true) (reports : List Report) (x : State × Bool) {i : Nat} (hi : 1 ≤ i ∧ i ≤ 32) :
    takeHealth l r reports (x.1.rackReady l r thermal, x.2) i =
      ((takeHealth l r reports x i).1.rackReady l r thermal, (takeHealth l r reports x i).2) := by
  obtain ⟨-, hlink, hrack, -⟩ := circuitAt_range l hr hi
  unfold takeHealth
  simp only [State.circuit_rackReady, State.setCircuit_rackReady, State.confirmFailure_rackReady hlink hrack]
  split
  · split <;> rfl
  · rfl

/-- The flags stage of a reply (R150). -/
def State.flagged (s : State) (l : LinkId) (r : Nat) (reports : List Report) : State × Bool :=
  reports.foldl (takeReport l r) (s, false)

/-- The health stage of a reply, up to a circuit index (R151). -/
def State.judged (s : State) (l : LinkId) (r : Nat) (reports : List Report) (i : Nat) : State × Bool :=
  (List.range' 1 i).foldl (takeHealth l r reports) (s, false)

@[simp] theorem State.judged_zero (reports : List Report) : s.judged l r reports 0 = (s, false) := rfl

theorem State.judged_succ (reports : List Report) (i : Nat) :
    s.judged l r reports (i + 1) = takeHealth l r reports (s.judged l r reports i) (i + 1) := by
  rw [State.judged, List.range'_concat, List.foldl_append, Nat.one_mul, Nat.add_comm 1 i]
  rfl

theorem State.flagged_rackReady (reports : List Report) : (s.rackReady l r thermal).flagged l r reports =
    ((s.flagged l r reports).1.rackReady l r thermal, (s.flagged l r reports).2) :=
  List.foldl_hom (init := (s, false)) (fun x : State × Bool => (x.1.rackReady l r thermal, x.2)) takeReport_rackReady

theorem State.judged_rackReady (hr : rackOk r = true) (reports : List Report) {i : Nat} (hi : i ≤ 32) :
    (s.rackReady l r thermal).judged l r reports i =
      ((s.judged l r reports i).1.rackReady l r thermal, (s.judged l r reports i).2) := by
  induction i with
  | zero => rfl
  | succ i ih => rw [State.judged_succ, State.judged_succ, ih (by omega), takeHealth_rackReady hr reports _ (by omega)]

/-- The state at the end of a READY reply: the window closed, the row ready and its news recorded (R147, R148). -/
def State.concluded (s : State) (l : LinkId) (r : Nat) (thermal : Thermal) (news : Bool) : State :=
  (s.closeWindow l).setRow l r { (s.row l r).ready thermal with news := news }

theorem State.concluded_eq (news : Bool) : s.concluded l r thermal news =
    (s.rackReady l r thermal).setRow l r { (s.rackReady l r thermal).row l r with news := news } := by
  rw [State.row_rackReady, State.rackReady, State.concluded]
  simp only [State.setRow, State.link_setLink_self, State.setLink_setLink, Link.setRow, Tbl.set_set]

/-- The stages of a READY reply, by name. -/
theorem State.takeReady_stages (s : State) (l : LinkId) (r : Nat) (c : Option Order) (y : ReplyFrame) : s.takeReady l r c y =
    let acked := (s.setRow l r ((s.row l r).ready y.thermal)).takeAck l r c y.ack
    let flagged := acked.1.flagged l r y.reports
    let judged := flagged.1.judged l r y.reports 32
    judged.1.setRow l r { judged.1.row l r with
      news := decide ((s.row l r).thermal ≠ y.thermal) || acked.2 || flagged.2 || judged.2 } := by
  unfold State.takeReady State.flagged State.judged RackRow.ready
  generalize List.range' 1 32 = indices
  rfl

/-- The state after a READY reply to a poll that carried `c`, its row made ready last: the acknowledgement, the flags, the healths, and
the news of all of them. -/
def State.replied (s : State) (l : LinkId) (r : Nat) (c : Option Order) (y : ReplyFrame) : State :=
  let acked := s.takeAck l r c y.ack
  let flagged := acked.1.flagged l r y.reports
  let judged := flagged.1.judged l r y.reports 32
  judged.1.concluded l r y.thermal (decide ((s.row l r).thermal ≠ y.thermal) || acked.2 || flagged.2 || judged.2)

theorem State.takeReady_eq (s : State) (l : LinkId) {r : Nat} (hr : rackOk r = true) (c : Option Order) (y : ReplyFrame) :
    (s.closeWindow l).takeReady l r c y = s.replied l r c y := by
  have ready : (s.closeWindow l).setRow l r ((s.row l r).ready y.thermal) = s.rackReady l r y.thermal := rfl
  rw [State.takeReady_stages, State.row_closeWindow, ready, State.takeAck_rackReady]
  dsimp only
  rw [State.flagged_rackReady]
  dsimp only
  rw [State.judged_rackReady hr y.reports (le_refl 32), State.replied, State.concluded_eq]

end

end Sys2Proof.Machine
end

section
/-!
A READY reply to a poll that carried no order: flags, healths and the row (O55).
-/

namespace Sys2Proof.Machine

section
variable {s t u : State} {l : LinkId} {r : Nat}

theorem circuitAt_inj {i j : Nat} : circuitAt l r i = circuitAt l r j ↔ i = j := by
  unfold circuitAt
  omega

/-! ### Flags (R150) -/

/-- A flag of the circuit at an index after the reports of a reply: set, with its new mark, if it was clear and a report that is taken
names it. -/
def Circuit.flagAfter (c : Circuit) (reports : List Report) (i : Nat) (k : ReportKind) : FaultFlag :=
  if ⟨i, k⟩ ∈ reports ∧ c.takes k = true ∧ (c.flag k).isSet = false then ⟨true, true⟩ else c.flag k

/-- The circuit at an index after the reports of a reply. -/
def Circuit.withReports (c : Circuit) (reports : List Report) (i : Nat) : Circuit := { c with
  openLoad := c.flagAfter reports i .openLoad
  short := c.flagAfter reports i .short
  dimmerFail := c.flagAfter reports i .dimmerFail }

theorem Circuit.flag_withReports (c : Circuit) (reports : List Report) (i : Nat) (k : ReportKind) :
    (c.withReports reports i).flag k = c.flagAfter reports i k := by cases k <;> rfl

theorem Circuit.flagAfter_set {c : Circuit} {k : ReportKind} (clear : (c.flag k).isSet = false) (reports : List Report) (i : Nat) :
    (c.flagAfter reports i k).isSet = true ↔ ⟨i, k⟩ ∈ reports ∧ c.takes k = true := by
  unfold Circuit.flagAfter
  split
  · rename_i h; exact ⟨fun _ => ⟨h.1, h.2.1⟩, fun _ => rfl⟩
  · rename_i h
    rw [clear]
    exact ⟨fun e => absurd e Bool.false_ne_true, fun ⟨hm, ht⟩ => absurd ⟨hm, ht, clear⟩ h⟩

theorem Circuit.withReports_nil (c : Circuit) (i : Nat) : c.withReports [] i = c := by
  have kept (k : ReportKind) : c.flagAfter [] i k = c.flag k := if_neg fun h => List.not_mem_nil h.1
  unfold Circuit.withReports
  rw [kept, kept, kept]
  rfl

theorem Circuit.takes_report (c : Circuit) (k k' : ReportKind) : (c.report k).takes k' = c.takes k' := by
  unfold Circuit.report
  split
  · cases k <;> rfl
  · rfl

theorem Circuit.flag_report (c : Circuit) (k k' : ReportKind) : (c.report k).flag k' =
    if k = k' ∧ c.takes k' = true ∧ (c.flag k').isSet = false then ⟨true, true⟩ else c.flag k' := by
  have written (f : FaultFlag) : (c.setFlag k f).flag k' = if k = k' then f else c.flag k' := by cases k <;> cases k' <;> rfl
  unfold Circuit.report FaultFlag.report
  by_cases hk : k = k'
  · subst hk
    cases c.takes k <;> cases (c.flag k).isSet <;> simp [written]
  · split <;> simp [written, hk]

theorem Circuit.flagAfter_cons (c : Circuit) (reports : List Report) (p : Report) (k : ReportKind) :
    (c.report p.kind).flagAfter reports p.circuitIndex k = c.flagAfter (p :: reports) p.circuitIndex k := by
  have named : (⟨p.circuitIndex, k⟩ : Report) = p ↔ p.kind = k := by
    obtain ⟨i, k'⟩ := p
    simp [eq_comm]
  unfold Circuit.flagAfter
  simp only [Circuit.takes_report, Circuit.flag_report, List.mem_cons, named]
  by_cases hk : p.kind = k
  · by_cases taken : c.takes k = true ∧ (c.flag k).isSet = false
    · simp [hk, taken]
    · simp only [taken, and_false, if_false]
  · simp only [hk, false_and, if_false, false_or]

theorem Circuit.withReports_cons (c : Circuit) (reports : List Report) (p : Report) :
    (c.report p.kind).withReports reports p.circuitIndex = c.withReports (p :: reports) p.circuitIndex := by
  have rest : c.report p.kind = { c with
      openLoad := (c.report p.kind).openLoad, short := (c.report p.kind).short, dimmerFail := (c.report p.kind).dimmerFail } := by
    unfold Circuit.report
    split
    · cases p.kind <;> rfl
    · rfl
  unfold Circuit.withReports
  rw [c.flagAfter_cons, c.flagAfter_cons, c.flagAfter_cons, rest]

theorem Circuit.withReports_other (c : Circuit) (reports : List Report) {p : Report} {i : Nat} (h : p.circuitIndex ≠ i) :
    c.withReports (p :: reports) i = c.withReports reports i := by
  have named (k : ReportKind) : (⟨i, k⟩ : Report) ≠ p := fun e => h (congrArg Report.circuitIndex e).symm
  simp only [Circuit.withReports, Circuit.flagAfter, List.mem_cons, named, false_or]

theorem circuit_takeReport (x : State × Bool) (p : Report) (i : Nat) : (takeReport l r x p).1.circuit (circuitAt l r i) =
    if p.circuitIndex = i then (x.1.circuit (circuitAt l r i)).report p.kind else x.1.circuit (circuitAt l r i) := by
  simp only [takeReport, State.circuit_setCircuit, circuitAt_inj]
  split
  · rename_i e; rw [e]
  · rfl

theorem circuit_foldReports (reports : List Report) (x : State × Bool) (i : Nat) :
    (reports.foldl (takeReport l r) x).1.circuit (circuitAt l r i) = (x.1.circuit (circuitAt l r i)).withReports reports i := by
  induction reports generalizing x with
  | nil => exact (Circuit.withReports_nil _ i).symm
  | cons p ps ih =>
    rw [List.foldl_cons, ih, circuit_takeReport]
    split
    · rename_i e; rw [← e, Circuit.withReports_cons]
    · rename_i e; rw [Circuit.withReports_other _ _ e]

/-- The flags stage changes the flags the reports name, at each index of the rack. -/
theorem State.circuit_flagged (reports : List Report) (i : Nat) : (s.flagged l r reports).1.circuit (circuitAt l r i) =
    (s.circuit (circuitAt l r i)).withReports reports i := circuit_foldReports ..

theorem State.circuit_flagged_outside {reports : List Report} (h : ∀ p ∈ reports, indexOk p.circuitIndex = true) {n : Nat}
    (hn : ∀ i, 1 ≤ i → i ≤ 32 → n ≠ circuitAt l r i) : (s.flagged l r reports).1.circuit n = s.circuit n := by
  have kept (ps : List Report) (hps : ∀ p ∈ ps, indexOk p.circuitIndex = true) (x : State × Bool) :
      (ps.foldl (takeReport l r) x).1.circuit n = x.1.circuit n := by
    induction ps generalizing x with
    | nil => rfl
    | cons p ps ih =>
      obtain ⟨h1, h32⟩ := (indexOk_iff _).mp (hps p List.mem_cons_self)
      rw [List.foldl_cons, ih fun q hq => hps q (List.mem_cons_of_mem _ hq), takeReport, State.circuit_setCircuit,
        if_neg (Ne.symm (hn _ h1 h32))]
  exact kept reports h (s, false)

theorem State.flagged_frame (reports : List Report) :
    (s.flagged l r reports).1 = { s with circuits := (s.flagged l r reports).1.circuits } := by
  have kept (ps : List Report) (x : State × Bool) : (ps.foldl (takeReport l r) x).1 =
      { x.1 with circuits := (ps.foldl (takeReport l r) x).1.circuits } := by
    induction ps generalizing x with
    | nil => rfl
    | cons p ps ih => rw [List.foldl_cons, ih]; rfl
  exact kept reports (s, false)

/-- A report taken leaves every other report the news it was, and is no news again itself. -/
theorem reportIsNews_takeReport (x : State × Bool) (p q : Report) :
    ((takeReport l r x p).1.circuit (circuitAt l r q.circuitIndex)).reportIsNews q.kind = true ↔
      p ≠ q ∧ (x.1.circuit (circuitAt l r q.circuitIndex)).reportIsNews q.kind = true := by
  have same : p = q ↔ p.circuitIndex = q.circuitIndex ∧ p.kind = q.kind := by cases p; cases q; simp
  rw [circuit_takeReport]
  simp only [Circuit.reportIsNews, Bool.and_eq_true, Bool.not_eq_true', ne_eq, same]
  by_cases hi : p.circuitIndex = q.circuitIndex
  · simp only [hi, if_true, Circuit.takes_report, Circuit.flag_report, true_and]
    by_cases hk : p.kind = q.kind
    · by_cases taken : (x.1.circuit (circuitAt l r q.circuitIndex)).takes q.kind = true ∧
          ((x.1.circuit (circuitAt l r q.circuitIndex)).flag q.kind).isSet = false
      · simp [hk, taken]
      · simp only [hk, taken, and_false, if_false, not_true_eq_false]
    · simp only [hk, false_and, if_false, not_false_eq_true, true_and]
  · simp only [hi, if_false, false_and, not_false_eq_true, true_and]

/-- The reports are news where one that is taken finds its flag clear (R148). -/
theorem State.flagged_news (reports : List Report) : (s.flagged l r reports).2 = true ↔
    ∃ p ∈ reports, (s.circuit (circuitAt l r p.circuitIndex)).reportIsNews p.kind = true := by
  have told (ps : List Report) (x : State × Bool) : (ps.foldl (takeReport l r) x).2 = true ↔
      x.2 = true ∨ ∃ p ∈ ps, (x.1.circuit (circuitAt l r p.circuitIndex)).reportIsNews p.kind = true := by
    induction ps generalizing x with
    | nil => simp
    | cons p ps ih =>
      have taken : (takeReport l r x p).2 = true ↔
          x.2 = true ∨ (x.1.circuit (circuitAt l r p.circuitIndex)).reportIsNews p.kind = true := Bool.or_eq_true_iff
      rw [List.foldl_cons, ih, taken, or_assoc, List.exists_mem_cons_iff]
      simp only [reportIsNews_takeReport]
      refine or_congr_right ⟨fun h => h.imp_right (fun ⟨q, hq, _, news⟩ => ⟨q, hq, news⟩), fun h => ?_⟩
      rcases h with news | ⟨q, hq, news⟩
      · exact .inl news
      · by_cases hpq : p = q
        · exact .inl (hpq ▸ news)
        · exact .inr ⟨q, hq, hpq, news⟩
  rw [State.flagged, told]
  simp only [Bool.false_eq_true, false_or]

/-! ### A failure, in what it writes (R161 to R163) -/

/-- From `s` to `t` no health and no flag differs, but for new marks. -/
def State.SameFaults (s t : State) : Prop :=
  ∀ n, (t.circuit n).health = (s.circuit n).health ∧ ∀ k, ((t.circuit n).flag k).isSet = ((s.circuit n).flag k).isSet

theorem State.SameFaults.trans (h : s.SameFaults t) (h' : t.SameFaults u) : s.SameFaults u := fun n =>
  ⟨(h' n).1.trans (h n).1, fun k => ((h' n).2 k).trans ((h n).2 k)⟩

theorem State.SameFaults.of_circuit (h : ∀ n, t.circuit n = s.circuit n) : s.SameFaults t := fun n => by rw [h]; exact ⟨rfl, fun _ => rfl⟩

theorem State.SameFaults.setCircuit (n : Nat) {v : Circuit} (hh : v.health = (s.circuit n).health)
    (hf : ∀ k, (v.flag k).isSet = ((s.circuit n).flag k).isSet) : s.SameFaults (s.setCircuit n v) := fun m => by
  rw [State.circuit_setCircuit]
  split
  · rename_i e; subst e; exact ⟨hh, hf⟩
  · exact ⟨rfl, fun _ => rfl⟩

theorem State.SameFaults.pairUp (s : State) (failed spare : Nat) : s.SameFaults (s.pairUp failed spare) := by
  have paired (u : State) (n : Nat) (role : Role) (p : Pairing) :
      u.SameFaults (u.setCircuit n { u.circuit n with role := role, pairing := p }) :=
    SameFaults.setCircuit n rfl fun k => by cases k <;> rfl
  exact (paired s failed _ _).trans ((paired _ spare _ _).trans (SameFaults.of_circuit fun n => State.circuit_placeOrder ..))

theorem State.confirmFailure_faults (s : State) (n : Nat) :
    (s.setCircuit n (s.circuit n).failing).SameFaults (s.confirmFailure n) := by
  rcases s.confirmFailure_cases n with ⟨-, e⟩ | ⟨-, m, -, -, e⟩ | ⟨-, -, e⟩ <;> rw [e]
  · exact .of_circuit fun _ => rfl
  · exact SameFaults.pairUp _ n m
  · refine .setCircuit n ?_ ?_ <;> rw [State.circuit_setCircuit, if_pos rfl]
    · rfl
    · intro k; cases k <;> rfl

/-- From `s` to `t` circuits of one rack may differ, and that rack's pending order. -/
structure State.OrderOnly (s : State) (l : LinkId) (r : Nat) (t : State) : Prop where
  rack : s.RackOnly l r t
  banks : t.banks = s.banks
  row : t.row l r = { s.row l r with pendingOrder := (t.row l r).pendingOrder }
  outside : ∀ n, (∀ i, 1 ≤ i → i ≤ 32 → n ≠ circuitAt l r i) → t.circuit n = s.circuit n

namespace State.OrderOnly

theorem refl (s : State) : s.OrderOnly l r s := ⟨.refl s, rfl, rfl, fun _ _ => rfl⟩

theorem trans (h : s.OrderOnly l r t) (h' : t.OrderOnly l r u) : s.OrderOnly l r u where
  rack := h.rack.trans h'.rack
  banks := h'.banks.trans h.banks
  row := by rw [h'.row, h.row]
  outside n hn := (h'.outside n hn).trans (h.outside n hn)

theorem setCircuit (s : State) {n i : Nat} (hi : 1 ≤ i ∧ i ≤ 32) (hn : n = circuitAt l r i) (v : Circuit) :
    s.OrderOnly l r (s.setCircuit n v) where
  rack := .setCircuit s n v
  banks := rfl
  row := rfl
  outside m hm := by rw [State.circuit_setCircuit, if_neg fun e => hm i hi.1 hi.2 (e.symm.trans hn)]

theorem placeOrder (s : State) (l : LinkId) (r : Nat) (o : Order) : s.OrderOnly l r (s.placeOrder l r o) where
  rack := .placeOrder ..
  banks := by
    rcases s.placeOrder_cases l r o with ⟨-, e⟩ | ⟨-, e⟩ <;> rw [e]
    exact (s.setRow_patch ..).1
  row := by
    rcases s.placeOrder_cases l r o with ⟨-, e⟩ | ⟨-, e⟩ <;> rw [e]
    rw [State.row_setPending, if_pos ⟨rfl, rfl⟩]
  outside n _ := State.circuit_placeOrder ..

theorem pairUp (s : State) {failed spare i j : Nat} (hr : rackOk r = true) (hi : 1 ≤ i ∧ i ≤ 32) (hf : failed = circuitAt l r i)
    (hj : 1 ≤ j ∧ j ≤ 32) (hs : spare = circuitAt l r j) : s.OrderOnly l r (s.pairUp failed spare) := by
  obtain ⟨-, hlink, hrack, -⟩ := circuitAt_range l hr hi
  unfold State.pairUp
  rw [hf, hlink, hrack]
  exact (setCircuit s hi rfl _).trans ((setCircuit _ hj hs _).trans (placeOrder ..))

theorem confirmFailure (s : State) {n i : Nat} (hr : rackOk r = true) (hi : 1 ≤ i ∧ i ≤ 32) (hn : n = circuitAt l r i) :
    s.OrderOnly l r (s.confirmFailure n) := by
  obtain ⟨-, hlink, hrack, -⟩ := circuitAt_range l hr hi
  have failing := setCircuit s hi hn (s.circuit n).failing
  rcases s.confirmFailure_cases n with ⟨-, e⟩ | ⟨-, m, hm, -, e⟩ | ⟨-, -, e⟩ <;> rw [e]
  · exact failing
  · obtain ⟨j, hj, hm⟩ := List.mem_map.mp (List.mem_of_find?_eq_some hm)
    rw [List.mem_range'_1] at hj
    rw [hn, hlink, hrack] at hm
    exact failing.trans (pairUp _ hr hi hn (by omega) hm.symm)
  · exact failing.trans (setCircuit _ hi hn _)

end State.OrderOnly

/-! ### Healths (R151) -/

/-- The verdict on a circuit whose failure is not confirmed now. -/
def Circuit.verdict (c : Circuit) (failing : Prop) [Decidable failing] : Circuit :=
  if c.role = .ordinary ∧ c.health ≠ .failed then { c with health := if failing then .suspect else .ok } else c

/-- A circuit whose failure a reply confirms: it is ORDINARY, was SUSPECT and is reported again. -/
abbrev Circuit.confirms (c : Circuit) (reports : List Report) (i : Nat) : Prop :=
  c.role = .ordinary ∧ c.health = .suspect ∧ ⟨i, .dimmerFail⟩ ∈ reports

variable {reports : List Report} {x : State × Bool} {i : Nat}

theorem takeHealth_confirmed (h : (x.1.circuit (circuitAt l r i)).confirms reports i) :
    takeHealth l r reports x i = (x.1.confirmFailure (circuitAt l r i), true) := by
  obtain ⟨hrole, hhealth, hmem⟩ := h
  have hreported : reports.contains ⟨i, .dimmerFail⟩ = true := List.contains_iff_mem.mpr hmem
  unfold takeHealth
  simp only [hrole, hhealth, hreported, if_true]

theorem Circuit.verdict_of_health (c : Circuit) (failing : Prop) [Decidable failing] (h : (c.verdict failing).health = c.health) :
    c.verdict failing = c := by
  have health : c.verdict failing = { c with health := (c.verdict failing).health } := by
    unfold Circuit.verdict
    split <;> rfl
  rw [health, h]

/-- Where no failure is confirmed the circuit takes the verdict, and a health that changes is news. -/
theorem takeHealth_eq (h : ¬ (x.1.circuit (circuitAt l r i)).confirms reports i) : takeHealth l r reports x i =
    if ((x.1.circuit (circuitAt l r i)).verdict (⟨i, .dimmerFail⟩ ∈ reports)).health = (x.1.circuit (circuitAt l r i)).health then x
    else (x.1.setCircuit (circuitAt l r i) ((x.1.circuit (circuitAt l r i)).verdict (⟨i, .dimmerFail⟩ ∈ reports)), true) := by
  unfold takeHealth Circuit.verdict Circuit.confirms at *
  dsimp only
  by_cases ho : (x.1.circuit (circuitAt l r i)).role = .ordinary
  · by_cases hm : (⟨i, .dimmerFail⟩ : Report) ∈ reports
    · cases hh : (x.1.circuit (circuitAt l r i)).health with
      | suspect => exact absurd ⟨ho, hh, hm⟩ h
      | ok => simp [ho, hm]
      | failed => simp [ho, hh]
    · cases hh : (x.1.circuit (circuitAt l r i)).health <;> simp [ho, hh, hm]
  · simp only [ho, false_and, if_false, if_true]

/-- From `s` to `t` one circuit was written, and nothing else differs. -/
def State.WritesCircuit (s t : State) (n : Nat) (c : Circuit) : Prop :=
  t = { s with circuits := t.circuits } ∧ ∀ m, t.circuit m = if m = n then c else s.circuit m

theorem takeHealth_verdict (h : ¬ (x.1.circuit (circuitAt l r i)).confirms reports i) :
    x.1.WritesCircuit (takeHealth l r reports x i).1 (circuitAt l r i)
      ((x.1.circuit (circuitAt l r i)).verdict (⟨i, .dimmerFail⟩ ∈ reports)) ∧
    ((takeHealth l r reports x i).2 = true ↔ x.2 = true ∨
      ((x.1.circuit (circuitAt l r i)).verdict (⟨i, .dimmerFail⟩ ∈ reports)).health ≠ (x.1.circuit (circuitAt l r i)).health) := by
  rw [takeHealth_eq h]
  split
  · rename_i hsame
    rw [Circuit.verdict_of_health _ _ hsame]
    refine ⟨⟨rfl, fun m => ?_⟩, by simp⟩
    split
    · rename_i e; rw [e]
    · rfl
  · rename_i hne
    refine ⟨⟨rfl, fun m => ?_⟩, by simp [hne]⟩
    rw [State.circuit_setCircuit]
    simp only [eq_comm (a := m)]

theorem takeHealth_orderOnly (hr : rackOk r = true) (hi : 1 ≤ i ∧ i ≤ 32) : x.1.OrderOnly l r (takeHealth l r reports x i).1 := by
  by_cases h : (x.1.circuit (circuitAt l r i)).confirms reports i
  · rw [takeHealth_confirmed h]
    exact .confirmFailure _ hr hi rfl
  · rw [takeHealth_eq h]
    split
    · exact .refl _
    · exact .setCircuit _ hi rfl _

theorem State.judged_orderOnly (hr : rackOk r = true) (hi : i ≤ 32) : s.OrderOnly l r (s.judged l r reports i).1 := by
  induction i with
  | zero => exact .refl s
  | succ i ih => rw [State.judged_succ]; exact (ih (by omega)).trans (takeHealth_orderOnly hr (by omega))

/-- The judging of one circuit moves no other health and sets no flag; it is news where the circuit's health moved. -/
theorem takeHealth_moves (x : State × Bool) (i : Nat) :
    (∀ m, m ≠ circuitAt l r i → ((takeHealth l r reports x i).1.circuit m).health = (x.1.circuit m).health) ∧
    (∀ m k, (((takeHealth l r reports x i).1.circuit m).flag k).isSet = ((x.1.circuit m).flag k).isSet) ∧
    ((takeHealth l r reports x i).2 = true ↔ x.2 = true ∨
      ((takeHealth l r reports x i).1.circuit (circuitAt l r i)).health ≠ (x.1.circuit (circuitAt l r i)).health) := by
  by_cases h : (x.1.circuit (circuitAt l r i)).confirms reports i
  · have faults := x.1.confirmFailure_faults (circuitAt l r i)
    rw [takeHealth_confirmed h]
    refine ⟨fun m hm => ?_, fun m k => ?_, ?_⟩
    · rw [(faults m).1, State.circuit_setCircuit, if_neg (Ne.symm hm)]
    · rw [(faults m).2, State.circuit_setCircuit]
      split
      · rename_i e; rw [← e]; cases k <;> rfl
      · rfl
    · rw [(faults _).1, State.circuit_setCircuit, if_pos rfl, h.2.1]
      simp [Circuit.failing]
  · obtain ⟨⟨-, hcircuit⟩, hnews⟩ := takeHealth_verdict h
    refine ⟨fun m hm => by rw [hcircuit, if_neg hm], fun m k => ?_, by rw [hnews, hcircuit, if_pos rfl]⟩
    rw [hcircuit]
    split
    · rename_i e
      rw [e, Circuit.verdict]
      split
      · cases k <;> rfl
      · rfl
    · rfl

/-- The judging up to an index: only healths up to there move, no flag is set, and it is news where one of them moved. -/
theorem State.judged_moves (s : State) (l : LinkId) (r : Nat) (reports : List Report) (i : Nat) :
    (∀ m, (∀ j, 1 ≤ j → j ≤ i → m ≠ circuitAt l r j) → ((s.judged l r reports i).1.circuit m).health = (s.circuit m).health) ∧
    (∀ m k, (((s.judged l r reports i).1.circuit m).flag k).isSet = ((s.circuit m).flag k).isSet) ∧
    ((s.judged l r reports i).2 = true ↔ ∃ j, 1 ≤ j ∧ j ≤ i ∧
      ((s.judged l r reports i).1.circuit (circuitAt l r j)).health ≠ (s.circuit (circuitAt l r j)).health) := by
  induction i with
  | zero => exact ⟨fun _ _ => rfl, fun _ _ => rfl, by simp⟩
  | succ i ih =>
    obtain ⟨ihHealth, ihFlag, ihNews⟩ := ih
    obtain ⟨health, flag, news⟩ := takeHealth_moves (l := l) (r := r) (reports := reports) (s.judged l r reports i) (i + 1)
    rw [State.judged_succ]
    have next : ((s.judged l r reports i).1.circuit (circuitAt l r (i + 1))).health = (s.circuit (circuitAt l r (i + 1))).health :=
      ihHealth _ fun j _ hj e => by have := circuitAt_inj.mp e; omega
    refine ⟨fun m hm => ?_, fun m k => (flag m k).trans (ihFlag m k), ?_⟩
    · rw [health m (hm _ (by omega) (by omega)), ihHealth m fun j h1 hj => hm j h1 (by omega)]
    · rw [news, ihNews, next]
      have earlier {j : Nat} (hj : j ≤ i) : ((takeHealth l r reports (s.judged l r reports i) (i + 1)).1.circuit (circuitAt l r j)).health =
          ((s.judged l r reports i).1.circuit (circuitAt l r j)).health :=
        health _ fun e => by have := circuitAt_inj.mp e; omega
      constructor
      · rintro (⟨j, h1, hj, moved⟩ | moved)
        · exact ⟨j, h1, by omega, by rwa [earlier hj]⟩
        · exact ⟨i + 1, by omega, le_refl _, moved⟩
      · rintro ⟨j, h1, hj, moved⟩
        by_cases hlast : j = i + 1
        · exact .inr (hlast ▸ moved)
        · exact .inl ⟨j, h1, by omega, by rwa [earlier (by omega)] at moved⟩

/-! ### A failure is what the chapter says (R161 to R163) -/

/-- From `u` to `t` a failure of circuit `n` left it and a spare `m` as `f` and `p`, and the pending order of its rack as `w`. -/
def State.FailureWrites (u t : State) (n : Nat) (f : Circuit) (m : Nat) (p : Circuit) (w : Option PendingOrder) : Prop :=
  t = { u with circuits := t.circuits, links := t.links } ∧
  (∀ x, t.circuit x = if x = n then f else if x = m then p else u.circuit x) ∧
  (∀ l, t.link l = { u.link l with rows := (t.link l).rows }) ∧
  ∀ l r, t.row l r = if l = linkOf n ∧ r = rackOf n then { u.row l r with pendingOrder := w } else u.row l r

theorem State.RackOnly.failureWrites {n m : Nat} {f p : Circuit} {w : Option PendingOrder} (h : u.RackOnly (linkOf n) (rackOf n) t)
    (hb : t.banks = u.banks) (hrow : t.row (linkOf n) (rackOf n) = { u.row (linkOf n) (rackOf n) with pendingOrder := w })
    (hc : ∀ x, t.circuit x = if x = n then f else if x = m then p else u.circuit x) : u.FailureWrites t n f m p w := by
  refine ⟨?_, hc, fun l => ?_, fun l r => ?_⟩
  · have frame := h.frame
    rw [State.RigOnly, hb] at frame
    exact frame
  · by_cases hl : l = linkOf n
    · subst hl; exact h.link
    · rw [h.others l hl]
  · by_cases hl : l = linkOf n
    · subst hl
      by_cases hr : r = rackOf n
      · subst hr; rw [if_pos ⟨rfl, rfl⟩]; exact hrow
      · rw [if_neg fun e => hr e.2]; exact h.rows r hr
    · rw [if_neg fun e => hl e.1, State.row, h.others l hl]; rfl

/-- The order of a rack after one more is owed: it is placed where none was pending (R160). -/
theorem State.row_placeOrder (s : State) (l : LinkId) (r : Nat) (o : Order) : (s.placeOrder l r o).row l r = { s.row l r with
    pendingOrder := if (s.row l r).pendingOrder = none then some ⟨o, 0⟩ else (s.row l r).pendingOrder } := by
  rcases s.placeOrder_cases l r o with ⟨hp, e⟩ | ⟨hp, e⟩ <;> rw [e]
  · rw [State.row_setPending, if_pos ⟨rfl, rfl⟩, if_pos hp]
  · rw [if_neg hp]

section
variable {n : Nat}

/-- A circuit that was no free spare is no eligible one when it has failed, and every other circuit is as eligible as before. -/
theorem State.eligible_failing (hn : (u.circuit n).role ≠ .spareFree) (m : Nat) :
    ((u.setCircuit n (u.circuit n).failing).circuit m).eligibleSpare = (u.circuit m).eligibleSpare := by
  rw [State.circuit_setCircuit]
  split
  · rename_i e
    subst e
    have before : ((u.circuit n).role == .spareFree) = false := beq_eq_false_iff_ne.mpr hn
    rw [Circuit.eligibleSpare, Circuit.eligibleSpare, before]
    rfl
  · rfl

theorem State.candidate_failing (hn : (u.circuit n).role ≠ .spareFree) (l : LinkId) (r : Nat) :
    (u.setCircuit n (u.circuit n).failing).candidate l r = u.candidate l r := by
  unfold State.candidate
  simp only [State.eligible_failing hn]

theorem State.eligibleSpares_failing (h : u.Canonical) (hn : (u.circuit n).role ≠ .spareFree) :
    (u.setCircuit n (u.circuit n).failing).eligibleSpares = (List.range' 1 2048).countP fun m => (u.circuit m).eligibleSpare := by
  unfold State.eligibleSpares
  rw [(h.setCircuit n _).countCircuits rfl]
  simp only [State.eligible_failing hn]

theorem State.failureWrites_failing (u : State) (n : Nat) : u.FailureWrites (u.setCircuit n (u.circuit n).failing) n
    (u.circuit n).failing n (u.circuit n).failing (u.row (linkOf n) (rackOf n)).pendingOrder := by
  refine (RackOnly.setCircuit ..).failureWrites rfl rfl fun x => ?_
  rw [State.circuit_setCircuit]
  simp only [eq_comm (a := x)]
  split <;> rfl

theorem State.failureWrites_marked (u : State) (n : Nat) :
    u.FailureWrites ((u.setCircuit n (u.circuit n).failing).setCircuit n (u.circuit n).failing.marked) n
      (u.circuit n).failing.marked n (u.circuit n).failing (u.row (linkOf n) (rackOf n)).pendingOrder := by
  refine ((RackOnly.setCircuit ..).trans (RackOnly.setCircuit ..)).failureWrites rfl rfl fun x => ?_
  rw [State.circuit_setCircuit, State.circuit_setCircuit]
  simp only [eq_comm (a := x)]

theorem State.RackOnly.pairUp (s : State) (failed spare : Nat) :
    s.RackOnly (linkOf failed) (rackOf failed) (s.pairUp failed spare) :=
  (setCircuit ..).trans ((setCircuit ..).trans (placeOrder ..))

theorem State.row_pairUp (s : State) (failed spare : Nat) : (s.pairUp failed spare).row (linkOf failed) (rackOf failed) =
    { s.row (linkOf failed) (rackOf failed) with
      pendingOrder := if (s.row (linkOf failed) (rackOf failed)).pendingOrder = none then
        some ⟨⟨.transfer, indexOf failed, indexOf spare⟩, 0⟩ else (s.row (linkOf failed) (rackOf failed)).pendingOrder } :=
  State.row_placeOrder ..

theorem State.failureWrites_pairUp (u : State) {n m : Nat} (hne : n ≠ m) :
    u.FailureWrites ((u.setCircuit n (u.circuit n).failing).pairUp n m) n { (u.circuit n).failing with pairing := .ordered m } m
      { u.circuit m with role := .spareHeld, pairing := .ordered n }
      (if (u.row (linkOf n) (rackOf n)).pendingOrder = none then some ⟨⟨.transfer, indexOf n, indexOf m⟩, 0⟩
        else (u.row (linkOf n) (rackOf n)).pendingOrder) := by
  refine ((RackOnly.setCircuit ..).trans (RackOnly.pairUp ..)).failureWrites (State.pairUp_banks ..) (State.row_pairUp ..) fun x => ?_
  rw [State.circuit_pairUp _ hne, State.circuit_setCircuit, State.circuit_setCircuit, State.circuit_setCircuit, if_pos rfl, if_neg hne]
  split
  · rfl
  · rename_i hx; rw [if_neg (Ne.symm hx)]

/-- The confirmation of a failure is the failure of R161 to R163. -/
theorem State.confirmFailure_fails (h : u.Canonical) (hn : (u.circuit n).role ≠ .spareFree) : u.Fails (u.confirmFailure n) n := by
  have count := State.eligibleSpares_failing h hn
  have candidate := State.candidate_failing hn (linkOf n) (rackOf n)
  unfold State.Fails
  rcases u.confirmFailure_cases n with ⟨hauto, e⟩ | ⟨hauto, m, hm, hreserve, e⟩ | ⟨hauto, hnone, e⟩ <;> rw [e] <;> dsimp only
  · rw [if_pos hauto]
    exact u.failureWrites_failing n
  · rw [candidate] at hm
    rw [count] at hreserve
    rw [if_neg (by rw [hauto]; decide)]
    split
    · rename_i m' hm'
      obtain rfl : m' = m := Option.some.inj (hm'.symm.trans hm)
      have hne : n ≠ m' := by
        rintro rfl
        have eligible := List.find?_some hm
        simp [Circuit.eligibleSpare, hn] at eligible
      split
      · exact u.failureWrites_pairUp hne
      · exact absurd hreserve ‹_›
    · rename_i hm'
      exact absurd (hm'.symm.trans hm) (Option.some_ne_none m).symm
  · rw [candidate, count] at hnone
    rw [if_neg (by rw [hauto]; decide)]
    split
    · rename_i m' hm'
      split
      · rename_i hreserve
        rcases hnone with hm | hless
        · exact absurd (hm'.symm.trans hm) (Option.some_ne_none m')
        · exact absurd hreserve hless
      · exact u.failureWrites_marked n
    · exact u.failureWrites_marked n

end

/-- From `u` to `v` one circuit was judged: its failure is confirmed, or it takes the verdict and nothing else changes. -/
def State.Judges (u v : State) (n : Nat) (failing : Prop) [Decidable failing] : Prop :=
  let c := u.circuit n
  if c.role = .ordinary ∧ c.health = .suspect ∧ failing then u.Fails v n
  else if c.role = .ordinary ∧ c.health ≠ .failed then u.WritesCircuit v n { c with health := if failing then .suspect else .ok }
  else u.WritesCircuit v n c

theorem takeHealth_judges (h : x.1.Canonical) : x.1.Judges (takeHealth l r reports x i).1 (circuitAt l r i)
    (⟨i, .dimmerFail⟩ ∈ reports) := by
  unfold State.Judges
  dsimp only
  split
  · rename_i hconfirms
    rw [takeHealth_confirmed hconfirms]
    exact State.confirmFailure_fails h (by rw [hconfirms.1]; decide)
  · rename_i hverdict
    have written := (takeHealth_verdict hverdict).1
    unfold Circuit.verdict at written
    split
    · rwa [if_pos ‹_›] at written
    · rwa [if_neg ‹_›] at written

/-! ### The reply (O55) -/

/-- From `s` to `t` a READY reply of thermal state `thermal` was taken from a rack, its pending order at the end as given: but for the
circuits of the rack, its row and the window, nothing differs, and the row is as R147 and R148 say. -/
def State.ReplyTaken (s : State) (l : LinkId) (r : Nat) (thermal : Thermal) (t : State) (pending : Option PendingOrder) : Prop :=
  t = { s with circuits := t.circuits, links := t.links } ∧
  (∀ m, m ≠ l → t.link m = s.link m) ∧
  t.link l = { s.link l with window := none, carried := none, rows := (t.link l).rows } ∧
  (∀ r', r' ≠ r → t.row l r' = s.row l r') ∧
  t.row l r = { s.row l r with
    state := .online, silent := 0, wait := 0, thermal := thermal, news := (t.row l r).news, pendingOrder := pending
    returnedNotice := (s.row l r).returnedNotice || (s.row l r).state == .lost } ∧
  ((t.row l r).news = true ↔ (s.row l r).thermal ≠ thermal ∨
    ∃ i, 1 ≤ i ∧ i ≤ 32 ∧ ((t.circuit (circuitAt l r i)).health ≠ (s.circuit (circuitAt l r i)).health ∨
      ∃ k, ((s.circuit (circuitAt l r i)).flag k).isSet = false ∧ ((t.circuit (circuitAt l r i)).flag k).isSet = true)) ∧
  ∀ n, (∀ i, 1 ≤ i → i ≤ 32 → n ≠ circuitAt l r i) → t.circuit n = s.circuit n

theorem State.circuit_concluded (thermal : Thermal) (news : Bool) (n : Nat) :
    (s.concluded l r thermal news).circuit n = s.circuit n := by
  simp [State.concluded, State.setRow, State.closeWindow]

theorem State.flagged_orderOnly (h : ∀ p ∈ reports, indexOk p.circuitIndex = true) : s.OrderOnly l r (s.flagged l r reports).1 where
  rack := .of_links (by rw [State.flagged_frame]; rfl) (by rw [State.flagged_frame])
  banks := by rw [State.flagged_frame]
  row := by rw [State.flagged_frame]; rfl
  outside _ hn := State.circuit_flagged_outside h hn

/-- The end of a reply, after circuits and orders of its rack alone were written. -/
theorem State.OrderOnly.replyTaken {thermal : Thermal} {news : Bool} (h : s.OrderOnly l r u)
    (hnews : news = true ↔ (s.row l r).thermal ≠ thermal ∨
      ∃ i, 1 ≤ i ∧ i ≤ 32 ∧ ((u.circuit (circuitAt l r i)).health ≠ (s.circuit (circuitAt l r i)).health ∨
        ∃ k, ((s.circuit (circuitAt l r i)).flag k).isSet = false ∧ ((u.circuit (circuitAt l r i)).flag k).isSet = true)) :
    s.ReplyTaken l r thermal (u.concluded l r thermal news) (u.row l r).pendingOrder := by
  obtain ⟨⟨frame, others⟩, link, rows⟩ := u.closedOn_setRow l r { (u.row l r).ready thermal with news := news }
  have row : (u.concluded l r thermal news).row l r = { (u.row l r).ready thermal with news := news } := (rows r).trans (if_pos rfl)
  refine ⟨?_, fun m hm => (others m hm).trans (h.rack.others m hm), ?_, fun r' hr' => ?_, ?_, ?_, fun n hn => ?_⟩
  · have rig := h.rack.frame
    rw [State.RigOnly, h.banks] at rig
    rw [State.concluded, frame, rig]
  · rw [State.concluded, link, h.rack.link]
  · exact ((rows r').trans (if_neg hr')).trans (h.rack.rows r' hr')
  · rw [row, h.row]
    rfl
  · simp only [row, hnews, State.circuit_concluded]
  · rw [State.circuit_concluded, h.outside n hn]

/-- The news of the flags stage and of the health stage, in what they moved (R148). -/
theorem State.judged_news (h : ∀ p ∈ reports, indexOk p.circuitIndex = true) :
    (s.flagged l r reports).2 = true ∨ ((s.flagged l r reports).1.judged l r reports 32).2 = true ↔
      ∃ i, 1 ≤ i ∧ i ≤ 32 ∧
        ((((s.flagged l r reports).1.judged l r reports 32).1.circuit (circuitAt l r i)).health ≠ (s.circuit (circuitAt l r i)).health ∨
        ∃ k, ((s.circuit (circuitAt l r i)).flag k).isSet = false ∧
          ((((s.flagged l r reports).1.judged l r reports 32).1.circuit (circuitAt l r i)).flag k).isSet = true) := by
  obtain ⟨-, flag, news⟩ := (s.flagged l r reports).1.judged_moves l r reports 32
  rw [news, State.flagged_news]
  simp only [flag, State.circuit_flagged, Circuit.flag_withReports]
  constructor
  · rintro (⟨p, hp, found⟩ | ⟨j, h1, hj, moved⟩)
    · obtain ⟨h1, h32⟩ := (indexOk_iff _).mp (h p hp)
      simp only [Circuit.reportIsNews, Bool.and_eq_true, Bool.not_eq_true'] at found
      obtain ⟨taken, clear⟩ := found
      exact ⟨p.circuitIndex, h1, h32, .inr ⟨p.kind, clear, (Circuit.flagAfter_set clear ..).mpr ⟨hp, taken⟩⟩⟩
    · exact ⟨j, h1, hj, .inl moved⟩
  · rintro ⟨i, h1, hi, moved | ⟨k, clear, set⟩⟩
    · exact .inr ⟨i, h1, hi, moved⟩
    · obtain ⟨hm, taken⟩ := (Circuit.flagAfter_set clear ..).mp set
      exact .inl ⟨⟨i, k⟩, hm, by simp only [Circuit.reportIsNews, taken, clear, Bool.not_false, Bool.and_self]⟩

/-- With no order carried the acknowledgement stage does nothing. -/
theorem State.takeAck_none (s : State) (l : LinkId) (r : Nat) (a : Option Order) : s.takeAck l r none a = (s, false) := by
  unfold State.takeAck
  cases (s.row l r).pendingOrder <;> rfl

/-- A READY reply to a poll that carried no order: the flags, then the healths, then the row. -/
theorem exec_ready_uncarried {bytes : List Byte} {y : ReplyFrame} (hr : rackOk r = true) (hw : (s.link l).window = some r)
    (hc : (s.link l).carried = none) (hy : parseReply bytes = some y) (ha : y.address = r) (hready : y.ready = true) :
    ∃ t, exec (.replyArrival l bytes) s = .next t ∧
      s.ReplyTaken l r y.thermal t ((((s.flagged l r y.reports).1.judged l r y.reports 32).1.row l r).pendingOrder) ∧
      ∀ n, t.circuit n = ((s.flagged l r y.reports).1.judged l r y.reports 32).1.circuit n := by
  have order : s.OrderOnly l r ((s.flagged l r y.reports).1.judged l r y.reports 32).1 :=
    (State.flagged_orderOnly (parseReply_index hy)).trans (State.judged_orderOnly hr (le_refl 32))
  rw [exec_replyArrival_ready hw hy ha hready, State.takeReady_eq s l hr, hc, State.replied, State.takeAck_none]
  refine ⟨_, rfl, order.replyTaken ?_, fun n => State.circuit_concluded ..⟩
  rw [← State.judged_news (parseReply_index hy)]
  simp only [Bool.or_false, Bool.or_eq_true, decide_eq_true_eq, or_assoc]

/-! ### With auto-transfer off -/

/-- A circuit after the judging with auto-transfer off. -/
def Circuit.settled (c : Circuit) (reports : List Report) (i : Nat) : Circuit :=
  if c.confirms reports i then c.failing else c.verdict (⟨i, .dimmerFail⟩ ∈ reports)

theorem Circuit.settled_kept (c : Circuit) (reports : List Report) (i : Nat) : (∀ k, (c.settled reports i).flag k = c.flag k) ∧
    (c.settled reports i).pairing = c.pairing ∧ (c.settled reports i).resend = c.resend := by
  unfold Circuit.settled Circuit.verdict
  split
  · exact ⟨fun k => by cases k <;> rfl, rfl, rfl⟩
  · split
    · exact ⟨fun k => by cases k <;> rfl, rfl, rfl⟩
    · exact ⟨fun _ => rfl, rfl, rfl⟩

theorem Circuit.settled_role (c : Circuit) (reports : List Report) (i : Nat) : (c.settled reports i).role =
    if c.role = .ordinary ∧ c.health = .suspect ∧ ⟨i, .dimmerFail⟩ ∈ reports then .failed else c.role := by
  unfold Circuit.settled Circuit.verdict
  split
  · rfl
  · split <;> rfl

theorem Circuit.settled_health (c : Circuit) (reports : List Report) (i : Nat) : (c.settled reports i).health =
    if c.role = .ordinary ∧ c.health ≠ .failed then
      if ⟨i, .dimmerFail⟩ ∈ reports then if c.health = .suspect then .failed else .suspect else .ok
    else c.health := by
  unfold Circuit.settled
  split
  · rename_i h
    obtain ⟨hrole, hhealth, hm⟩ := h
    rw [if_pos ⟨hrole, by rw [hhealth]; decide⟩, if_pos hm, if_pos hhealth]
    rfl
  · rename_i h
    unfold Circuit.verdict
    split
    · rename_i hlive
      split
      · rename_i hm
        rw [if_neg fun hs => h ⟨hlive.1, hs, hm⟩]
      · rfl
    · rfl

theorem takeHealth_off (h : x.1.rig.autoTransfer = false) (i : Nat) : x.1.WritesCircuit (takeHealth l r reports x i).1
    (circuitAt l r i) ((x.1.circuit (circuitAt l r i)).settled reports i) := by
  unfold Circuit.settled
  split
  · rename_i hconfirms
    rw [takeHealth_confirmed hconfirms]
    rcases x.1.confirmFailure_cases (circuitAt l r i) with ⟨-, e⟩ | ⟨hauto, -⟩ | ⟨hauto, -⟩
    · rw [e]
      exact ⟨rfl, fun m => by rw [State.circuit_setCircuit]; simp only [eq_comm (a := m)]⟩
    · exact absurd (hauto.symm.trans h) (by decide)
    · exact absurd (hauto.symm.trans h) (by decide)
  · exact (takeHealth_verdict ‹_›).1

theorem State.judged_off (h : s.rig.autoTransfer = false) (i : Nat) :
    (s.judged l r reports i).1 = { s with circuits := (s.judged l r reports i).1.circuits } ∧
    ∀ j, (s.judged l r reports i).1.circuit (circuitAt l r j) =
      if 1 ≤ j ∧ j ≤ i then (s.circuit (circuitAt l r j)).settled reports j else s.circuit (circuitAt l r j) := by
  induction i with
  | zero => exact ⟨rfl, fun j => (if_neg (by omega)).symm⟩
  | succ i ih =>
    obtain ⟨ihFrame, ihCircuit⟩ := ih
    have off : (s.judged l r reports i).1.rig.autoTransfer = false := by rw [ihFrame]; exact h
    obtain ⟨frame, circuit⟩ := takeHealth_off (l := l) (r := r) (reports := reports) off (i + 1)
    rw [State.judged_succ]
    refine ⟨by rw [frame, ihFrame], fun j => ?_⟩
    have here : (s.judged l r reports i).1.circuit (circuitAt l r (i + 1)) = s.circuit (circuitAt l r (i + 1)) :=
      (ihCircuit (i + 1)).trans (if_neg (by omega))
    rw [circuit, here]
    simp only [circuitAt_inj]
    by_cases hj : j = i + 1
    · subst hj
      rw [if_pos rfl, if_pos (by omega)]
    · rw [if_neg hj, ihCircuit j]
      exact if_congr (by omega) rfl rfl

theorem State.row_judged_off (h : s.rig.autoTransfer = false) (i : Nat) : (s.judged l r reports i).1.row l r = s.row l r := by
  rw [(State.judged_off h i).1]
  rfl

end

/-- Settles O55: the flags first, then the circuits in ascending index, each a step of its own; the row is written last. -/
theorem ready_reply_updates_rack : Obligations.Ready_reply_updates_rack := by
  intro s l r y bytes hr hw hc hy ha hready reported linkAfter
  obtain ⟨t, hexec, taken, circuits⟩ := exec_ready_uncarried hr hw hc hy ha hready
  refine ⟨fun hauto => ⟨t, hexec, ?_, fun i h1 hi => ?_⟩, fun hcanonical => ?_⟩
  · have off : (s.flagged l r y.reports).1.rig.autoTransfer = false := by rw [State.flagged_frame]; exact hauto
    have row : (s.flagged l r y.reports).1.row l r = s.row l r := by rw [State.flagged_frame]; rfl
    rw [State.row_judged_off off, row] at taken
    exact taken
  · intro c c' failing
    have off : (s.flagged l r y.reports).1.rig.autoTransfer = false := by rw [State.flagged_frame]; exact hauto
    have settled : c' = (c.withReports y.reports i).settled y.reports i := by
      rw [← State.circuit_flagged]
      exact (circuits _).trans (((State.judged_off off 32).2 i).trans (if_pos ⟨h1, hi⟩))
    obtain ⟨flag, pairing, resend⟩ := (c.withReports y.reports i).settled_kept y.reports i
    rw [settled]
    refine ⟨fun k => (flag k).trans (Circuit.flag_withReports ..), (Circuit.settled_health ..).trans ?_, Circuit.settled_role ..,
      pairing, resend⟩
    show (if c.role = .ordinary ∧ c.health ≠ .failed then
      if failing then if c.health = .suspect then .failed else .suspect else .ok else c.health : Health) = _
    cases c.health <;> simp
  · have canonical (i : Nat) : ((s.flagged l r y.reports).1.judged l r y.reports i).1.Canonical :=
      .foldlPair (f := takeHealth l r y.reports) (fun x i hx => hx.takeHealth l r y.reports x.2 i) _
        (.foldlPair (f := takeReport l r) (fun _ _ hx => hx.setCircuit ..) y.reports hcanonical)
    refine ⟨t, fun i => ((s.flagged l r y.reports).1.judged l r y.reports i).1, hexec, State.flagged_frame _,
      fun n hn => State.circuit_flagged_outside (parseReply_index hy) hn, fun i _ _ => State.circuit_flagged _ i, fun i h1 hi => ?_,
      taken, circuits⟩
    obtain ⟨j, rfl⟩ : ∃ j, i = j + 1 := ⟨i - 1, by omega⟩
    show State.Judges (State.judged _ l r y.reports j).1 (State.judged _ l r y.reports (j + 1)).1 (circuitAt l r (j + 1))
      (⟨j + 1, .dimmerFail⟩ ∈ y.reports)
    rw [State.judged_succ]
    exact takeHealth_judges (canonical j)

end Sys2Proof.Machine
end

section
/-!
What a READY reply does with the order its poll carried (O56).
-/

namespace Sys2Proof.Machine

section
variable {s t u : State} {l : LinkId} {r : Nat} {w : PendingOrder} {c a : Option Order}

/-! ### The acknowledgement stage, case by case (R149) -/

/-- An order that the poll did not carry, or that is no longer pending, is neither acknowledged nor counted (R149). -/
theorem State.takeAck_uncarried {c : Option Order} (h : (s.row l r).pendingOrder.map PendingOrder.order ≠ c ∨
    (s.row l r).pendingOrder = none) (a : Option Order) : s.takeAck l r c a = (s, false) := by
  unfold State.takeAck
  split
  · rfl
  · rename_i w hw
    rw [hw] at h
    exact if_neg fun e => (h.resolve_right (Option.some_ne_none w)) e.symm

theorem State.takeAck_acked (hp : (s.row l r).pendingOrder = some w) (hc : c = some w.order) (ha : a = some w.order) :
    s.takeAck l r c a = (s.acknowledge l r w.order,
      w.order.kind == .undo && !((s.circuit (circuitAt l r w.order.circuitIndex)).health == .ok)) := by
  simp only [State.takeAck, hp, hc, ha, if_true]

theorem State.takeAck_counted (hp : (s.row l r).pendingOrder = some w) (hc : c = some w.order) (ha : a ≠ some w.order)
    (hn : w.unacknowledged + 1 < 3) :
    s.takeAck l r c a = (s.setPending l r (some { w with unacknowledged := w.unacknowledged + 1 }), false) := by
  simp only [State.takeAck, hp, hc, ha, if_true, if_false, Config.unackLimit, hn]

theorem State.takeAck_abandoned (hp : (s.row l r).pendingOrder = some w) (hc : c = some w.order) (ha : a ≠ some w.order)
    (hn : 3 ≤ w.unacknowledged + 1) : s.takeAck l r c a = (s.abandon l r w.order, false) := by
  simp only [State.takeAck, hp, hc, ha, if_true, if_false, Config.unackLimit, Nat.not_lt.mpr hn]

theorem State.RackOnly.takeAck (s : State) (l : LinkId) (r : Nat) (c a : Option Order) : s.RackOnly l r (s.takeAck l r c a).1 := by
  unfold State.takeAck
  split
  · exact refl s
  · split
    · split
      · exact acknowledge ..
      · split
        · exact setPending ..
        · exact abandon ..
    · exact refl s

/-! ### What an order acknowledged or abandoned leaves (R167 to R169, R177) -/

/-- The order of a rack whose order was removed: its owed order of lowest circuit index (R160). -/
def State.nextOrder (s : State) (l : LinkId) (r : Nat) : Option PendingOrder := (s.owedOrders l r).head?.map fun o => ⟨o, 0⟩

theorem State.row_placeNext_removed (h : (s.row l r).pendingOrder = none) :
    (s.placeNext l r).row l r = { s.row l r with pendingOrder := (s.placeNext l r).nextOrder l r } := by
  rw [State.row_placeNext, if_pos ⟨rfl, rfl⟩, State.placed, h, Option.none_or, State.nextOrder,
    State.owedOrders_congr fun n => State.circuit_placeNext s l r n]

theorem State.row_acknowledge (s : State) (l : LinkId) (r : Nat) (o : Order) :
    (s.acknowledge l r o).row l r = { s.row l r with pendingOrder := (s.acknowledge l r o).nextOrder l r } := by
  have removed : (s.setPending l r none).row l r = { s.row l r with pendingOrder := none } := by
    rw [State.row_setPending, if_pos ⟨rfl, rfl⟩]
  unfold State.acknowledge
  cases o.kind with
  | transfer =>
    have row := ((s.setPending l r none).row_ackTransfer (circuitAt l r o.circuitIndex) (circuitAt l r o.spareIndex) l r).trans removed
    exact (State.row_placeNext_removed (by rw [row])).trans (by rw [row])
  | undo =>
    have row := ((s.setPending l r none).row_ackUndo (circuitAt l r o.circuitIndex) (circuitAt l r o.spareIndex) l r).trans removed
    exact (State.row_placeNext_removed (by rw [row])).trans (by rw [row])

theorem State.row_abandon (s : State) (l : LinkId) (r : Nat) (o : Order) : (s.abandon l r o).row l r =
    { s.row l r with pendingOrder := (s.abandon l r o).nextOrder l r, abandonedNotice := true } := by
  have row : ((s.setRow l r { s.row l r with pendingOrder := none, abandonedNotice := true }).revertPairing o.kind
      (circuitAt l r o.circuitIndex) (circuitAt l r o.spareIndex)).row l r =
      { s.row l r with pendingOrder := none, abandonedNotice := true } := by
    rw [State.row_revertPairing, State.row_setRow, if_pos ⟨rfl, rfl⟩]
  exact (State.row_placeNext_removed (by rw [row])).trans (by rw [row]; rfl)

theorem State.thermal_takeAck (s : State) (l : LinkId) (r : Nat) (c a : Option Order) :
    ((s.takeAck l r c a).1.row l r).thermal = (s.row l r).thermal := by
  unfold State.takeAck
  split
  · rfl
  · split
    · split
      · rw [State.row_acknowledge]
      · split
        · rw [State.row_setPending, if_pos ⟨rfl, rfl⟩]
        · rw [State.row_abandon]
    · rfl

/-- An UNDO acknowledged for a circuit whose health was not OK is news (R148). -/
theorem State.takeAck_undone (hp : (s.row l r).pendingOrder = some w) (hc : c = some w.order) : (s.takeAck l r c a).2 =
    (decide (a = some w.order) && w.order.kind == .undo &&
      (s.circuit (circuitAt l r w.order.circuitIndex)).health != .ok) := by
  by_cases ha : a = some w.order
  · rw [State.takeAck_acked hp hc ha, decide_eq_true ha, Bool.true_and]
    rfl
  · rw [decide_eq_false ha, Bool.false_and, Bool.false_and]
    by_cases hn : w.unacknowledged + 1 < 3
    · rw [State.takeAck_counted hp hc ha hn]
    · rw [State.takeAck_abandoned hp hc ha (Nat.not_lt.mp hn)]

/-! ### The two ends of the pairing -/

/-- From `s` to `u` the two ends of a pairing were written, and no other circuit. -/
def State.Ends (s u : State) (failed spare : Nat) (f p : Circuit) : Prop :=
  ∀ n, u.circuit n = if n = failed then f else if n = spare then p else s.circuit n

section
variable {o : Order} {failed spare : Nat} {f p : Circuit}

theorem State.Ends.of_circuit (h : s.Ends t failed spare f p) (hu : ∀ n, u.circuit n = t.circuit n) : s.Ends u failed spare f p :=
  fun n => (hu n).trans (h n)

theorem State.ends_of_failed (h : ∀ n, u.circuit n = if n = failed then f else s.circuit n) :
    s.Ends u failed spare f (s.circuit spare) := fun n => by
  rw [h]
  refine if_congr Iff.rfl rfl ?_
  split
  · rename_i e; rw [e]
  · rfl

theorem State.ends_setPair (hne : failed ≠ spare) (f p : Circuit) :
    s.Ends ((s.setCircuit failed f).setCircuit spare p) failed spare f p := s.circuit_setPair hne f p

theorem State.ends_revertOrdered (hne : failed ≠ spare) (hp : (s.circuit failed).pairing = .ordered spare) :
    s.Ends (s.revertPairing .transfer failed spare) failed spare { s.circuit failed with pairing := .unpaired }
      { s.circuit spare with role := .spareFree, pairing := .unpaired } := by
  unfold State.revertPairing
  simp only [hp, State.circuit_setCircuit, hne, if_false]
  exact State.ends_setPair hne _ _

theorem State.ends_revertResend (hp : (s.circuit failed).pairing = .confirmed spare) :
    s.Ends (s.revertPairing .transfer failed spare) failed spare { s.circuit failed with resend := false } (s.circuit spare) := by
  refine State.ends_of_failed fun n => ?_
  unfold State.revertPairing
  simp only [hp, State.circuit_setCircuit, eq_comm (a := n)]

theorem State.ends_revertUndo (hne : failed ≠ spare) :
    s.Ends (s.revertPairing .undo failed spare) failed spare { s.circuit failed with pairing := .confirmed spare }
      { s.circuit spare with pairing := .confirmed failed } := by
  unfold State.revertPairing
  simp only [State.circuit_setCircuit, hne, if_false]
  exact State.ends_setPair hne _ _

/-- The acknowledgement of a TRANSFER writes the circuits its changes write, and so for an UNDO and for an abandonment. -/
theorem State.circuit_acknowledge_transfer (s : State) (l : LinkId) (r : Nat) (hk : o.kind = .transfer) (n : Nat) :
    (s.acknowledge l r o).circuit n = (s.ackTransfer (circuitAt l r o.circuitIndex) (circuitAt l r o.spareIndex)).circuit n := by
  unfold State.acknowledge State.ackTransfer
  simp only [hk, State.circuit_placeNext, State.circuit_setPending]
  split <;> cases l <;> rfl

theorem State.circuit_acknowledge_undo (s : State) (l : LinkId) (r : Nat) (hk : o.kind = .undo) (n : Nat) :
    (s.acknowledge l r o).circuit n = (s.ackUndo (circuitAt l r o.circuitIndex) (circuitAt l r o.spareIndex)).circuit n := by
  unfold State.acknowledge State.ackUndo
  simp only [hk, State.circuit_placeNext]
  cases l <;> rfl

theorem State.circuit_abandon (s : State) (l : LinkId) (r : Nat) (o : Order) (n : Nat) : (s.abandon l r o).circuit n =
    (s.revertPairing o.kind (circuitAt l r o.circuitIndex) (circuitAt l r o.spareIndex)).circuit n := by
  unfold State.abandon State.revertPairing
  simp only [State.circuit_placeNext, State.setRow, State.circuit_setLink]
  split <;> cases l <;> rfl

end

/-! ### The rest of the reply -/

/-- The link with no order carried. -/
def State.uncarried (s : State) (l : LinkId) : State := s.setLink l { s.link l with carried := none }

theorem State.closeWindow_uncarried (s : State) (l : LinkId) : (s.uncarried l).closeWindow l = s.closeWindow l := by
  unfold State.closeWindow State.uncarried
  rw [State.link_setLink_self, State.setLink_setLink]

/-- A READY reply is taken from the state before it, whatever its poll carried. -/
theorem exec_ready {bytes : List Byte} {y : ReplyFrame} (hr : rackOk r = true) (hw : (s.link l).window = some r)
    (hy : parseReply bytes = some y) (ha : y.address = r) (hready : y.ready = true) :
    exec (.replyArrival l bytes) s = .next (s.replied l r (s.link l).carried y) ∧
    exec (.replyArrival l bytes) (s.uncarried l) = .next (s.replied l r none y) := by
  have link : (s.uncarried l).link l = { s.link l with carried := none } := State.link_setLink_self ..
  have window : ((s.uncarried l).link l).window = some r := by rw [link]; exact hw
  rw [exec_replyArrival_ready hw hy ha hready, exec_replyArrival_ready window hy ha hready, State.closeWindow_uncarried, link,
    State.takeReady_eq s l hr, State.takeReady_eq s l hr]
  exact ⟨rfl, rfl⟩

/-- A reply ended with news and with more news besides: the row's news is all that differs. -/
theorem State.concluded_news (s : State) (l : LinkId) (r : Nat) (thermal : Thermal) (news more : Bool) :
    let t := s.concluded l r thermal (news || more)
    let t' := s.concluded l r thermal news
    t = { t' with links := t.links } ∧ (∀ m, m ≠ l → t.link m = t'.link m) ∧ t.link l = { t'.link l with rows := (t.link l).rows } ∧
      ∀ r', t.row l r' = if r' = r then { t'.row l r with news := (t'.row l r).news || more } else t'.row l r' := by
  intro t t'
  obtain ⟨⟨frame, others⟩, link, rows⟩ : s.ClosedOn l r { (s.row l r).ready thermal with news := news || more } t := s.closedOn_setRow ..
  obtain ⟨⟨frame', others'⟩, link', rows'⟩ : s.ClosedOn l r { (s.row l r).ready thermal with news := news } t' := s.closedOn_setRow ..
  refine ⟨by rw [frame, frame'], fun m hm => (others m hm).trans (others' m hm).symm, by rw [link, link'], fun r' => ?_⟩
  rw [rows, rows' r, rows' r', if_pos rfl]
  split <;> rfl

end

/-- What the acknowledgement stage left is replied to as by a poll that carried nothing, but for the news of an UNDO (R148). -/
theorem State.replied_uncarried (s : State) (l : LinkId) (r : Nat) (c : Option Order) (y : ReplyFrame) :
    let t := s.replied l r c y
    let t' := (s.takeAck l r c y.ack).1.replied l r none y
    t = { t' with links := t.links } ∧ (∀ m, m ≠ l → t.link m = t'.link m) ∧ t.link l = { t'.link l with rows := (t.link l).rows } ∧
      ∀ r', t.row l r' =
        if r' = r then { t'.row l r with news := (t'.row l r).news || (s.takeAck l r c y.ack).2 } else t'.row l r' := by
  have reorder (warmer undone flagged judged : Bool) :
      (warmer || undone || flagged || judged) = ((warmer || false || flagged || judged) || undone) := by
    cases undone <;> simp
  unfold State.replied
  dsimp only
  rw [State.takeAck_none, State.thermal_takeAck, reorder]
  exact State.concluded_news ..

/-- Settles O56: the acknowledgement stage comes before the row is made ready, and the stages after it do not look at what was carried. -/
theorem orders_are_acknowledged_or_abandoned : Obligations.Orders_are_acknowledged_or_abandoned := by
  intro s l r w y bytes hr hw hy ha hready uncarried
  obtain ⟨hexec, hexec'⟩ := exec_ready hr hw hy ha hready
  refine ⟨fun h => ?_, ?_⟩
  · have unread : s.replied l r (s.link l).carried y = s.replied l r none y := by
      unfold State.replied
      rw [State.takeAck_uncarried h, State.takeAck_none]
    exact (hexec.trans (congrArg Host.Outcome.next unread)).trans hexec'.symm
  · intro hp hc failed spare hne f p acked
    have rack := State.RackOnly.takeAck s l r (s.link l).carried y.ack
    refine ⟨(s.takeAck l r (s.link l).carried y.ack).1, s.replied l r (s.link l).carried y,
      (s.takeAck l r (s.link l).carried y.ack).1.replied l r none y, rack.frame, rack.others, rack.link, rack.rows, ?_, hexec, ?_, ?_⟩
    · have banks {k : OrderKind} (ha : acked) (hk : w.order.kind = k) (b : Nat) :
          (s.takeAck l r (s.link l).carried y.ack).1.bank b = (s.rewriteRecords (k.rewriting failed spare)).bank b := by
        rw [State.takeAck_acked hp hc ha, State.bank, State.acknowledge_banks, hk]
        rfl
      refine ⟨fun ha => ?_, fun ha hk => ⟨banks ha hk, fun hpair => ?_, fun hpair => ?_⟩, fun ha hk => ⟨banks ha hk, ?_⟩, fun ha => ?_,
        fun ha hn => ?_, fun ha hn => ⟨?_, fun hk hpair => ?_, fun hk hpair => ?_, fun hk => ?_⟩⟩
      · rw [State.takeAck_acked hp hc ha]
        exact s.row_acknowledge l r w.order
      · rw [State.takeAck_acked hp hc ha]
        exact State.Ends.of_circuit (State.circuit_ackTransfer hne hpair) (s.circuit_acknowledge_transfer l r hk)
      · rw [State.takeAck_acked hp hc ha]
        exact (State.ends_of_failed (State.circuit_ackResend hpair)).of_circuit (s.circuit_acknowledge_transfer l r hk)
      · rw [State.takeAck_acked hp hc ha]
        exact State.Ends.of_circuit (State.circuit_ackUndo hne) (s.circuit_acknowledge_undo l r hk)
      · by_cases hn : w.unacknowledged + 1 < 3
        · rw [State.takeAck_counted hp hc ha hn]
          exact (s.setRow_patch ..).1
        · rw [State.takeAck_abandoned hp hc ha (Nat.not_lt.mp hn)]
          exact s.abandon_banks ..
      · rw [State.takeAck_counted hp hc ha hn]
        exact ⟨(s.setRow_patch ..).2, by rw [State.row_setPending, if_pos ⟨rfl, rfl⟩]⟩
      · rw [State.takeAck_abandoned hp hc ha hn]
        exact s.row_abandon l r w.order
      · rw [State.takeAck_abandoned hp hc ha hn]
        exact (State.ends_revertOrdered hne hpair).of_circuit (hk ▸ s.circuit_abandon l r w.order)
      · rw [State.takeAck_abandoned hp hc ha hn]
        exact (State.ends_revertResend hpair).of_circuit (hk ▸ s.circuit_abandon l r w.order)
      · rw [State.takeAck_abandoned hp hc ha hn]
        exact (State.ends_revertUndo hne).of_circuit (hk ▸ s.circuit_abandon l r w.order)
    · exact (exec_ready hr (by rw [rack.link]; exact hw) hy ha hready).2
    · have more : (s.takeAck l r (s.link l).carried y.ack).2 = (decide acked && w.order.kind == .undo && f.health != .ok) :=
        State.takeAck_undone hp hc
      exact more ▸ s.replied_uncarried l r (s.link l).carried y

end Sys2Proof.Machine
end

section
/-!
REASSIGN, RESTORE and the automatic choice of a spare (O58).
-/

namespace Sys2Proof.Machine

section
variable {s t t' u : State} {l : LinkId} {r : Nat} {o : Order}

/-! ### No pairing request looks at the ports -/

section
variable (s : State) (q : Ports) (p : Option Port)

theorem State.setCircuit_withPorts (n : Nat) (v : Circuit) : (s.withPorts q p).setCircuit n v = (s.setCircuit n v).withPorts q p := rfl

theorem State.setPending_withPorts (l : LinkId) (r : Nat) (w : Option PendingOrder) :
    (s.withPorts q p).setPending l r w = (s.setPending l r w).withPorts q p := State.setLink_withPorts ..

theorem State.placeOrder_withPorts (l : LinkId) (r : Nat) (o : Order) :
    (s.withPorts q p).placeOrder l r o = (s.placeOrder l r o).withPorts q p := by
  unfold State.placeOrder
  rw [State.row_withPorts, State.setPending_withPorts]
  split <;> rfl

theorem State.pairUp_withPorts (failed spare : Nat) :
    (s.withPorts q p).pairUp failed spare = (s.pairUp failed spare).withPorts q p := by
  simp only [State.pairUp, State.circuit_withPorts, State.setCircuit_withPorts, State.placeOrder_withPorts]

theorem State.oweUndo_withPorts (l : LinkId) (r : Nat) (o : Order) :
    (s.withPorts q p).oweUndo l r o = (s.oweUndo l r o).withPorts q p := by
  unfold State.oweUndo
  rw [State.row_withPorts, State.setPending_withPorts]
  split
  · split <;> rfl
  · rfl

end

/-- The state after an accepted REASSIGN: an ORDINARY circuit fails first, and then the two are paired (R164, R165). -/
def State.reassigned (s : State) (n m : Nat) : State :=
  (if (s.circuit n).role = .ordinary then s.setCircuit n (s.circuit n).failing else s).pairUp n m

/-- The state after an accepted RESTORE: the pairing is RESTORING at both ends and the UNDO is owed (R171, R172). -/
def State.restored (s : State) (n m : Nat) : State :=
  let cleared := s.setCircuit n { s.circuit n with pairing := .restoring m, resend := false }
  (cleared.setCircuit m { cleared.circuit m with pairing := .restoring n }).oweUndo (linkOf n) (rackOf n) ⟨.undo, indexOf n, indexOf m⟩

theorem State.reassigned_withPorts (s : State) (q : Ports) (p : Option Port) (n m : Nat) :
    (s.withPorts q p).reassigned n m = (s.reassigned n m).withPorts q p := by
  unfold State.reassigned
  rw [State.circuit_withPorts, ← State.pairUp_withPorts]
  split <;> rfl

theorem State.restored_withPorts (s : State) (q : Ports) (p : Option Port) (n m : Nat) :
    (s.withPorts q p).restored n m = (s.restored n m).withPorts q p := by
  simp only [State.restored, State.circuit_withPorts, State.setCircuit_withPorts, State.oweUndo_withPorts]

/-- The checks of REASSIGN in their order, and what it does when all are passed. -/
theorem reassign_eq (s : State) (c1 c0 p1 p0 : Byte) : reassign [c1, c0, p1, p0] s =
    if !(circuitOk (word c1 c0) && circuitOk (word p1 p0)) then (s, .refuse .range)
    else if s.rig.locked then (s, .refuse .locked)
    else if !((s.circuit (word c1 c0)).reassignable && (s.circuit (word p1 p0)).role == .spareFree &&
      sameRack (word c1 c0) (word p1 p0)) then (s, .refuse .conflict)
    else (s.reassigned (word c1 c0) (word p1 p0), .done 0 ((s.reassigned (word c1 c0) (word p1 p0)).orderData
      (linkOf (word c1 c0)) (rackOf (word c1 c0)) ⟨.transfer, indexOf (word c1 c0), indexOf (word p1 p0)⟩)) := rfl

/-- The checks of RESTORE in their order, and what it does when all are passed. -/
theorem restore_eq (s : State) (c1 c0 : Byte) : restore [c1, c0] s =
    if !circuitOk (word c1 c0) then (s, .refuse .range)
    else if s.rig.locked then (s, .refuse .locked)
    else if (s.circuit (word c1 c0)).role = .failed then
      match (s.circuit (word c1 c0)).pairing with
      | .confirmed m => (s.restored (word c1 c0) m, .done 0 ((s.restored (word c1 c0) m).orderData
          (linkOf (word c1 c0)) (rackOf (word c1 c0)) ⟨.undo, indexOf (word c1 c0), indexOf m⟩))
      | _ => (s, .refuse .conflict)
    else (s, .refuse .conflict) := rfl

theorem reassign_ignores : IgnoresPorts reassign := by
  intro ps s q p
  match ps with
  | [c1, c0, p1, p0] =>
    simp only [reassign_eq, State.reassigned_withPorts, State.circuit_withPorts, State.rig_withPorts]
    split
    · rfl
    · split
      · rfl
      · split <;> rfl
  | [] | [_] | [_, _] | [_, _, _] | _ :: _ :: _ :: _ :: _ :: _ => rfl

theorem restore_ignores : IgnoresPorts restore := by
  intro ps s q p
  match ps with
  | [c1, c0] =>
    simp only [restore_eq, State.restored_withPorts, State.circuit_withPorts, State.rig_withPorts]
    split
    · rfl
    · split
      · rfl
      · split
        · split <;> rfl
        · rfl
  | [] | [_] | _ :: _ :: _ :: _ => rfl

/-! ### The position of an order among those that wait (R160, R165, R172) -/

/-- Where circuit indices rise, as many orders stand before one as have a lower circuit index. -/
theorem findIdx_eq_countP {xs : List Order} (h : xs.Pairwise fun a b => a.circuitIndex < b.circuitIndex) (ho : o ∈ xs) :
    xs.findIdx (fun x => x == o) = xs.countP fun x => decide (x.circuitIndex < o.circuitIndex) := by
  induction xs with
  | nil => cases ho
  | cons a xs ih =>
    obtain ⟨first, rest⟩ := List.pairwise_cons.mp h
    rw [List.findIdx_cons, List.countP_cons]
    by_cases hao : a = o
    · subst hao
      have none_before : xs.countP (fun x => decide (x.circuitIndex < a.circuitIndex)) = 0 :=
        List.countP_eq_zero.mpr fun x hx => by have := first x hx; simp; omega
      simp [none_before]
    · have hmem := (List.mem_cons.mp ho).resolve_left (Ne.symm hao)
      simp [beq_eq_false_iff_ne.mpr hao, ih rest hmem, first o hmem]

/-- The waiting orders stand in rising circuit index (R160). -/
theorem State.waitingOrders_rising (s : State) (l : LinkId) (r : Nat) :
    (s.waitingOrders l r).Pairwise fun a b => a.circuitIndex < b.circuitIndex := by
  refine List.Pairwise.filter _ (List.Pairwise.filterMap _ (fun i j hij a ha b hb => ?_) List.pairwise_lt_range')
  rw [State.owedOrder_index ha, State.owedOrder_index hb]
  exact hij

theorem State.mem_waitingOrders : o ∈ s.waitingOrders l r ↔
    o ∈ s.owedOrders l r ∧ ∀ w, (s.row l r).pendingOrder = some w → w.order.circuitIndex ≠ o.circuitIndex := by
  unfold State.waitingOrders
  rw [List.mem_filter]
  cases (s.row l r).pendingOrder <;> simp

/-- The waiting orders of lower circuit index than `i`, counted: they do not depend on the circuit at index `i`. -/
theorem State.countP_waitingOrders_congr {i : Nat} (hp : (t.row l r).pendingOrder = (s.row l r).pendingOrder)
    (howed : ∀ j, j ≠ i → t.owedOrder l r j = s.owedOrder l r j) :
    (t.waitingOrders l r).countP (fun x => decide (x.circuitIndex < i)) =
      (s.waitingOrders l r).countP fun x => decide (x.circuitIndex < i) := by
  unfold State.waitingOrders State.owedOrders
  rw [List.countP_filter, List.countP_filter, List.countP_filterMap, List.countP_filterMap, hp]
  refine List.countP_congr fun j _ => ?_
  by_cases hj : j = i
  · have unread (v : State) : ((v.owedOrder l r j).map fun x => decide (x.circuitIndex < i) &&
        decide ((s.row l r).pendingOrder.map (fun w => w.order.circuitIndex) ≠ some x.circuitIndex)).getD false = false := by
      cases ho : v.owedOrder l r j with
      | none => rfl
      | some x => simp [State.owedOrder_index ho, hj]
    rw [unread, unread]
  · rw [howed j hj]

/-- An order in answer data by what is pending after it and who waits (R165, R172): 1 where it was placed, and else 0 and its position. -/
def State.orderAnswer (s : State) (l : LinkId) (r : Nat) (o : Order) (w : Option PendingOrder) : List Byte :=
  enc1 o.kind.code ++ enc1 o.circuitIndex ++ enc1 o.spareIndex ++
    (if w = some ⟨o, 0⟩ then [1]
    else 0 :: enc2 (1 + (s.waitingOrders l r).countP fun x => decide (x.circuitIndex < o.circuitIndex)))

theorem State.orderData_placed (h : (t.row l r).pendingOrder = some ⟨o, 0⟩) :
    t.orderData l r o = s.orderAnswer l r o (some ⟨o, 0⟩) := by
  simp [State.orderData, State.orderAnswer, h, encBool]

/-- An order that waits behind one of another circuit is given its position among those that waited before it was owed. -/
theorem State.orderData_waiting {w : PendingOrder} (hs : (s.row l r).pendingOrder = some w) (ht : (t.row l r).pendingOrder = some w)
    (hw : w.order.circuitIndex ≠ o.circuitIndex) (ho : o ∈ t.owedOrders l r)
    (howed : ∀ j, j ≠ o.circuitIndex → t.owedOrder l r j = s.owedOrder l r j) :
    t.orderData l r o = s.orderAnswer l r o (some w) := by
  have waits : o ∈ t.waitingOrders l r := State.mem_waitingOrders.mpr ⟨ho, fun v hv => Option.some.inj (ht.symm.trans hv) ▸ hw⟩
  have other : w.order ≠ o := fun e => hw (e ▸ rfl)
  have unplaced : w ≠ ⟨o, 0⟩ := fun e => other (e ▸ rfl)
  have position := (findIdx_eq_countP (t.waitingOrders_rising l r) waits).trans (State.countP_waitingOrders_congr (ht.trans hs.symm) howed)
  simp [State.orderData, State.orderAnswer, ht, other, unplaced, position, encBool, Nat.add_comm]

/-! ### What a pairing request writes -/

/-- From `s` to `t` circuits `n` and `m` became `f` and `p` and the pending order of the rack of `n` became `w`; the ports apart nothing else
differs. -/
def State.PairWritten (s : State) (n : Nat) (f : Circuit) (m : Nat) (p : Circuit) (w : Option PendingOrder) (t : State) : Prop :=
  t = { s with circuits := t.circuits, links := t.links, ports := t.ports, servedLast := t.servedLast } ∧
  (∀ x, t.circuit x = if x = n then f else if x = m then p else s.circuit x) ∧
  (∀ l, t.link l = { s.link l with rows := (t.link l).rows }) ∧
  ∀ l r, t.row l r = if l = linkOf n ∧ r = rackOf n then { s.row l r with pendingOrder := w } else s.row l r

section
variable {n m : Nat} {f p : Circuit} {w : Option PendingOrder}

theorem State.FailureWrites.pairWritten (h : s.FailureWrites t n f m p w) (ht : t.SameButPorts t') : s.PairWritten n f m p w t' := by
  obtain ⟨frame, circuit, link, row⟩ := h
  refine ⟨?_, fun x => ?_, fun l => ?_, fun l r => ?_⟩
  · rw [ht, frame]
  · rw [ht.eq]; exact circuit x
  · rw [ht.eq]; exact link l
  · rw [ht.eq]; exact row l r

/-- Where one circuit alone was written, what stands for a second is not read. -/
theorem State.FailureWrites.alone (h : s.FailureWrites t n f n p w) (p' : Circuit) : s.FailureWrites t n f n p' w := by
  obtain ⟨frame, circuit, link, row⟩ := h
  refine ⟨frame, fun x => ?_, link, row⟩
  rw [circuit]
  by_cases hx : x = n
  · rw [if_pos hx, if_pos hx]
  · simp only [if_neg hx]

theorem State.FailureWrites.pending (h : s.FailureWrites t n f m p w) : (t.row (linkOf n) (rackOf n)).pendingOrder = w := by
  obtain ⟨-, -, -, row⟩ := h
  rw [row, if_pos ⟨rfl, rfl⟩]

theorem State.FailureWrites.queued (h : s.FailureWrites t n f m p w) : t.pending = s.pending := by
  rw [h.1]

/-- Where the spare owes no order, before and after, only the order of the circuit itself may have changed. -/
theorem State.FailureWrites.owedOrder_other (h : s.FailureWrites t n f m p w) (hn : circuitOk n = true)
    (hm : (s.circuit m).role ≠ .failed) (hp : p.role ≠ .failed) {j : Nat} (hj : j ≠ indexOf n) :
    t.owedOrder (linkOf n) (rackOf n) j = s.owedOrder (linkOf n) (rackOf n) j := by
  obtain ⟨-, circuit, -, -⟩ := h
  have apart : circuitAt (linkOf n) (rackOf n) j ≠ n := fun e => hj (circuitAt_inj.mp (e.trans (circuitAt_of hn).symm))
  have read := circuit (circuitAt (linkOf n) (rackOf n) j)
  rw [if_neg apart] at read
  by_cases hjm : circuitAt (linkOf n) (rackOf n) j = m
  · rw [if_pos hjm] at read
    rw [State.owedOrder_none (.inl (by rwa [read])), State.owedOrder_none (.inl (by rwa [hjm]))]
  · rw [if_neg hjm] at read
    exact State.owedOrder_congr (by rw [read]) (by rw [read]) (by rw [read])

/-- The order the circuit itself owes is the one of its new pairing (R159). -/
theorem State.FailureWrites.owedOrder_self (h : s.FailureWrites t n f m p w) (hn : circuitOk n = true) (hf : f.role = .failed) :
    (f.pairing = .ordered m → t.owedOrder (linkOf n) (rackOf n) (indexOf n) = some ⟨.transfer, indexOf n, indexOf m⟩) ∧
    (f.pairing = .restoring m → t.owedOrder (linkOf n) (rackOf n) (indexOf n) = some ⟨.undo, indexOf n, indexOf m⟩) := by
  obtain ⟨-, circuit, -, -⟩ := h
  unfold State.owedOrder
  rw [circuitAt_of hn, circuit, if_pos rfl, if_pos hf]
  exact ⟨fun hp => by rw [hp], fun hp => by rw [hp]⟩

/-- The data of the order a pairing request makes owed, whether it was placed or waits behind an order of another circuit (R165, R172). -/
theorem State.FailureWrites.orderData (h : s.FailureWrites t n f m p w) (hn : circuitOk n = true) (hm : (s.circuit m).role ≠ .failed)
    (hp : p.role ≠ .failed) (ho : t.owedOrder (linkOf n) (rackOf n) (indexOf n) = some o)
    (hw : w = some ⟨o, 0⟩ ∨ ∃ v, w = some v ∧ (s.row (linkOf n) (rackOf n)).pendingOrder = some v ∧ v.order.circuitIndex ≠ indexOf n) :
    t.orderData (linkOf n) (rackOf n) o = s.orderAnswer (linkOf n) (rackOf n) o w := by
  have index := State.owedOrder_index ho
  rcases hw with rfl | ⟨v, rfl, hs, hv⟩
  · exact State.orderData_placed h.pending
  · refine State.orderData_waiting hs h.pending (index ▸ hv) (State.mem_owedOrders.mpr ⟨_, indexOf_range n, ho⟩) fun j hj => ?_
    exact h.owedOrder_other hn hm hp (index ▸ hj)

/-! ### REASSIGN (R163 to R165) -/

theorem Circuit.reassignable_iff (c : Circuit) :
    c.reassignable = true ↔ c.role = .ordinary ∨ (c.role = .failed ∧ c.pairing = .unpaired) := by
  simp [Circuit.reassignable]

/-- The pending order of a rack once an order is owed (R160). -/
def State.pendingWith (s : State) (l : LinkId) (r : Nat) (o : Order) : Option PendingOrder :=
  if (s.row l r).pendingOrder = none then some ⟨o, 0⟩ else (s.row l r).pendingOrder

theorem State.failureWrites_reassigned (hne : n ≠ m) (hrole : (s.circuit n).role = .ordinary ∨ (s.circuit n).role = .failed) :
    s.FailureWrites (s.reassigned n m) n { s.circuit n with
        role := .failed, pairing := .ordered m, health := if (s.circuit n).role = .ordinary then .failed else (s.circuit n).health }
      m { s.circuit m with role := .spareHeld, pairing := .ordered n }
      (s.pendingWith (linkOf n) (rackOf n) ⟨.transfer, indexOf n, indexOf m⟩) := by
  unfold State.reassigned
  rcases hrole with ho | hf
  · rw [if_pos ho, if_pos ho]
    exact s.failureWrites_pairUp hne
  · have standing : ¬ (s.circuit n).role = .ordinary := by rw [hf]; nofun
    rw [if_neg standing, if_neg standing, ← hf]
    exact (RackOnly.pairUp ..).failureWrites (State.pairUp_banks ..) (State.row_pairUp ..) (State.circuit_pairUp _ hne)

/-- An accepted REASSIGN: what it writes, and its answer unless an order of the circuit itself was pending. -/
theorem reassign_pairs {c1 c0 p1 p0 : Byte} (hn : circuitOk (word c1 c0) = true) (hm : circuitOk (word p1 p0) = true)
    (hl : s.rig.locked = false) (hc : (s.circuit (word c1 c0)).reassignable = true) (hfree : (s.circuit (word p1 p0)).role = .spareFree)
    (hrack : sameRack (word c1 c0) (word p1 p0) = true) : reassign [c1, c0, p1, p0] s =
      (s.reassigned (word c1 c0) (word p1 p0), .done 0 ((s.reassigned (word c1 c0) (word p1 p0)).orderData
        (linkOf (word c1 c0)) (rackOf (word c1 c0)) ⟨.transfer, indexOf (word c1 c0), indexOf (word p1 p0)⟩)) := by
  simp [reassign_eq, hn, hm, hl, hc, hfree, hrack]

theorem reassign_conflict {c1 c0 p1 p0 : Byte} (hn : circuitOk (word c1 c0) = true) (hm : circuitOk (word p1 p0) = true)
    (hl : s.rig.locked = false) (hnot : ¬ (((s.circuit (word c1 c0)).role = .ordinary ∨
      ((s.circuit (word c1 c0)).role = .failed ∧ (s.circuit (word c1 c0)).pairing = .unpaired)) ∧
      (s.circuit (word p1 p0)).role = .spareFree ∧ linkOf (word c1 c0) = linkOf (word p1 p0) ∧
      rackOf (word c1 c0) = rackOf (word p1 p0))) : reassign [c1, c0, p1, p0] s = (s, .refuse .conflict) := by
  rw [← Circuit.reassignable_iff, ← sameRack_iff] at hnot
  rw [reassign_eq, if_neg (by simp [hn, hm]), if_neg (by simp [hl]), if_pos]
  rw [Bool.not_eq_true', Bool.eq_false_iff]
  simpa only [ne_eq, Bool.and_eq_true, beq_iff_eq, and_assoc] using hnot

theorem State.orderData_reassigned (hn : circuitOk n = true) (hrole : (s.circuit n).role = .ordinary ∨ (s.circuit n).role = .failed)
    (hfree : (s.circuit m).role = .spareFree)
    (hw : ∀ v, (s.row (linkOf n) (rackOf n)).pendingOrder = some v → v.order.circuitIndex ≠ indexOf n) :
    (s.reassigned n m).orderData (linkOf n) (rackOf n) ⟨.transfer, indexOf n, indexOf m⟩ =
      s.orderAnswer (linkOf n) (rackOf n) ⟨.transfer, indexOf n, indexOf m⟩
        (s.pendingWith (linkOf n) (rackOf n) ⟨.transfer, indexOf n, indexOf m⟩) := by
  have hne : n ≠ m := by rintro rfl; rw [hfree] at hrole; simp at hrole
  have writes := State.failureWrites_reassigned hne hrole
  refine writes.orderData hn (by rw [hfree]; nofun) nofun ((writes.owedOrder_self hn rfl).1 rfl) ?_
  unfold State.pendingWith
  cases hp : (s.row (linkOf n) (rackOf n)).pendingOrder with
  | none => exact .inl rfl
  | some v => exact .inr ⟨v, rfl, rfl, hw v hp⟩

theorem reassign_serves {c1 c0 p1 p0 : Byte} (hn : circuitOk (word c1 c0) = true) (hm : circuitOk (word p1 p0) = true)
    (hl : s.rig.locked = false) (hc : (s.circuit (word c1 c0)).role = .ordinary ∨
      ((s.circuit (word c1 c0)).role = .failed ∧ (s.circuit (word c1 c0)).pairing = .unpaired))
    (hfree : (s.circuit (word p1 p0)).role = .spareFree) (hlink : linkOf (word c1 c0) = linkOf (word p1 p0))
    (hrack : rackOf (word c1 c0) = rackOf (word p1 p0)) :
    let n := word c1 c0
    let m := word p1 p0
    let o : Order := ⟨.transfer, indexOf n, indexOf m⟩
    let w := s.pendingWith (linkOf n) (rackOf n) o
    ∃ y, ((∀ v, (s.row (linkOf n) (rackOf n)).pendingOrder = some v → v.order.circuitIndex ≠ indexOf n) →
        y = s.orderAnswer (linkOf n) (rackOf n) o w) ∧
      s.Serves .reassign .reassign [c1, c0, p1, p0] (.done 0 y) (s.PairWritten n { s.circuit n with
          role := .failed, pairing := .ordered m, health := if (s.circuit n).role = .ordinary then .failed else (s.circuit n).health }
        m { s.circuit m with role := .spareHeld, pairing := .ordered n } w) := by
  have hrole : (s.circuit (word c1 c0)).role = .ordinary ∨ (s.circuit (word c1 c0)).role = .failed := hc.imp_right And.left
  have hne : word c1 c0 ≠ word p1 p0 := fun e => by rw [e, hfree] at hrole; simp at hrole
  have writes := State.failureWrites_reassigned hne hrole
  exact ⟨_, State.orderData_reassigned hn hrole hfree, State.serves_of_perform rfl reassign_ignores
    (reassign_pairs hn hm hl ((Circuit.reassignable_iff _).mpr hc) hfree ((sameRack_iff ..).mpr ⟨hlink, hrack⟩)) writes.queued
    fun _ ht => writes.pairWritten ht⟩

/-! ### RESTORE (R171, R172) -/

/-- The pending order of a rack once an UNDO is owed: it takes the place of a TRANSFER of its own circuit (R172). -/
def State.pendingWithUndo (s : State) (l : LinkId) (r : Nat) (o : Order) : Option PendingOrder :=
  match (s.row l r).pendingOrder with
  | none => some ⟨o, 0⟩
  | some w => if w.order.kind = .transfer ∧ w.order.circuitIndex = o.circuitIndex then some ⟨o, 0⟩ else some w

theorem State.oweUndo_eq (s : State) (l : LinkId) (r : Nat) (o : Order) :
    s.oweUndo l r o = s.setPending l r (s.pendingWithUndo l r o) ∨ s.oweUndo l r o = s ∧
      s.pendingWithUndo l r o = (s.row l r).pendingOrder := by
  unfold State.oweUndo State.pendingWithUndo
  cases (s.row l r).pendingOrder with
  | none => exact .inl rfl
  | some w =>
    by_cases hw : w.order.kind = .transfer ∧ w.order.circuitIndex = o.circuitIndex
    · simp only [if_pos hw, true_or]
    · simp only [if_neg hw, and_self, or_true]

theorem State.row_oweUndo (s : State) (l : LinkId) (r : Nat) (o : Order) :
    (s.oweUndo l r o).row l r = { s.row l r with pendingOrder := s.pendingWithUndo l r o } := by
  rcases s.oweUndo_eq l r o with e | ⟨e, he⟩ <;> rw [e]
  · rw [State.row_setPending, if_pos ⟨rfl, rfl⟩]
  · rw [he]

theorem State.RackOnly.oweUndo (s : State) (l : LinkId) (r : Nat) (o : Order) : s.RackOnly l r (s.oweUndo l r o) := by
  rcases s.oweUndo_eq l r o with e | ⟨e, -⟩ <;> rw [e]
  · exact setPending ..
  · exact refl s

theorem State.failureWrites_restored (s : State) (hne : n ≠ m) :
    s.FailureWrites (s.restored n m) n { s.circuit n with pairing := .restoring m, resend := false }
      m { s.circuit m with pairing := .restoring n }
      (s.pendingWithUndo (linkOf n) (rackOf n) ⟨.undo, indexOf n, indexOf m⟩) := by
  unfold State.restored
  refine ((RackOnly.setCircuit ..).trans ((RackOnly.setCircuit ..).trans (RackOnly.oweUndo ..))).failureWrites
    (State.oweUndo_patch ..).1 (State.row_oweUndo ..) fun x => ?_
  rw [State.circuit_congr (State.oweUndo_patch ..).2, State.circuit_setPair s hne, State.circuit_setCircuit, if_neg hne]

theorem restore_restores {c1 c0 : Byte} (hn : circuitOk (word c1 c0) = true) (hl : s.rig.locked = false)
    (hf : (s.circuit (word c1 c0)).role = .failed) (hp : (s.circuit (word c1 c0)).pairing = .confirmed m) : restore [c1, c0] s =
      (s.restored (word c1 c0) m, .done 0 ((s.restored (word c1 c0) m).orderData
        (linkOf (word c1 c0)) (rackOf (word c1 c0)) ⟨.undo, indexOf (word c1 c0), indexOf m⟩)) := by
  simp [restore_eq, hn, hl, hf, hp]

theorem restore_conflict {c1 c0 : Byte} (hn : circuitOk (word c1 c0) = true) (hl : s.rig.locked = false)
    (hc : ¬ ((s.circuit (word c1 c0)).role = .failed ∧ ∃ m, (s.circuit (word c1 c0)).pairing = .confirmed m)) :
    restore [c1, c0] s = (s, .refuse .conflict) := by
  simp only [restore_eq, hn, hl, Bool.not_true, Bool.false_eq_true, if_false]
  split
  · rename_i hf
    split
    · rename_i m hp
      exact absurd ⟨hf, m, hp⟩ hc
    · rfl
  · rfl

theorem State.orderData_restored (hn : circuitOk n = true) (hne : n ≠ m) (hf : (s.circuit n).role = .failed)
    (hm : (s.circuit m).role ≠ .failed)
    (hw : ∀ v, (s.row (linkOf n) (rackOf n)).pendingOrder = some v → v.order.circuitIndex = indexOf n → v.order.kind = .transfer) :
    (s.restored n m).orderData (linkOf n) (rackOf n) ⟨.undo, indexOf n, indexOf m⟩ =
      s.orderAnswer (linkOf n) (rackOf n) ⟨.undo, indexOf n, indexOf m⟩
        (s.pendingWithUndo (linkOf n) (rackOf n) ⟨.undo, indexOf n, indexOf m⟩) := by
  have writes := s.failureWrites_restored hne
  refine writes.orderData hn hm hm ((writes.owedOrder_self hn hf).2 rfl) ?_
  unfold State.pendingWithUndo
  cases hp : (s.row (linkOf n) (rackOf n)).pendingOrder with
  | none => exact .inl rfl
  | some v =>
    by_cases hi : v.order.circuitIndex = indexOf n
    · exact .inl (if_pos ⟨hw v hp hi, hi⟩)
    · exact .inr ⟨v, if_neg fun e => hi e.2, rfl, hi⟩

theorem restore_serves {c1 c0 : Byte} (hn : circuitOk (word c1 c0) = true) (hl : s.rig.locked = false)
    (hf : (s.circuit (word c1 c0)).role = .failed) (hp : (s.circuit (word c1 c0)).pairing = .confirmed m) (hne : m ≠ word c1 c0) :
    let n := word c1 c0
    let o : Order := ⟨.undo, indexOf n, indexOf m⟩
    let w := s.pendingWithUndo (linkOf n) (rackOf n) o
    ∃ y, ((∀ v, (s.row (linkOf n) (rackOf n)).pendingOrder = some v → v.order.circuitIndex = indexOf n → v.order.kind = .transfer) →
        (s.circuit m).role ≠ .failed → y = s.orderAnswer (linkOf n) (rackOf n) o w) ∧
      s.Serves .restore .restore [c1, c0] (.done 0 y) (s.PairWritten n { s.circuit n with pairing := .restoring m, resend := false }
        m { s.circuit m with pairing := .restoring n } w) := by
  have writes := s.failureWrites_restored hne.symm
  exact ⟨_, fun hw hm => State.orderData_restored hn hne.symm hf hm hw, State.serves_of_perform rfl restore_ignores
    (restore_restores hn hl hf hp) writes.queued fun _ ht => writes.pairWritten ht⟩

/-! ### The automatic choice (R162) -/

/-- The count of eligible spares a failure meets is the one before it: a circuit that fails was no free spare. -/
theorem State.eligibleSpares_failing_eq (h : u.Canonical) (hn : (u.circuit n).role ≠ .spareFree) :
    (u.setCircuit n (u.circuit n).failing).eligibleSpares = u.eligibleSpares :=
  (State.eligibleSpares_failing h hn).trans (h.countCircuits rfl).symm

theorem State.confirmFailure_paired (h : u.Canonical) (hn : (u.circuit n).role ≠ .spareFree) (hauto : u.rig.autoTransfer = true)
    (hm : u.candidate (linkOf n) (rackOf n) = some m) (hreserve : u.rig.spareReserve < u.eligibleSpares) :
    u.FailureWrites (u.confirmFailure n) n { (u.circuit n).failing with pairing := .ordered m }
      m { u.circuit m with role := .spareHeld, pairing := .ordered n }
      (u.pendingWith (linkOf n) (rackOf n) ⟨.transfer, indexOf n, indexOf m⟩) := by
  have hne : n ≠ m := by
    rintro rfl
    have eligible := List.find?_some hm
    simp [Circuit.eligibleSpare, hn] at eligible
  rcases u.confirmFailure_cases n with ⟨hoff, -⟩ | ⟨-, m', hm', -, e⟩ | ⟨-, hnone, -⟩
  · rw [hauto] at hoff; cases hoff
  · rw [State.candidate_failing hn, hm] at hm'
    rw [e, ← Option.some.inj hm']
    exact u.failureWrites_pairUp hne
  · rw [State.candidate_failing hn, State.eligibleSpares_failing_eq h hn, hm] at hnone
    exact absurd hreserve (hnone.resolve_left (Option.some_ne_none m))

theorem State.confirmFailure_unpaired (h : u.Canonical) (hn : (u.circuit n).role ≠ .spareFree) (hauto : u.rig.autoTransfer = true)
    (hnone : u.candidate (linkOf n) (rackOf n) = none ∨ u.eligibleSpares ≤ u.rig.spareReserve) :
    u.confirmFailure n = (u.setCircuit n (u.circuit n).failing).setCircuit n (u.circuit n).failing.marked := by
  rcases u.confirmFailure_cases n with ⟨hoff, -⟩ | ⟨-, m, hm, hreserve, -⟩ | ⟨-, -, e⟩
  · rw [hauto] at hoff; cases hoff
  · rw [State.candidate_failing hn] at hm
    rw [State.eligibleSpares_failing_eq h hn] at hreserve
    rcases hnone with hnone | hle
    · exact absurd (hnone.symm.trans hm).symm (Option.some_ne_none m)
    · exact absurd hreserve (Nat.not_lt.mpr hle)
  · exact e

end

end

/-- Settles O58: each request is followed through its checks; what is accepted writes the two circuits and the rack's pending order, and
the position in the answer counts the waiting orders of lower circuit index. -/
theorem pairing_requests : Obligations.Pairing_requests := by
  intro s c1 c0 p1 p0 n sp c order pending changes placed answer
  have unspare (hrole : c.role = .ordinary ∨ c.role = .failed) : c.role ≠ .spareFree := by rcases hrole with e | e <;> rw [e] <;> nofun
  refine ⟨fun h => ?_, fun h => ?_, fun hn hsp hl hrole hfree hlink hrack => ?_, fun hn hsp hl hnot => ?_, fun hn hl hnot => ?_,
    fun m hn hl hf hp hne => ?_, fun h hauto hrole => ⟨fun m hm hreserve => ?_, fun hnone => ?_⟩⟩
  · exact State.serves_unchanged rfl reassign_ignores (by rcases h with h | h <;> simp [reassign_eq, n, sp, h])
  · exact State.serves_unchanged rfl restore_ignores (by simp [restore_eq, n, h])
  · exact reassign_serves hn hsp hl hrole hfree hlink hrack
  · exact State.serves_unchanged rfl reassign_ignores (reassign_conflict hn hsp hl hnot)
  · exact State.serves_unchanged rfl restore_ignores (restore_conflict hn hl hnot)
  · exact restore_serves hn hl hf hp hne
  · exact (State.confirmFailure_paired h (unspare hrole) hauto hm hreserve).pairWritten (.refl _)
  · rw [State.confirmFailure_unpaired h (unspare hrole) hauto hnone]
    exact ((s.failureWrites_marked n).alone c).pairWritten (.refl _)

end Sys2Proof.Machine
end

section
/-!
Which request the engine takes next (O14), and the console reset line (O20).
-/

namespace Sys2Proof.Machine

/-! ### The engine's choice (R189) -/

section
variable {s : State} {p : Port} {r : Request}

theorem PortState.eligible_eq_true {q : PortState} : q.eligible = true ↔ q.queue ≠ [] ∧ q.headHeld = false := by
  simp [PortState.eligible]

theorem PortState.eligible_eq_false {q : PortState} : q.eligible = false ↔ q.queue = [] ∨ q.headHeld = true := by
  rw [← Bool.not_eq_true, PortState.eligible_eq_true, not_and_or, not_not, Bool.not_eq_false]

/-- The port chosen is eligible, and the other one is not, or was served last, or none was and it is port 2. -/
theorem State.choosePort_iff : s.choosePort = some p ↔ (s.port p).eligible = true ∧
    ((s.port (otherPort p)).eligible = false ∨ s.servedLast = some (otherPort p) ∨ (s.servedLast = none ∧ p = .p1)) := by
  unfold State.choosePort
  cases h1 : (s.port .p1).eligible <;> cases h2 : (s.port .p2).eligible
  case true.true => cases p <;> rcases s.servedLast with _ | _ | _ <;> simp [otherPort, h1, h2]
  all_goals cases p <;> simp [otherPort, h1, h2]

theorem State.nextRequest_iff_choosePort :
    s.nextRequest = some (p, r) ↔ s.choosePort = some p ∧ (s.port p).queue.head? = some r := by
  unfold State.nextRequest
  cases s.choosePort with
  | none => simp
  | some p' =>
    by_cases hp : p' = p
    · subst hp
      cases hq : (s.port p').queue <;> simp [hq]
    · cases hq : (s.port p').queue <;> simp [hq, hp]

/-- The request taken next is the head of its port's queue, and no held one. -/
theorem State.queue_of_nextRequest (h : s.nextRequest = some (p, r)) : ∃ rest, (s.port p).queue = r :: rest :=
  List.head?_eq_some_iff.mp (State.nextRequest_iff_choosePort.mp h).2

end

/-- Settles O14: the engine chooses an eligible port, and takes the head of its queue. -/
theorem engine_takes_alternately : Obligations.Engine_takes_alternately := by
  intro s p r
  rw [State.nextRequest_iff_choosePort, State.choosePort_iff, PortState.eligible_eq_true, PortState.eligible_eq_false, or_assoc]
  constructor
  · rintro ⟨⟨⟨-, unheld⟩, other⟩, head⟩
    exact ⟨head, unheld, other⟩
  · rintro ⟨head, unheld, other⟩
    exact ⟨⟨⟨fun empty => by simp [empty] at head, unheld⟩, other⟩, head⟩

/-! ### The console reset line (R196) -/

/-- Under reset an arrival is discarded, whatever its row. -/
theorem State.onFrame_of_reset {s : State} (h : s.resetLine = true) (p : Port) (xs : List LineSymbol)
    (take : FrameClass → State → Option State) : s.onFrame p xs take = s := if_pos h

/-- Settles O20: the assertion writes the ports, the port served last and the line; while it stands no port receives or sends. -/
theorem console_reset_reaches_ports_alone : Obligations.Console_reset_reaches_ports_alone := by
  refine fun s => ⟨⟨_, rfl, rfl, fun p => by cases p <;> rfl⟩, rfl, fun h p symbols => ⟨?_, ?_, ?_, if_pos h⟩⟩
  · exact congrArg _ (State.onFrame_of_reset h p symbols _)
  · exact congrArg _ (State.onFrame_of_reset h p symbols _)
  · exact congrArg _ (State.onFrame_of_reset h p symbols _)

end Sys2Proof.Machine
end

section
/-!
The frames of the console ports (O12): the codes, what the bytes of an ended frame are read as, and reception.
-/

namespace Sys2Proof.Machine

/-! ### Codes (R191) -/

/-- A code number names the one request of that code. -/
theorem ReqCode.ofCode_eq_some {n : Nat} {c : ReqCode} : ReqCode.ofCode n = some c ↔ c.code = n := by
  refine ⟨fun h => ?_, fun h => h ▸ (Laws.code_readback c).1⟩
  unfold ReqCode.ofCode at h
  split at h <;> cases h <;> rfl

/-- The code byte of a request reads as its code number. -/
theorem ReqCode.toNat_code (c : ReqCode) : (BitVec.ofNat 8 c.code).toNat = c.code := by
  rw [BitVec.toNat_ofNat, Nat.mod_eq_of_lt (Laws.code_readback c).2.2]

/-- The code byte of a request is not that of data frames. -/
theorem ReqCode.ofNat_code_ne (c : ReqCode) : BitVec.ofNat 8 c.code ≠ dataCode := fun h =>
  (Laws.code_readback c).2.1 (h ▸ c.toNat_code.symm)

/-! ### What a frame is read as (R180, R184) -/

section
variable {sq code len : Byte} {params check : List Byte}

/-- How a frame with all its bytes is read: by its length, its check and its code, in this order. -/
theorem classifyFrame_framed (hp : params.length = len.toNat) : classifyFrame (sq :: code :: len :: params ++ check) =
    if 58 < len.toNat ∨ check ≠ wordBytes (frameCheck (sq :: code :: len :: params)) then .malformed sq code
    else if code = dataCode then .data ⟨sq, params⟩
    else (ReqCode.ofCode code.toNat).elim (.malformed sq code) fun c => .request ⟨sq, c, params⟩ := by
  simp only [List.cons_append, classifyFrame, ← hp, List.take_left, List.drop_left]
  by_cases hlong : 58 < params.length
  · rw [if_pos hlong, if_pos (.inl hlong)]
  · simp only [gt_iff_lt, hlong, if_false, false_or]
    cases ReqCode.ofCode code.toNat <;> rfl

/-- Where two bytes stand after the parameters, the parameters are all there, and the frame is those bytes closed. -/
theorem closeFrame_of_check {rest : List Byte} {n : Nat} (h : rest.drop len.toNat = wordBytes n) :
    (rest.take len.toNat).length = len.toNat ∧ rest = rest.take len.toNat ++ wordBytes n := by
  have hlen := congrArg List.length h
  rw [List.length_drop] at hlen
  refine ⟨List.length_take_of_le ?_, ?_⟩
  · have : (wordBytes n).length = 2 := rfl
    omega
  · rw [← h, List.take_append_drop]

/-- Bytes read as other than malformed are a frame of at most 58 parameter bytes, closed by its check. -/
theorem eq_closeFrame_of_wellFormed {bytes : List Byte} (h : ∀ sq code, classifyFrame bytes ≠ .malformed sq code) :
    ∃ sq code params, params.length ≤ 58 ∧ bytes = closeFrame (sq :: code :: BitVec.ofNat 8 params.length :: params) := by
  match bytes with
  | [] | [_] | [_, _] => exact absurd rfl (h _ _)
  | sq :: code :: len :: rest =>
    simp only [classifyFrame] at h
    split_ifs at h with hlong hcheck
    · exact absurd rfl (h sq code)
    · exact absurd rfl (h sq code)
    all_goals
      obtain ⟨hlen, hrest⟩ := closeFrame_of_check (not_not.mp hcheck)
      refine ⟨sq, code, rest.take len.toNat, hlen.trans_le (Nat.not_lt.mp hlong), ?_⟩
      rw [hlen, BitVec.ofNat_toNat, BitVec.setWidth_eq, closeFrame, List.cons_append, List.cons_append, List.cons_append, ← hrest]

/-- How a closed frame of at most 58 parameter bytes is read: by its code. -/
theorem classifyFrame_closeFrame (h : params.length ≤ 58) :
    classifyFrame (closeFrame (sq :: code :: BitVec.ofNat 8 params.length :: params)) =
      if code = dataCode then .data ⟨sq, params⟩
      else (ReqCode.ofCode code.toNat).elim (.malformed sq code) fun c => .request ⟨sq, c, params⟩ := by
  rw [closeFrame, classifyFrame_framed (toNat_frameLength h).symm, toNat_frameLength h, if_neg]
  simpa using h

end

section
variable {r : Request} {d : DataFrame} {bytes : List Byte}

theorem classifyFrame_requestFrame (h : r.params.length ≤ 58) : classifyFrame (requestFrame r) = .request r := by
  rw [requestFrame, classifyFrame_closeFrame h, if_neg r.code.ofNat_code_ne, r.code.toNat_code, (Laws.code_readback r.code).1]
  rfl

/-- A request has one spelling. -/
theorem eq_requestFrame_of_classifyFrame (h : classifyFrame bytes = .request r) : bytes = requestFrame r ∧ r.params.length ≤ 58 := by
  obtain ⟨sq, code, params, hlen, rfl⟩ := eq_closeFrame_of_wellFormed (by rw [h]; nofun)
  rw [classifyFrame_closeFrame hlen] at h
  split_ifs at h
  cases hc : ReqCode.ofCode code.toNat <;> rw [hc] at h <;> cases h
  rename_i c
  have hcode : BitVec.ofNat 8 c.code = code := by rw [ReqCode.ofCode_eq_some.mp hc, BitVec.ofNat_toNat, BitVec.setWidth_eq]
  exact ⟨by rw [requestFrame, hcode], hlen⟩

/-- A data frame has one spelling. -/
theorem eq_dataFrame_of_classifyFrame (h : classifyFrame bytes = .data d) : bytes = dataFrame d ∧ d.data.length ≤ 58 := by
  obtain ⟨sq, code, params, hlen, rfl⟩ := eq_closeFrame_of_wellFormed (by rw [h]; nofun)
  rw [classifyFrame_closeFrame hlen] at h
  split_ifs at h with hcode
  · cases h; exact ⟨by rw [dataFrame, hcode], hlen⟩
  · cases hc : ReqCode.ofCode code.toNat <;> rw [hc] at h <;> cases h

/-- A frame of its full length is malformed by its length, its check or its code. -/
theorem classifyFrame_malformed {sq code len : Byte} {params check : List Byte} (hp : params.length = len.toNat)
    (h : 58 < len.toNat ∨ check ≠ wordBytes (frameCheck (sq :: code :: len :: params)) ∨
      (code ≠ dataCode ∧ ReqCode.ofCode code.toNat = none)) :
    classifyFrame (sq :: code :: len :: params ++ check) = .malformed sq code := by
  rw [classifyFrame_framed hp]
  split_ifs with hwrong hdata
  · rfl
  · exact absurd hdata (h.elim (fun long => absurd (.inl long) hwrong) (·.elim (fun bad => absurd (.inr bad) hwrong) And.left))
  · rcases h with long | bad | ⟨-, unknown⟩
    · exact absurd (.inl long) hwrong
    · exact absurd (.inr bad) hwrong
    · rw [unknown]; rfl

/-- A frame that ended before the second byte of its check is malformed. -/
theorem classifyFrame_unfinished {part : List Byte} (h : frameComplete part = false) :
    classifyFrame part = .malformed (part.getD 0 0) (part.getD 1 0) := by
  match part with
  | [] | [_] | [_, _] => rfl
  | sq :: code :: len :: rest =>
    have short : rest.drop len.toNat ≠ wordBytes (frameCheck (sq :: code :: len :: rest.take len.toNat)) := fun e => by
      have hlen := congrArg List.length e
      rw [List.length_drop] at hlen
      have : (wordBytes (frameCheck (sq :: code :: len :: rest.take len.toNat))).length = 2 := rfl
      simp only [frameComplete, decide_eq_false_iff_not] at h
      omega
    simp only [classifyFrame, if_pos short, ite_self]
    rfl

end

/-! ### Reception (R184) -/

/-- Bytes outside a frame are discarded. -/
theorem receive_outside (bytes : List Byte) : receive none (bytes.map .byte) = (none, []) := by
  induction bytes with
  | nil => rfl
  | cons b bytes ih => rw [List.map_cons, receive_cons, receiveSymbol, ih]; rfl

/-- A frame ends at the second byte of its check. -/
theorem receive_onLine {sq code len : Byte} {rest : List Byte} (h : rest.length = len.toNat + 2) :
    receive none (onLine (sq :: code :: len :: rest)) = (none, [sq :: code :: len :: rest]) := by
  rw [onLine, receive_cons, receiveSymbol, receive_rest h _ [] (List.cons_ne_nil _ _) rfl]
  rfl

/-- What is complete stays complete with more bytes. -/
theorem frameComplete_append {part : List Byte} (more : List Byte) (h : frameComplete part = true) :
    frameComplete (part ++ more) = true := by
  match part with
  | [] | [_] | [_, _] => cases h
  | _ :: _ :: len :: rest =>
    simp only [frameComplete, List.cons_append, decide_eq_true_eq, List.length_append] at h ⊢
    omega

/-- The bytes of a frame still short of its check stand in the receive buffer. -/
theorem receive_part (more : List Byte) : ∀ part, frameComplete (part ++ more) = false →
    receive (some part) (more.map .byte) = (some (part ++ more), []) := by
  induction more with
  | nil => intro part _; rw [List.append_nil]; rfl
  | cons b more ih =>
    intro part h
    rw [List.append_cons] at h ⊢
    have incomplete : frameComplete (part ++ [b]) = false := by
      rw [← Bool.not_eq_true]
      intro complete
      rw [frameComplete_append more complete] at h
      cases h
    rw [List.map_cons, receive_cons, receiveSymbol, if_neg (by rw [incomplete]; nofun), ih _ h]
    rfl

/-- Settles O12: a well-formed frame is its own closed bytes, the rest is malformed by length, check or code, and a frame ends where
its check does. -/
theorem port_frames_round_trip : Obligations.Port_frames_round_trip := by
  refine ⟨⟨fun _ => classifyFrame_requestFrame, fun _ => classifyFrame_dataFrame, fun _ _ => eq_requestFrame_of_classifyFrame,
      fun _ _ => eq_dataFrame_of_classifyFrame⟩, fun _ _ _ _ _ hp _ => classifyFrame_malformed hp,
    fun _ => classifyFrame_unfinished,
    ⟨rfl, rfl, rfl, rfl, rfl, rfl, rfl, rfl, fun _ _ => ReqCode.ofCode_eq_some, fun c => (Laws.code_readback c).2⟩,
    ?_, fun part xs h => ⟨?_, rfl⟩⟩
  · intro outside bytes check sq code len xs hp hc frame
    have hlen : (bytes ++ check).length = len.toNat + 2 := by rw [List.length_append, hp, hc]
    have hframe : receive none (onLine frame) = (none, [frame]) := receive_onLine hlen
    simp only [receive_append, receive_outside, hframe, List.nil_append, List.singleton_append]
  · rw [onLine, receive_cons, receiveSymbol, receive_part part [] h]
    rfl

end Sys2Proof.Machine
end

section
/-!
Every step keeps the bounds of the console ports (O6): of every item what it may hold, and of an open transfer its tally.
-/

namespace Sys2Proof.Machine

/-! ### What a command other than a request row does to the ports -/

/-- From `s` to `t` the ports are as they were, or are emptied, or one of them has one of its events. -/
inductive State.PortEvent (s : State) : State → Prop
  | apart {t} (same : t.ports = s.ports) : PortEvent s t
  | emptied {t} (empty : t.ports = State.reset.ports) : PortEvent s t
  | requestFrame (p : Port) (xs : List LineSymbol) : PortEvent s (s.onFrame p xs (takeRequest p))
  | malformedFrame (p : Port) (xs : List LineSymbol) : PortEvent s (s.onFrame p xs (takeMalformed p))
  | dataFrame (p : Port) (xs : List LineSymbol) : PortEvent s (s.onFrame p xs (takeData p))
  | heldFrame (p : Port) : PortEvent s (s.deliverHeld p)
  | timeout (p : Port) : PortEvent s (s.closeEarly p)
  | heldClear (p : Port) (r : Request) :
      PortEvent s ((Machine.deskClear r.params (s.popQueue p)).1.answer p r (Machine.deskClear r.params (s.popQueue p)).2)
  | sent (p : Port) : PortEvent s (s.setPort p { s.port p with outgoing := (s.port p).outgoing.tail })

theorem exec_portEvent {c : Instr} {s t : State} (hc : c.requestCode = none) (hx : exec c s = .next t) : s.PortEvent t := by
  cases c <;> cases hc
  case powerOn.refl x y =>
    rcases exec_powerOn_cases hx with ⟨-, e⟩ | ⟨-, e⟩ <;> rw [e]
    · exact .emptied rfl
    · exact .emptied ((((State.placeAll_only _ .a).trans (State.placeAll_only _ .b)).trans (State.placeAll_only _ .c)).trans
        (State.placeAll_only _ .d)).kept.1
  case consoleReset.refl => cases hx; exact .emptied rfl
  case consoleResetRelease.refl => cases hx; exact .apart rfl
  case requestFrameArrival.refl p xs => cases hx; exact .requestFrame p xs
  case malformedFrameArrival.refl p xs => cases hx; exact .malformedFrame p xs
  case dataFrameArrival.refl p xs => cases hx; exact .dataFrame p xs
  case dataHoldDelivery.refl p => cases hx; exact .heldFrame p
  case inactivityTimeout.refl p =>
    simp only [exec, execInactivityTimeout] at hx
    split at hx <;> cases hx
    · exact .timeout p
    · exact .apart rfl
  case heldDeskClearPerformed.refl =>
    simp only [exec, execHeldDeskClearPerformed] at hx
    split at hx
    · cases hx; exact .apart rfl
    · split at hx <;> cases hx
      · exact .apart rfl
      · exact .heldClear ..
  case switchEvent.refl =>
    simp only [exec, execSwitchEvent] at hx
    split at hx <;> cases hx <;> exact .apart rfl
  case fadeInterval.refl =>
    simp only [exec, execFadeInterval] at hx
    have ports := (State.setChangeover_ports s.fadeTick s.fadeTick.changeover.tick).trans s.fadeTick_only.kept.1
    split at hx
    · exact .apart (Host.Outcome.next.inj hx ▸ ports)
    · exact Host.Outcome.next.inj hx ▸ .apart rfl
  case frameDue.refl l =>
    simp only [exec, execFrameDue_eq] at hx
    have ports : (s.framed l).ports = s.ports := ((s.windowSilent_only l).trans (State.setLink_only ..)).kept.1
    split at hx
    · exact .apart (Host.Outcome.next.inj hx ▸ ports)
    · exact Host.Outcome.next.inj hx ▸ .apart rfl
  case pollFrameEnd.refl l =>
    simp only [exec, execPollFrameEnd] at hx
    split at hx <;> cases hx
    · exact .apart rfl
    · exact .apart (s.setLink_only ..).kept.1
  case windowExpiry.refl l => cases hx; exact .apart (s.windowSilent_only l).kept.1
  case replyArrival.refl l bytes => exact .apart (State.replyArrival_only hx).kept.1
  case answerWhollySent.refl p =>
    simp only [exec, execAnswerWhollySent] at hx
    split at hx <;> cases hx
    · exact .apart rfl
    · exact .sent p

/-! ### Tallies -/

/-- A patch load's tally (R20, R186). -/
structure LoadTransfer.Tallied (t : LoadTransfer) : Prop where
  bank : bankOk t.bank = true
  announced : t.announced ≤ 1024
  applied : t.applied ≤ t.received
  failure : t.firstFailure = none ↔ t.applied = t.received

/-- A look write's tally (R52, R186). -/
structure WriteTransfer.Tallied (t : WriteTransfer) : Prop where
  bank : bankOk t.bank = true
  number : lookOk t.number = true
  announced : t.announced ≤ 1024
  staged : t.staged.length = t.received

/-- A transfer that may stand open: tallied, and short of its count. -/
def Transfer.Open : Transfer → Prop
  | .load t => t.Tallied ∧ t.received < t.announced
  | .write t => t.Tallied ∧ t.received < t.announced

/-- A failed record is counted as received alone, and a stored one as applied too. -/
theorem LoadTransfer.Tallied.loadRecord {x : State × LoadTransfer} (h : x.2.Tallied) (r : Nat × Nat × Nat) :
    (loadRecord x r).2.Tallied := by
  rw [loadRecord_snd]
  cases x.1.recordOutcome x.2.bank r with
  | some o =>
    have applied := h.applied
    refine { h with applied := Nat.le_succ_of_le applied, failure := iff_of_false ?_ (by dsimp only; omega) }
    cases x.2.firstFailure <;> nofun
  | none => exact { h with applied := Nat.succ_le_succ h.applied, failure := h.failure.trans Nat.succ_inj.symm }

theorem LoadTransfer.Tallied.loadFrame {t : LoadTransfer} (h : t.Tallied) (s : State) (data : List Byte) :
    (loadFrame s t data).2.Tallied := by
  rw [loadFrame_eq]
  exact List.foldlRecOn (motive := fun x : State × LoadTransfer => x.2.Tallied) _ _ h fun _ hx r _ => hx.loadRecord r

theorem WriteTransfer.Tallied.stageFrame {t : WriteTransfer} (h : t.Tallied) (data : List Byte) : (stageFrame t data).Tallied :=
  stageFrame_keeps (fun _ _ hw => { hw with staged := by rw [stageEntry, List.length_append, hw.staged]; rfl }) data h

/-- A transfer is opened tallied and with nothing received. -/
theorem opening_open {code : ReqCode} {r : Request} {u : State} {tr : Transfer} (h : code.opening r u = .ok tr) : tr.Open := by
  cases code <;> try cases h
  case patchLoad =>
    simp only [ReqCode.opening, patchLoadOpening] at h
    split at h
    · split at h
      · cases h
      · cases h
        obtain ⟨inRange, -⟩ := State.editable_of_refusal ‹_›
        simp only [Bool.and_eq_true, decide_eq_true_eq] at inRange
        exact ⟨⟨inRange.1.1, inRange.2, Nat.le_refl 0, iff_of_true rfl rfl⟩, inRange.1.2⟩
    · cases h
  case lookWrite =>
    simp only [ReqCode.opening, lookWriteOpening] at h
    split at h
    · split at h
      · split at h
        · cases h
        · split at h
          · cases h
            obtain ⟨inRange, -⟩ := State.editable_of_refusal ‹_›
            simp only [Bool.and_eq_true, decide_eq_true_eq] at inRange
            exact ⟨⟨inRange.1.1.1, inRange.1.1.2, inRange.2, rfl⟩, inRange.1.2⟩
          · cases h
      · cases h
    · cases h

/-! ### One port -/

namespace PortState.Ok

variable {q : PortState}

/-- The open transfer of a port within its bounds. -/
theorem transferOpen (h : q.Ok) {tr : Transfer} (htr : q.transfer = some tr) : tr.Open := by
  cases tr with
  | load t => obtain ⟨bank, short, announced, applied, failure⟩ := h.load t htr; exact ⟨⟨bank, announced, applied, failure⟩, short⟩
  | write t =>
    obtain ⟨bank, number, short, announced, staged⟩ := h.write t htr
    exact ⟨⟨bank, number, announced, staged⟩, short⟩

/-- A transfer stands open with its timer running. -/
theorem opened (h : q.Ok) {tr : Transfer} (htr : tr.Open) :
    ({ q with transfer := some tr, inactivityTimer := .running } : PortState).Ok where
  __ := h
  timer := iff_of_true rfl rfl
  load t ht := by cases ht; exact ⟨htr.1.bank, htr.2, htr.1.announced, htr.1.applied, htr.1.failure⟩
  write t ht := by cases ht; exact ⟨htr.1.bank, htr.1.number, htr.2, htr.1.announced, htr.1.staged⟩

/-- A port with no transfer and its timer stopped. -/
theorem dropped (h : q.Ok) : ({ q with transfer := none, inactivityTimer := .stopped } : PortState).Ok :=
  { h with timer := iff_of_false nofun nofun, load := nofun, write := nofun }

theorem outgoing (h : q.Ok) (as : List Answer) : ({ q with outgoing := as } : PortState).Ok := { h with }

/-- Frames leave the data hold. -/
theorem heldRest (h : q.Ok) {ds : List DataFrame} (hds : ds.Sublist q.dataHold) : ({ q with dataHold := ds } : PortState).Ok :=
  { h with hold := hds.length_le.trans h.hold, holdData := fun d hd => h.holdData d (hds.subset hd) }

theorem closed (h : q.Ok) : q.closed.Ok := by
  have timer : (if q.transfer.isSome then Timer.stopped else q.inactivityTimer) = .stopped := by
    cases hs : q.transfer.isSome with
    | true => rfl
    | false =>
      have := mt h.timer.mp (by rw [hs]; nofun)
      cases ht : q.inactivityTimer with
      | stopped => rfl
      | running => exact absurd ht this
  rw [PortState.closed, timer]
  exact h.dropped.outgoing _

/-- The head of the queue leaves it. -/
theorem popped (h : q.Ok) : ({ q with queue := q.queue.tail, headHeld := false } : PortState).Ok :=
  { h with
    queue := (List.tail_sublist _).length_le.trans h.queue
    params := fun r hr => h.params r (List.mem_of_mem_tail hr)
    held := nofun }

theorem afterTaking (h : q.Ok) : q.afterTaking.Ok := h.closed.popped

theorem answering (h : q.Ok) (a : Answer) : (q.answering a).Ok := h.outgoing _

/-- A request joins the queue while fewer than 4 wait there. -/
theorem joined (h : q.Ok) (room : q.queue.length < Config.queueDepth) {r : Request} (hr : r.params.length ≤ Config.maxParams) :
    ({ q with queue := q.queue ++ [r] } : PortState).Ok :=
  { h with
    queue := by rw [List.length_append]; exact room
    params := by simpa [or_imp, forall_and] using And.intro h.params hr
    held := fun hh => by
      obtain ⟨head, rest, hq, isClear⟩ := h.held hh
      exact ⟨head, rest ++ [r], by rw [hq]; rfl, isClear⟩ }

/-- A data frame joins the data hold while it holds fewer than 8. -/
theorem heldToo (h : q.Ok) (room : q.dataHold.length < Config.holdDepth) {d : DataFrame} (hd : d.data.length ≤ Config.maxParams) :
    ({ q with dataHold := q.dataHold ++ [d] } : PortState).Ok :=
  { h with
    hold := by rw [List.length_append]; exact room
    holdData := by simpa [or_imp, forall_and] using And.intro h.holdData hd }

/-- A DESK-CLEAR without parameters is held at the head of its queue. -/
theorem headHolding (h : q.Ok) {r : Request} {rest : List Request} (hq : q.queue = r :: rest) (hc : r.code = .deskClear)
    (hp : r.params = []) : ({ q with headHeld := true } : PortState).Ok := { h with held := fun _ => ⟨r, rest, hq, hc, hp⟩ }

end PortState.Ok

/-! ### The operations -/

namespace State.PortsOk

variable {s t : State}

theorem of_ports (h : s.PortsOk) (hp : t.ports = s.ports) : t.PortsOk := fun p => by
  have : t.port p = s.port p := by cases p <;> simp only [State.port, hp]
  exact this ▸ h p

theorem setPort (h : s.PortsOk) (p : Port) {v : PortState} (hv : v.Ok) : (s.setPort p v).PortsOk := fun q => by
  rw [State.port_setPort]
  split
  · exact hv
  · exact h q

theorem closeEarly (h : s.PortsOk) (p : Port) : (s.closeEarly p).PortsOk := by
  rw [State.closeEarly_eq]; exact h.setPort p (h p).closed

theorem taken (h : s.PortsOk) (p : Port) : (s.taken p).PortsOk := by
  rw [State.taken_eq]; exact (h.setPort p (h p).afterTaking).of_ports rfl

theorem produce (h : s.PortsOk) (p : Port) (a : Answer) : (s.produce p a).PortsOk := h.setPort p ((h p).answering a)

theorem answer (h : s.PortsOk) (p : Port) (r : Request) (y : Reply) : (s.answer p r y).PortsOk := h.produce p _

/-- The transfer closes, or stays open short of its count, as its tally after the frame has it. -/
theorem deliver (h : s.PortsOk) {p : Port} {tr : Transfer} (htr : (s.port p).transfer = some tr) (data : List Byte) :
    (s.deliver p tr data).PortsOk := by
  have full {u : State} (hu : u.PortsOk) (a : Answer) : (u.closeFull p a).PortsOk := by
    rw [State.closeFull_eq]
    exact hu.setPort p (((hu p).dropped.heldRest (List.nil_sublist _)).outgoing _)
  have kept {u : State} (hu : u.PortsOk) {tr' : Transfer} (short : tr'.Open) : (u.keepTransfer p tr').PortsOk :=
    hu.setPort p ((hu p).opened short)
  have tallied := (h p).transferOpen htr
  unfold State.deliver
  cases tr with
  | load t =>
    have loaded : (loadFrame s t data).1.PortsOk := h.of_ports (by rw [loadFrame_frame])
    dsimp only
    split
    · exact full loaded _
    · exact kept loaded ⟨tallied.1.loadFrame s data, Nat.not_le.mp ‹_›⟩
  | write t =>
    dsimp only
    split
    · exact full (h.of_ports (by rw [decideWrite_frame])) _
    · exact kept h ⟨tallied.1.stageFrame data, Nat.not_le.mp ‹_›⟩

theorem deliverHeld (h : s.PortsOk) (p : Port) : (s.deliverHeld p).PortsOk := by
  unfold State.deliverHeld
  split
  · exact h
  · rename_i d rest hold
    have left : (s.setPort p { s.port p with dataHold := rest }).PortsOk :=
      h.setPort p ((h p).heldRest (hold ▸ List.sublist_cons_self d rest))
    split
    · exact left.deliver (by simpa) d.data
    · split
      · exact h
      · exact left.produce p _

theorem deliverAllHeld (h : s.PortsOk) (p : Port) (n : Nat) : (s.deliverAllHeld p n).PortsOk := by
  induction n generalizing s with
  | zero => exact h
  | succ n ih =>
    unfold State.deliverAllHeld
    split
    · exact ih (h.deliverHeld p)
    · exact h

/-! ### Arrivals -/

/-- An arrival leaves no complete frame in the receive buffer, and keeps the bounds if its event does. -/
theorem onFrame (h : s.PortsOk) (p : Port) (xs : List LineSymbol) {take : FrameClass → State → Option State}
    (event : ∀ {frame u v}, take (classifyFrame frame) u = some v → u.PortsOk → v.PortsOk) : (s.onFrame p xs take).PortsOk := by
  have buffered : (s.buffering p (receive (s.port p).receiveBuffer xs).1).PortsOk :=
    h.setPort p { h p with buffer := receive_incomplete _ xs (h p).buffer }
  rcases s.onFrame_cases p xs take with ⟨-, e⟩ | ⟨-, -, e⟩ | ⟨frame, v, -, -, hv, e⟩ | e <;> rw [e]
  · exact h
  · exact buffered
  · exact event hv buffered
  · exact h

theorem takeRequest {p : Port} {frame : List Byte} (ht : takeRequest p (classifyFrame frame) s = some t) (h : s.PortsOk) :
    t.PortsOk := by
  cases hf : classifyFrame frame with
  | request r =>
    simp only [hf, Machine.takeRequest] at ht
    split at ht <;> cases ht
    · exact (h.closeEarly p).setPort p ((h.closeEarly p p).joined ‹_› (eq_requestFrame_of_classifyFrame hf).2)
    · exact (h.closeEarly p).answer p r _
  | data d => rw [hf] at ht; cases ht
  | malformed sq code => rw [hf] at ht; cases ht

theorem takeMalformed {p : Port} {f : FrameClass} (ht : takeMalformed p f s = some t) (h : s.PortsOk) : t.PortsOk := by
  cases f <;> cases ht
  split
  · exact h.produce p _
  · exact (h.closeEarly p).produce p _

theorem takeData {p : Port} {frame : List Byte} (ht : takeData p (classifyFrame frame) s = some t) (h : s.PortsOk) :
    t.PortsOk := by
  cases hf : classifyFrame frame with
  | data d =>
    have delivered := h.deliverAllHeld p (s.port p).dataHold.length
    simp only [hf, Machine.takeData] at ht
    split at ht
    · cases ht; exact delivered.deliver ‹_› d.data
    · split at ht <;> cases ht
      · rename_i room
        rw [Bool.and_eq_true, decide_eq_true_eq] at room
        exact delivered.setPort p ((delivered p).heldToo room.2 (eq_dataFrame_of_classifyFrame hf).2)
      · exact delivered.produce p _
  | request r => rw [hf] at ht; cases ht
  | malformed sq code => rw [hf] at ht; cases ht

/-! ### Requests -/

theorem serve (h : s.PortsOk) (code : ReqCode) : (s.serve code code.perform).PortsOk := by
  rcases serve_perform_cases (s := s) (code := code) rfl with e | ⟨p, r, -, -, e⟩ <;> rw [e]
  · exact h
  · exact ((h.taken p).of_ports (perform_ports ..)).answer p r _

theorem serveOpening (h : s.PortsOk) (code : ReqCode) : (s.serveOpening code code.opening).PortsOk := by
  unfold State.serveOpening
  split
  · exact h
  · rename_i p r _
    split
    · dsimp only
      split
      · exact (h.taken p).setPort p ((h.taken p p).opened (opening_open ‹_›))
      · exact ((h.taken p).setPort p ((h.taken p p).heldRest (List.nil_sublist _))).answer p r _
    · exact h

/-- A DESK-CLEAR is served, or held at the head of its queue. -/
theorem execDeskClear (h : s.PortsOk) (hx : execDeskClear s = .next t) : t.PortsOk := by
  unfold Machine.execDeskClear at hx
  split at hx
  · exact Host.Outcome.next.inj hx ▸ h
  · rename_i p r hn
    split at hx
    · rename_i isClear
      obtain ⟨rest, hq⟩ := State.queue_of_nextRequest hn
      have queue : ((s.closeEarly p).port p).queue = r :: rest := by
        rw [State.closeEarly_eq, State.port_setPort, if_pos rfl]; exact hq
      cases hx
      exact ((h.closeEarly p).setPort p ((h.closeEarly p p).headHolding queue isClear.1 isClear.2.1)).of_ports rfl
    · exact Host.Outcome.next.inj hx ▸ h.serve .deskClear

theorem request (h : s.PortsOk) {c : Instr} {code : ReqCode} (hc : c.requestCode = some code) (hx : exec c s = .next t) :
    t.PortsOk := by
  cases ha : code.announcing with
  | true =>
    rw [exec_serveOpening hc ha] at hx
    exact Host.Outcome.next.inj hx ▸ h.serveOpening code
  | false =>
    by_cases hd : code = .deskClear
    · subst hd
      obtain rfl : c = .deskClear := by cases c <;> cases hc; rfl
      exact h.execDeskClear hx
    · rw [exec_serve hc ha hd] at hx
      exact Host.Outcome.next.inj hx ▸ h.serve code

/-! ### Commands -/

theorem portEvent (h : s.PortsOk) (event : s.PortEvent t) : t.PortsOk := by
  cases event with
  | apart same => exact h.of_ports same
  | emptied empty =>
    exact State.PortsOk.of_ports (s := State.reset) (fun p => by rw [State.reset_port]; exact PortState.initial_ok) empty
  | requestFrame p xs => exact h.onFrame p xs State.PortsOk.takeRequest
  | malformedFrame p xs => exact h.onFrame p xs State.PortsOk.takeMalformed
  | dataFrame p xs => exact h.onFrame p xs State.PortsOk.takeData
  | heldFrame p => exact h.deliverHeld p
  | timeout p => exact h.closeEarly p
  | heldClear p r =>
    have performed := perform_ports .deskClear r.params (s.popQueue p)
    exact ((h.setPort p (h p).popped).of_ports performed).answer p r _
  | sent p => exact h.setPort p ((h p).outgoing _)

theorem exec (h : s.PortsOk) {c : Instr} (hx : exec c s = .next t) : t.PortsOk := by
  cases hc : c.requestCode with
  | some code => exact h.request hc hx
  | none => exact h.portEvent (exec_portEvent hc hx)

end State.PortsOk

/-- Settles O6: every operation on a port keeps its bounds, and no command reaches the ports but through them. -/
theorem port_bounds_kept : Obligations.Port_bounds_kept := by
  intro s t h hx
  rcases step_cases hx with rfl | ⟨c, rest, -, hexec⟩
  · exact h
  · exact State.PortsOk.exec (s := { s with pending := rest }) (h.of_ports rfl) hexec

end Sys2Proof.Machine
end

section
/-!
The arrivals on a console port (O17): request frames, malformed frames, data frames with and without frames held before them, and
symbols that end no frame.
-/

namespace Sys2Proof.Machine

section
variable {s : State} {p : Port} {xs : List LineSymbol} {buffer : Option (List Byte)}

/-! ### One port written -/

/-- An event that writes one port leaves the rest. -/
theorem State.setPort_leaves (s : State) (p : Port) (v : PortState) : s.SameButPort (s.setPort p v) p ∧ (s.setPort p v).port p = v :=
  ⟨s.setPort_sameButPort p v, by rw [State.port_setPort, if_pos rfl]⟩

theorem State.setPort_self : s.setPort p (s.port p) = s := by cases p <;> rfl

theorem State.setPort_setPort (v w : PortState) : (s.setPort p v).setPort p w = s.setPort p w := by cases p <;> rfl

theorem State.port_buffering : (s.buffering p buffer).port p = { s.port p with receiveBuffer := buffer } :=
  (s.setPort_leaves p _).2

theorem State.buffering_self (h : (s.port p).receiveBuffer = buffer) : s.buffering p buffer = s := by
  subst h; exact State.setPort_self

/-- An arrival whose frame's event writes the port, in the state with the receive buffer moved, writes the port alone. -/
theorem State.onFrame_leaves {frame : List Byte} {take : FrameClass → State → Option State} {v w : PortState}
    (hr : s.resetLine = false) (hx : receive (s.port p).receiveBuffer xs = (buffer, [frame]))
    (h : take (classifyFrame frame) (s.buffering p buffer) = some ((s.buffering p buffer).setPort p v)) (hv : v = w) :
    s.SameButPort (s.onFrame p xs take) p ∧ (s.onFrame p xs take).port p = w := by
  have written : s.onFrame p xs take = s.setPort p v := by
    rw [s.onFrame_eq hr hx, h, State.buffering, State.setPort_setPort]
    rfl
  rw [written, ← hv]
  exact s.setPort_leaves p v

/-- Symbols that end no frame move the receive buffer alone. -/
theorem State.onFrame_part (hr : s.resetLine = false) (hx : receive (s.port p).receiveBuffer xs = (buffer, []))
    (take : FrameClass → State → Option State) : s.onFrame p xs take = s.buffering p buffer := by
  simp only [State.onFrame, hr, hx, Bool.false_eq_true, if_false]

/-! ### Request frames and malformed frames (R184, R185) -/

/-- A request frame closes the port's transfer and joins the queue, or is answered BUSY. -/
theorem takeRequest_eq (r : Request) : takeRequest p (.request r) s = some (s.setPort p
    (if (s.port p).closed.queue.length < 4 then { (s.port p).closed with queue := (s.port p).closed.queue ++ [r] }
    else (s.port p).closed.answering (r.answered ⟨.busy, 0, []⟩))) := by
  simp only [takeRequest, State.closeEarly_eq, State.port_setPort, if_true, State.answer_eq, State.setPort_setPort]
  split <;> rfl

/-- A malformed frame is answered, with the port's transfer closed before it unless its code is that of data frames. -/
theorem takeMalformed_eq (sq code : Byte) : takeMalformed p (.malformed sq code) s = some (s.setPort p
    ((if code = dataCode then s.port p else (s.port p).closed).answering (malformedAnswer sq code))) := by
  simp only [takeMalformed]
  split
  · rfl
  · rw [State.closeEarly_eq, State.produce, State.setPort_setPort, State.port_setPort, if_pos rfl]
    rfl

/-! ### Announcing (R183, R191) -/

theorem ReqCode.announcing_iff {c : ReqCode} : c.announcing = true ↔ c = .patchLoad ∨ c = .lookWrite := by
  cases c <;> simp [ReqCode.announcing]

theorem PortState.announces_iff {q : PortState} :
    q.announces = true ↔ ∃ r, q.queue.getLast? = some r ∧ (r.code = .patchLoad ∨ r.code = .lookWrite) := by
  simp [PortState.announces, Option.any_eq_true, ReqCode.announcing_iff]

theorem PortState.awaitsOpening_iff {q : PortState} :
    q.awaitsOpening = true ↔ ∃ r ∈ q.queue, r.code = .patchLoad ∨ r.code = .lookWrite := by
  simp [PortState.awaitsOpening, ReqCode.announcing_iff]

theorem PortState.awaitsOpening_eq_false {q : PortState} :
    q.awaitsOpening = false ↔ ∀ r ∈ q.queue, r.code ≠ .patchLoad ∧ r.code ≠ .lookWrite := by
  rw [← Bool.not_eq_true, PortState.awaitsOpening_iff]
  simp

theorem PortState.awaitsOpening_of_announces {q : PortState} (h : q.announces = true) : q.awaitsOpening = true := by
  obtain ⟨r, hr, announcing⟩ := PortState.announces_iff.mp h
  exact PortState.awaitsOpening_iff.mpr ⟨r, List.mem_of_getLast? hr, announcing⟩

/-! ### Held frames without a transfer (R186, assumption log 10) -/

/-- A port on which these data frames were answered MALFORMED, with `rest` left in the data hold. -/
def PortState.refusing (q : PortState) (ds rest : List DataFrame) : PortState :=
  { q with dataHold := rest, outgoing := q.outgoing ++ ds.map fun d => malformedAnswer d.sequence dataCode }

theorem PortState.refusing_refusing (q : PortState) (ds ds' rest rest' : List DataFrame) :
    (q.refusing ds rest).refusing ds' rest' = q.refusing (ds ++ ds') rest' := by
  simp [PortState.refusing]

theorem PortState.refusing_nil {q : PortState} (h : q.dataHold = []) : q.refusing [] [] = q := by
  rw [PortState.refusing, List.map_nil, List.append_nil, ← h]

/-- The frames held for an opening wait. -/
theorem State.deliverHeld_waits (ht : (s.port p).transfer = none) (ha : (s.port p).awaitsOpening = true) : s.deliverHeld p = s := by
  unfold State.deliverHeld
  split
  · rfl
  · simp only [ht, ha, if_true]

/-- With no opening to come the frame at the front of the hold is answered MALFORMED. -/
theorem State.deliverHeld_refuses {d : DataFrame} {rest : List DataFrame} (ht : (s.port p).transfer = none)
    (ha : (s.port p).awaitsOpening = false) (hold : (s.port p).dataHold = d :: rest) :
    s.deliverHeld p = s.setPort p ((s.port p).refusing [d] rest) := by
  unfold State.deliverHeld
  simp only [hold]
  split
  · rename_i ht'
    cases ht.symm.trans ht'
  · rw [ha, if_neg nofun, State.produce, State.setPort_setPort, State.port_setPort, if_pos rfl]
    rfl

/-- With no opening to come every held frame is answered MALFORMED. -/
theorem State.deliverAllHeld_refuses (ht : (s.port p).transfer = none) (ha : (s.port p).awaitsOpening = false)
    {ds : List DataFrame} (hold : (s.port p).dataHold = ds) :
    s.deliverAllHeld p ds.length = s.setPort p ((s.port p).refusing ds []) := by
  induction ds generalizing s with
  | nil => rw [PortState.refusing_nil hold, State.setPort_self]; rfl
  | cons d rest ih =>
    have decides : (s.port p).decides = true := by rw [PortState.decides, ha]; exact Bool.or_true _
    have front := (s.setPort_leaves p ((s.port p).refusing [d] rest)).2
    rw [List.length_cons, State.deliverAllHeld, if_pos decides, State.deliverHeld_refuses ht ha hold,
      ih (by rw [front]; exact ht) (by rw [front]; exact ha) (by rw [front]; rfl), front, State.setPort_setPort,
      PortState.refusing_refusing]
    rfl

/-- A port with no open transfer after a data frame arrived on it (R187). -/
def PortState.takingData (q : PortState) (d : DataFrame) : PortState :=
  if q.announces then
    if q.dataHold.length < 8 then { q with dataHold := q.dataHold ++ [d] } else q.answering (malformedAnswer d.sequence dataCode)
  else if q.awaitsOpening then q.answering (malformedAnswer d.sequence dataCode)
  else q.refusing (q.dataHold ++ [d]) []

theorem PortState.takingData_receiveBuffer (q : PortState) (d : DataFrame) (buffer : Option (List Byte)) :
    ({ q with receiveBuffer := buffer } : PortState).takingData d = { q.takingData d with receiveBuffer := buffer } := by
  have announces : ({ q with receiveBuffer := buffer } : PortState).announces = q.announces := rfl
  have awaits : ({ q with receiveBuffer := buffer } : PortState).awaitsOpening = q.awaitsOpening := rfl
  simp only [PortState.takingData, announces, awaits]
  split_ifs <;> rfl

theorem takeData_closed (ht : (s.port p).transfer = none) (d : DataFrame) :
    takeData p (.data d) s = some (s.setPort p ((s.port p).takingData d)) := by
  cases ha : (s.port p).awaitsOpening with
  | true =>
    have waits : (s.port p).decides = false := by rw [PortState.decides, ht, ha]; rfl
    simp only [takeData, s.deliverAllHeld_waits p _ waits, ht, PortState.takingData, ha, if_true]
    cases (s.port p).announces with
    | false => rfl
    | true => by_cases room : (s.port p).dataHold.length < 8 <;> simp only [room, decide_true, decide_false] <;> rfl
  | false =>
    have quiet : (s.port p).announces = false := by
      rw [← Bool.not_eq_true]
      intro h
      rw [PortState.awaitsOpening_of_announces h] at ha
      cases ha
    have refused := (s.setPort_leaves p ((s.port p).refusing (s.port p).dataHold [])).2
    have quiet' : ((s.port p).refusing (s.port p).dataHold []).announces = false := quiet
    simp only [takeData, State.deliverAllHeld_refuses ht ha rfl, refused]
    split
    · rename_i ht'
      cases ht.symm.trans ht'
    · rw [quiet', Bool.false_and, if_neg nofun, State.produce, refused, State.setPort_setPort, PortState.takingData, quiet, ha,
        if_neg nofun, if_neg nofun, ← PortState.refusing_refusing _ _ _ []]
      rfl

/-! ### Held frames first (R186) -/

/-- A delivery to the open transfer leaves the receive buffer, and holds no more frames. -/
theorem State.deliver_leaves (u : State) (tr : Transfer) (data : List Byte) :
    ((u.deliver p tr data).port p).receiveBuffer = (u.port p).receiveBuffer ∧
      ((u.deliver p tr data).port p).dataHold.length ≤ (u.port p).dataHold.length := by
  cases tr with
  | load t =>
    have loaded : (loadFrame u t data).1.port p = u.port p := by rw [loadFrame_frame]; cases p <;> rfl
    rw [State.deliver_load, State.port_setPort, if_pos rfl, loaded]
    split
    · exact ⟨rfl, Nat.zero_le _⟩
    · exact ⟨rfl, Nat.le_refl _⟩
  | write t =>
    have decided : (decideWrite (stageFrame t data) u).1.port p = u.port p := by rw [decideWrite_frame]; cases p <;> rfl
    simp only [State.deliver]
    split
    · rw [State.closeFull_eq, State.port_setPort, if_pos rfl, decided]; exact ⟨rfl, Nat.zero_le _⟩
    · rw [State.keepTransfer, State.port_setPort, if_pos rfl]; exact ⟨rfl, Nat.le_refl _⟩

/-- A delivery of the held frame at the front, where it does not wait, leaves the receive buffer, and holds fewer frames. -/
theorem State.deliverHeld_leaves (h : (s.port p).decides = true) :
    ((s.deliverHeld p).port p).receiveBuffer = (s.port p).receiveBuffer ∧
      ((s.deliverHeld p).port p).dataHold.length ≤ (s.port p).dataHold.length - 1 := by
  unfold State.deliverHeld
  split
  · exact ⟨rfl, by simp only [*, List.length_nil, Nat.le_refl, Nat.zero_sub]⟩
  · rename_i d rest hold
    have front := (s.setPort_leaves p { s.port p with dataHold := rest }).2
    rw [hold, List.length_cons, Nat.add_sub_cancel]
    split
    · rename_i tr _
      have left := State.deliver_leaves (p := p) (s.setPort p { s.port p with dataHold := rest }) tr d.data
      rwa [front] at left
    · rename_i ht
      rw [PortState.decides, ht] at h
      rw [if_neg (by simpa using h), State.produce, State.port_setPort, if_pos rfl, front]
      exact ⟨rfl, Nat.le_refl _⟩

/-- Once as many deliveries are due as frames are held, one more changes nothing. -/
theorem State.deliverAllHeld_succ {n : Nat} (h : (s.port p).dataHold.length ≤ n) :
    s.deliverAllHeld p (n + 1) = s.deliverAllHeld p n := by
  induction n generalizing s with
  | zero =>
    have none : s.deliverHeld p = s := by
      simp only [State.deliverHeld, List.length_eq_zero_iff.mp (Nat.le_zero.mp h)]
    simp only [State.deliverAllHeld, none, ite_self]
  | succ n ih =>
    rw [State.deliverAllHeld]
    conv => rhs; rw [State.deliverAllHeld]
    split
    · rename_i decides
      exact ih ((State.deliverHeld_leaves decides).2.trans (by omega))
    · rfl

theorem State.deliverAllHeld_of_le {n : Nat} (h : (s.port p).dataHold.length ≤ n) :
    s.deliverAllHeld p n = s.deliverAllHeld p (s.port p).dataHold.length := by
  induction n, h using Nat.le_induction with
  | base => rfl
  | succ n h ih => rw [State.deliverAllHeld_succ h, ih]

/-- Taking all held frames that do not wait begins with the first of them. -/
theorem State.deliverAllHeld_deliverHeld (h : (s.port p).decides = true) (hold : (s.port p).dataHold ≠ []) :
    (s.deliverHeld p).deliverAllHeld p ((s.deliverHeld p).port p).dataHold.length =
      s.deliverAllHeld p (s.port p).dataHold.length := by
  obtain ⟨d, rest, e⟩ := List.exists_cons_of_ne_nil hold
  have shorter := (State.deliverHeld_leaves h).2
  rw [e, List.length_cons, Nat.add_sub_cancel] at shorter
  rw [e, List.length_cons, State.deliverAllHeld, if_pos h, State.deliverAllHeld_of_le shorter]

/-- A data frame is taken as if the first held frame had been delivered before it. -/
theorem takeData_deliverHeld (h : (s.port p).decides = true) (hold : (s.port p).dataHold ≠ []) (d : DataFrame) :
    takeData p (.data d) (s.deliverHeld p) = takeData p (.data d) s := by
  simp only [takeData, State.deliverAllHeld_deliverHeld h hold]

theorem takeData_isSome (d : DataFrame) : ∃ t, takeData p (.data d) s = some t := by
  unfold takeData
  dsimp only
  split
  · exact ⟨_, rfl⟩
  · split <;> exact ⟨_, rfl⟩

theorem onFrame_takeData_deliverHeld {d : DataFrame} (hr : s.resetLine = false) (hb : (s.port p).receiveBuffer = none)
    (hx : receive none xs = (none, [dataFrame d])) (hd : d.data.length ≤ 58) (h : (s.port p).decides = true)
    (hold : (s.port p).dataHold ≠ []) : s.onFrame p xs (takeData p) = (s.deliverHeld p).onFrame p xs (takeData p) := by
  obtain ⟨t, ht⟩ := takeData_isSome (s := s) (p := p) d
  have arrives {u : State} (hr : u.resetLine = false) (hb : (u.port p).receiveBuffer = none)
      (ht : takeData p (.data d) u = some t) : u.onFrame p xs (takeData p) = t := by
    rw [u.onFrame_eq hr (by rw [hb]; exact hx), State.buffering_self hb, classifyFrame_dataFrame hd, ht]
    rfl
  have hr' : (s.deliverHeld p).resetLine = false := by rw [(s.deliverHeld_delivery p).1]; exact hr
  rw [arrives hr hb ht, arrives hr' ((State.deliverHeld_leaves h).1.trans hb) ((takeData_deliverHeld h hold d).trans ht)]

end

/-- Settles O17: each frame's event writes its port alone, and a data frame's begins with the held frames that do not wait. -/
theorem arriving_frames_without_transfer_data : Obligations.Arriving_frames_without_transfer_data := by
  refine ⟨fun s p xs buffer r hr hx hlen => ?_, fun s p xs buffer frame sq code hr hx hf => ?_,
    fun s p xs buffer d hr hx hlen ht => ?_, fun s t p xs d hr hx hb hlen hold free hexec => ?_,
    fun s p d rest hold ht => ⟨fun waits => ?_, fun free => ?_⟩, fun s p xs buffer hr hx => ?_⟩
  · have event := takeRequest_eq (s := s.buffering p buffer) (p := p) r
    rw [State.port_buffering] at event
    exact ⟨_, rfl, State.onFrame_leaves hr hx (by rw [classifyFrame_requestFrame hlen]; exact event) rfl⟩
  · have event := takeMalformed_eq (s := s.buffering p buffer) (p := p) sq code
    rw [State.port_buffering] at event
    refine ⟨_, rfl, State.onFrame_leaves hr hx (by rw [hf, event]) ?_⟩
    split <;> rfl
  · have event := takeData_closed (s := s.buffering p buffer) (p := p) (by rw [State.port_buffering]; exact ht) d
    rw [State.port_buffering, PortState.takingData_receiveBuffer] at event
    refine ⟨_, rfl, State.onFrame_leaves hr hx (by rw [classifyFrame_dataFrame hlen, event]) ?_⟩
    simp only [PortState.takingData, PortState.announces_iff, PortState.awaitsOpening_iff]
    rfl
  · have decides : (s.port p).decides = true := by
      rw [PortState.decides, Bool.or_eq_true, Bool.not_eq_true', PortState.awaitsOpening_eq_false, Option.isSome_iff_ne_none]
      exact free
    obtain rfl := Host.Outcome.next.inj hexec
    exact congrArg Host.Outcome.next (onFrame_takeData_deliverHeld hr hb (hb ▸ hx) hlen decides hold)
  · exact congrArg _ (State.deliverHeld_waits ht (PortState.awaitsOpening_iff.mpr waits))
  · have refused := State.deliverHeld_refuses ht (PortState.awaitsOpening_eq_false.mpr free) hold
    exact ⟨_, congrArg Host.Outcome.next refused, s.setPort_leaves p _⟩
  · have moved (take : FrameClass → State → Option State) := State.onFrame_part hr hx take
    obtain ⟨same, port⟩ := s.setPort_leaves p { s.port p with receiveBuffer := buffer }
    exact ⟨_, same, port, congrArg _ (moved _), congrArg _ (moved _), congrArg _ (moved _)⟩

end Sys2Proof.Machine
end

section
/-!
Requests of a wrong parameter length (O15).
-/

namespace Sys2Proof.Machine

section
variable {s : State} {code : ReqCode} {ps : List Byte}

/-- A request that is performed at once looks at its parameter length first. -/
theorem perform_of_wrong_length (ha : code.announcing = false) (h : code.lengthOk ps = false) :
    code.perform ps s = (s, .refuse .malformed) := by
  cases code <;> try cases ha
  all_goals simp only [ReqCode.perform, Machine.patchSet, Machine.patchSetIf, Machine.patchClear, Machine.patchClearIf,
    Machine.patchClearChannel, Machine.patchSwap, Machine.patchRange, Machine.patchReadChannel, Machine.patchReadCircuit,
    Machine.bankCopy, Machine.bankErase, setBankLock, Machine.circuitSet, Machine.circuitRead, Machine.rigSet, Machine.rigRead,
    setRigLock, Machine.curveLoad, Machine.curveRead, Machine.lookRead, Machine.lookDelete, Machine.go, Machine.release,
    Machine.hold, Machine.resume, Machine.stopLoop, Machine.master, Machine.deskClear, Machine.playbackRead, Machine.fadeRead,
    Machine.channelRead, Machine.capture, Machine.uncapture, Machine.grand, Machine.blackout, Machine.mixerRead,
    Machine.outputRead, Machine.changeover, Machine.rackSet, Machine.rackRead, Machine.faultClear, Machine.reassign,
    Machine.restore, Machine.transferRead, Machine.status, Machine.statusAck]
  case circuitSet =>
    split
    · rename_i c1 c0 selection fields
      have wrong : fields.length ≠ selectionLength selection := by simpa [ReqCode.lengthOk, Nat.add_comm 3] using h
      exact if_pos wrong
    · rfl
  case curveLoad =>
    split
    · rename_i c points
      have wrong : points.length ≠ 34 := by simpa [ReqCode.lengthOk] using h
      exact if_pos wrong
    · rfl
  all_goals
    split
    · cases h
    · rfl

/-- So does the opening of an announcing request. -/
theorem opening_of_wrong_length {r : Request} (h : r.code.lengthOk r.params = false) :
    r.code.opening r s = .error .malformed := by
  cases hc : r.code <;> try rfl
  case patchLoad =>
    simp only [ReqCode.opening, patchLoadOpening]
    split
    · rename_i hps
      rw [hc, hps] at h; cases h
    · rfl
  case lookWrite =>
    simp only [ReqCode.opening, lookWriteOpening]
    split
    · rename_i hps
      rw [hc, hps] at h; cases h
    · rfl

/-- A request that is performed at once is served, unless it is a DESK-CLEAR without parameters. -/
theorem exec_serve_of_params {c : Instr} {p : Port} {r : Request} (hc : c.requestCode = some r.code)
    (ha : r.code.announcing = false) (hn : s.nextRequest = some (p, r)) (hclear : r.code = .deskClear → r.params ≠ []) :
    exec c s = .next (s.serve r.code r.code.perform) := by
  by_cases hd : r.code = .deskClear
  · rw [hd] at hc ⊢
    obtain rfl : c = .deskClear := by cases c <;> cases hc; rfl
    simp only [exec, execDeskClear, hn, hclear hd, false_and, and_false, if_false]
    rfl
  · exact exec_serve hc ha hd s

end

/-- Settles O15: every request looks at its parameter length before all else, and a refusal writes its port alone. -/
theorem wrong_length_is_malformed : Obligations.Wrong_length_is_malformed := by
  rintro s c _ p r hc hn rfl h
  cases ha : r.code.announcing with
  | true =>
    obtain ⟨t, hx, same, last, other, port⟩ := exec_announcing hc ha hn
    rw [opening_of_wrong_length h] at port
    exact ⟨t, hx, same, last, other, port⟩
  | false =>
    have served : s.serve r.code r.code.perform = (s.taken p).answer p r (.refuse .malformed) := by
      rw [State.serve_next s _ hn rfl, perform_of_wrong_length ha h]
    have params (hd : r.code = .deskClear) : r.params ≠ [] := fun e => by rw [hd, e] at h; cases h
    obtain ⟨same, other⟩ := (s.taken_onlyServed p).setPort (((s.taken p).port p).answering (r.answered (.refuse .malformed)))
    refine ⟨_, (exec_serve_of_params hc ha hn params).trans (congrArg _ served), same, ?_, other, ?_⟩
    · rw [State.taken_eq]; cases p <;> rfl
    · rw [State.answer_eq, State.port_setPort, if_pos rfl, State.taken_port, if_neg nofun]
      rfl

end Sys2Proof.Machine
end
